-- ==== Sys2Proof/Word.lean ====
section
/-! DEFINITION. The byte of the K64's frames and the index types of its numbered records. -/

namespace Sys2Proof

/-- One byte of a frame (spec 11, R182). -/
abbrev Byte := BitVec 8

/-- Channel numbers 0 to 63 (spec 00, section 2). -/
abbrev Chan := Fin 64

/-- Group numbers 0 to 7. -/
abbrev Grp := Fin 8

/-- Move slots 0 to 47. -/
abbrev Slot := Fin 48

/-- Channel pairs 0 to 31: pair k is channels 2k and 2k + 1. -/
abbrev PairId := Fin 32

/-- Set-table entries 0 to 31. -/
abbrev SetId := Fin 32

/-- Surface modules 0 to 3; module m has bus address m + 1. -/
abbrev ModuleId := Fin 4

/-- Fader strips: strip (m, s) is number 8m + s. -/
abbrev StripId := Fin 32

/-- All the numbers below n, in ascending order. -/
def allFin (n : Nat) : List (Fin n) := List.finRange n

end Sys2Proof
end

