-- ==== Sys2Proof/Syntax.lean ====
section
/-! DEFINITION. The commands of the K64: one constructor per row of spec/opcode_table.json. A request
carries the TAG and the PAYLOAD bytes of its frame (spec 11, R182); an event carries what the pin, the
line or the timer tells the part. -/

namespace Sys2Proof

/-- The control link's line rate, strapped at power-on (R182). -/
inductive LineRate where
  | kbit250
  | mbit1
  | mbit2
deriving DecidableEq, Repr

/-- The two gain output lanes (spec 09). -/
inductive LaneId where
  | laneA
  | laneB
deriving DecidableEq, Repr

/-- One command. The comment of each gives its row's mnemonic and rule. -/
inductive Instr where
  /-- IDENTIFY, R190 -/
  | identify (tag : Byte) (payload : List Byte)
  /-- RESET, R191 -/
  | reset (tag : Byte) (payload : List Byte)
  /-- LINK_STATUS, R189 -/
  | linkStatus (tag : Byte) (payload : List Byte)
  /-- NOTICE_ENABLE, R188 -/
  | noticeEnable (tag : Byte) (payload : List Byte)
  /-- BAD_TYPE, R185: a frame whose TYPE names no request -/
  | badType (code tag : Byte) (payload : List Byte)
  /-- CHANNEL_CONFIG, R34 -/
  | channelConfig (tag : Byte) (payload : List Byte)
  /-- CHANNEL_QUERY, R35 -/
  | channelQuery (tag : Byte) (payload : List Byte)
  /-- LEVEL_SET, R36 -/
  | levelSet (tag : Byte) (payload : List Byte)
  /-- TRIM_SET, R38 -/
  | trimSet (tag : Byte) (payload : List Byte)
  /-- MUTE_SET, R39 -/
  | muteSet (tag : Byte) (payload : List Byte)
  /-- PAIR_LINK, R40: the request 15h -/
  | pairLink (tag : Byte) (payload : List Byte)
  /-- PAIR_UNLINK, R40: the request 15h with operation 0 -/
  | pairUnlink (tag : Byte) (payload : List Byte)
  /-- GROUP_SET, R41 -/
  | groupSet (tag : Byte) (payload : List Byte)
  /-- GROUP_MEMBERS, R42 -/
  | groupMembers (tag : Byte) (payload : List Byte)
  /-- SET_WRITE, R43 -/
  | setWrite (tag : Byte) (payload : List Byte)
  /-- SET_READ, R44 -/
  | setRead (tag : Byte) (payload : List Byte)
  /-- TAPER_WRITE, R16 -/
  | taperWrite (tag : Byte) (payload : List Byte)
  /-- TAPER_READ, R17 -/
  | taperRead (tag : Byte) (payload : List Byte)
  /-- MOVE_START, R74 -/
  | moveStart (tag : Byte) (payload : List Byte)
  /-- MOVE_CANCEL, R76 -/
  | moveCancel (tag : Byte) (payload : List Byte)
  /-- MOVE_QUERY, R77 -/
  | moveQuery (tag : Byte) (payload : List Byte)
  /-- CLOCK_SOURCE, R87 -/
  | clockSource (tag : Byte) (payload : List Byte)
  /-- CLOCK_RATE, R87 -/
  | clockRate (tag : Byte) (payload : List Byte)
  /-- CLOCK_RUN, R88 -/
  | clockRun (tag : Byte) (payload : List Byte)
  /-- CLOCK_HOLD, R88 -/
  | clockHold (tag : Byte) (payload : List Byte)
  /-- CLOCK_STEP, R89 -/
  | clockStep (tag : Byte) (payload : List Byte)
  /-- CLOCK_LOCATE, R90 -/
  | clockLocate (tag : Byte) (payload : List Byte)
  /-- CLOCK_QUERY, R91 -/
  | clockQuery (tag : Byte) (payload : List Byte)
  /-- CUE_WRITE, R94 -/
  | cueWrite (tag : Byte) (payload : List Byte)
  /-- CUE_READ, R96 -/
  | cueRead (tag : Byte) (payload : List Byte)
  /-- CUE_DELETE, R97 -/
  | cueDelete (tag : Byte) (payload : List Byte)
  /-- CUE_CLEAR, R98 -/
  | cueClear (tag : Byte) (payload : List Byte)
  /-- GO, R102 -/
  | go (tag : Byte) (payload : List Byte)
  /-- BACK, R111 -/
  | back (tag : Byte) (payload : List Byte)
  /-- JUMP, R106 -/
  | jump (tag : Byte) (payload : List Byte)
  /-- PLAYBACK_QUERY, R115 -/
  | playbackQuery (tag : Byte) (payload : List Byte)
  /-- PLAYBACK_CONFIG, R114 -/
  | playbackConfig (tag : Byte) (payload : List Byte)
  /-- SURFACE_CONFIG, R133 -/
  | surfaceConfig (tag : Byte) (payload : List Byte)
  /-- BANK_SET, R128 -/
  | bankSet (tag : Byte) (payload : List Byte)
  /-- SURFACE_QUERY, R134 -/
  | surfaceQuery (tag : Byte) (payload : List Byte)
  /-- CALIBRATE, R156 -/
  | calibrate (tag : Byte) (payload : List Byte)
  /-- LATCH_RELEASE, R148 -/
  | latchRelease (tag : Byte) (payload : List Byte)
  /-- LANE_CONFIG, R171 -/
  | laneConfig (tag : Byte) (payload : List Byte)
  /-- LANE_QUERY, R172 -/
  | laneQuery (tag : Byte) (payload : List Byte)
  /-- STOP, R178 -/
  | stop (tag : Byte) (payload : List Byte)
  /-- STOP_CLEAR, R178 -/
  | stopClear (tag : Byte) (payload : List Byte)
  /-- STOP_CONFIG, R180 -/
  | stopConfig (tag : Byte) (payload : List Byte)
  /-- CHARACTER_RECEIVED, R183: a character, and whether its stop bit was high -/
  | characterReceived (char : Byte) (stopBit : Bool)
  /-- GAP_TIMER_EXPIRY, R183 -/
  | gapTimerExpiry
  /-- BREAK, R183 -/
  | lineBreak
  /-- TRANSMIT_END, R186 -/
  | transmitEnd
  /-- POWER_ON, R192: power-on, or the assertion of RESET IN, with the levels of the part's pins -/
  | powerOn (resetIn : Bool) (rate : LineRate) (stopIn readyA readyB : Bool)
  /-- WALL_MILLISECOND, R79 -/
  | wallMillisecond
  /-- DIVIDER_COUNT, R82 -/
  | dividerCount
  /-- SYNC_IN_EDGE, R83: an edge of SYNC IN, rising or falling -/
  | syncInEdge (rising : Bool)
  /-- PULSE_LOSS, R84 -/
  | pulseLoss
  /-- START_EVENT, R56: the DELAYED move of a slot reaches its due time -/
  | startEvent (slot : Slot)
  /-- TRAVERSAL_END, R64: the RUNNING move of a slot reaches its due time -/
  | traversalEnd (slot : Slot)
  /-- END_WATCH_EXPIRY, R108 -/
  | endWatchExpiry
  /-- FOLLOW_EXPIRY, R107 -/
  | followExpiry
  /-- EXCHANGE_START, R117 -/
  | exchangeStart
  /-- GOOD_REPLY, R121: the bytes of a module's reply, complete within the reply window -/
  | goodReply (reply : List Byte)
  /-- REPLY_WINDOW_EXPIRY, R118 -/
  | replyWindowExpiry
  /-- DRIVE_TIMER_EXPIRY, R157 -/
  | driveTimerExpiry (module : ModuleId)
  /-- FRAME_START, R168 -/
  | frameStart
  /-- FRAME_COMPLETION, R168 -/
  | frameCompletion (lane : LaneId)
  /-- LANE_READY_EDGE, R167: an edge of a lane's LANE READY, rising or falling -/
  | laneReadyEdge (lane : LaneId) (rising : Bool)
  /-- STOP_IN_ASSERTED, R178 -/
  | stopInAsserted
  /-- STOP_IN_RELEASED, R178 -/
  | stopInReleased
  /-- LINE_HIGH_AFTER_BREAK, R183 -/
  | lineHighAfterBreak
  /-- RESET_IN_RELEASED, R192 -/
  | resetInReleased
deriving DecidableEq, Repr

end Sys2Proof
end

