-- ==== Sys2Proof/Config.lean ====
section
/-! DEFINITION. The fixed quantities of the K64 and the free values: constants without a body for
what the manual leaves open. -/

namespace Sys2Proof.Config

/-- OFF, the bottom of the level scale, in q (spec 01, R1). -/
def off : Int := -3072

/-- The top of the level scale, +320 q (R1). -/
def top : Int := 320

/-- The largest trim, 768 q (R1). -/
def trimMax : Int := 768

/-- The largest delta of a relative move, 3392 q (R45). -/
def deltaMax : Int := 3392

/-- The largest delay, duration, follow wait or back time, in ms (R45, R92, R114). -/
def timeMax : Nat := 600000

/-- The last show time, 4 294 967 295 ms (R78). -/
def showMax : Nat := 4294967295

/-- Wall time counts modulo this (R79). -/
def wallMod : Nat := 4294967296

/-- The stop of a 16-bit counter (R119, R165, R189). -/
def count16 : Nat := 65535

/-- Places of the receive queue (R184). -/
def rxPlaces : Nat := 4

/-- Places of the notice queue (R187). -/
def noticePlaces : Nat := 32

/-- Cues in the store, and actions in the shared pool (R93). -/
def cuePlaces : Nat := 400
def poolPlaces : Nat := 2048

/-- Records of the recall stack (R110). -/
def recallPlaces : Nat := 16

/-- A drive phase of a calibration lasts this many ms (R157). -/
def driveTime : Nat := 400

/-- The gap timer expires after more than this many ms (R183). -/
def gapTime : Nat := 5

/-- Fuel of the two loops of the model: a chain of follows with zero waits and the due items of one
advance. A chain visits each pair of a standby cue and a setting of the loop counters at most once
(R107), so it is shorter than 401 times 256 to the 400; this number is larger (log entry 26). -/
@[irreducible] def chainFuel : Nat := (2 ^ 250) ^ 16

/-- FREE VALUE: which of several due items of equal due time is taken next, where no rule orders
them (R61, R67, R81; log entry 8). Applied to `State.freeCount`. -/
opaque tieBreak : Nat → Nat

/-- FREE VALUE: whether the ramp steps of a wall millisecond are taken before the FREEWHEEL advance
of the same millisecond (R10, R84; log entry 9). Applied to `State.freeCount`. -/
opaque rampFirst : Nat → Bool

/-- FREE VALUE: the mode byte MOVE QUERY reports for a move that carries recorded targets and so has
no mode (R45, R77; log entry 10). Applied to `State.freeCount`. -/
opaque recordedMode : Nat → Byte

/-- FREE VALUE: the value field MOVE QUERY reports for a move that carries recorded targets
(R45, R77; log entry 10). Applied to `State.freeCount`. -/
opaque recordedValue : Nat → BitVec 16

/-- FREE VALUE: the four bytes that report a due time beyond 4 294 967 295, which do not hold it
(R55, R105, R194; log entry 11). Applied to the due time. -/
opaque dueBeyond : Nat → BitVec 32

end Sys2Proof.Config
end

