-- ==== Sys2Proof/Machine/State.lean ====
section
/-! DEFINITION. The state of the K64 as plain data: every record the manual gives the part, the queue of
commands that are waiting, and the state right after power-on. -/

namespace Sys2Proof.Machine

/-! ## Fixed sets of names -/

/-- The two taper tables (spec 01, R12). -/
inductive TaperSel where | a | b
deriving DecidableEq, Repr

/-- How a touch takes a channel (spec 02, R24). -/
inductive TakeoverMode where | touch | latch | pickup
deriving DecidableEq, Repr

/-- How a release hands a channel back (R24). -/
inductive ReleasePolicy where | hold | glide
deriving DecidableEq, Repr

/-- Who controls a channel's level (spec 07, R137). -/
inductive Ownership where | auto | pickup | touched | latched
deriving DecidableEq, Repr

/-- Side of the fader at entry to PICKUP (R137). -/
inductive Side where | above | below
deriving DecidableEq, Repr

/-- What a move does (spec 03, R45, R46). -/
inductive MoveKind where | level | group | mute | unmute | groupMute | groupUnmute | release
deriving DecidableEq, Repr

/-- What a move or an action names (R45). -/
inductive TargetSpec where
  | channel (c : Chan)
  | set (e : SetId)
  | members (g : Grp)
  | group (g : Grp)
deriving DecidableEq, Repr

/-- Who created a move, with the detail its notice carries (R45, R71). -/
inductive Origin where
  | cue (firing number : Nat)
  | live (tag : Byte)
  | back (firing : Nat)
  | rejoin (c : Chan)
deriving DecidableEq, Repr

/-- How a move's value is read (R20, R45). -/
inductive Mode where | abs | rel
deriving DecidableEq, Repr

/-- The interpolation law (R21, R22). -/
inductive Law where | db | taper
deriving DecidableEq, Repr

/-- The curve (R19). -/
inductive Curve where | linear | slowStart | fastStart | sCurve
deriving DecidableEq, Repr

/-- The time base (R63). -/
inductive TimeBase where | showTime | wallTime
deriving DecidableEq, Repr

/-- What a move acts on, resolved at creation (R45, R50). `lanes` and `groupTo` carry the recorded
targets of BACK and REJOIN moves. Channels stand in ascending order. -/
inductive Pending where
  | chans (cs : List Chan)
  | lanes (ls : List (Chan × Int))
  | group (g : Grp)
  | groupTo (g : Grp) (target : Int)
deriving DecidableEq, Repr

/-- DELAYED, or RUNNING with the start time of the current traversal (R45). -/
inductive MovePhase where
  | delayed
  | running (start : Nat)
deriving DecidableEq, Repr

/-- Why a move retired (R71). -/
inductive Reason where | completed | superseded | cancelled | empty | backed | stopped
deriving DecidableEq, Repr

/-- The clock states (spec 04, R80), in the order of their codes (spec 11, section 11.7). -/
inductive ClockState where | stopped | running | held | stepping
deriving DecidableEq, Repr

/-- The source in force (R82, R83, R84). -/
inductive Source where | internal | pulse | freewheel
deriving DecidableEq, Repr

/-- What fires the next cue (spec 05, R92). -/
inductive FollowKind where | none | afterGo | afterEnd
deriving DecidableEq, Repr

/-- Calibration state of a strip (spec 08, R155). -/
inductive CalState where | uncalibrated | calibrated | failed
deriving DecidableEq, Repr

/-- Calibration phase of a module (R119, R157). -/
inductive CalPhase where | none | driveLow | sampleLow | driveHigh | sampleHigh
deriving DecidableEq, Repr

/-- Service state of a lane (spec 09, R165). -/
inductive LaneState where | disabled | waiting | sending
deriving DecidableEq, Repr

/-- Cause of a CUE FIRED notice (R113). -/
inductive FireCause where | go | follow
deriving DecidableEq, Repr

/-- Cause of a TAKEOVER notice (R152). -/
inductive TakeoverCause where | touch | crossing | release | latchRelease | releaseAction
deriving DecidableEq, Repr

/-- Cause of a CLOCK notice (R86). -/
inductive ClockCause where | request | go | stop | saturated | pulseLost | pulseRegained
deriving DecidableEq, Repr

/-- Cause of a MODULE notice (R135). -/
inductive ModuleCause where | reply | misses | removed
deriving DecidableEq, Repr

/-- Cause of a LANE notice (R173). -/
inductive LaneCause where | config | readyRise | readyFall
deriving DecidableEq, Repr

/-- Cause of a STOP notice (R181). -/
inductive StopCause where | powerOn | line | request | lineAsserted | lineReleased | cleared
deriving DecidableEq, Repr

/-! ## The Channel Table -/

/-- The binding of a record to the move that controls its live level (spec 03, section 3.2). -/
structure Claim where
  slot : Slot
  start : Int
  target : Int
deriving DecidableEq, Repr

/-- A channel record with the Takeover Unit's fields (R24, R137); the defaults are the power-on
values. For a linked pair both channels carry the unit's fields. -/
structure Channel where
  base : Int := Config.off
  trim : Int := 0
  cueLevel : Int := Config.off
  claim : Option Claim := none
  ownMute : Bool := true
  atten : Int := Config.off
  ramp : Nat := 10
  groups : BitVec 8 := 0
  taper : TaperSel := .a
  mode : TakeoverMode := .touch
  policy : ReleasePolicy := .hold
  safe : Bool := false
  announce : Bool := false
  ownership : Ownership := .auto
  side : Option Side := none
  pickupStrip : Option StripId := none
  balance : Option Int := none
deriving DecidableEq, Repr

/-- A group record (R27). -/
structure Group where
  offset : Int := 0
  mute : Bool := false
  claim : Option Claim := none
deriving DecidableEq, Repr

/-! ## The Move Table -/

/-- A move record (R45). `seq` is the model's own field: the move's place in the order of creation,
which R61 names (log entry 23). -/
structure Move where
  kind : MoveKind
  origin : Origin
  spec : Option TargetSpec
  pending : Pending
  mode : Mode
  value : Int
  law : Law
  curve : Curve
  timeBase : TimeBase
  delay : Nat
  duration : Nat
  cycle : Bool
  count : Nat
  remaining : Nat
  due : Nat
  phase : MovePhase
  claims : Nat
  seq : Nat
deriving DecidableEq, Repr

/-! ## The Show Clock -/

/-- The Show Clock's state (R78 to R91). `lossTimer` is the wall time at which the pulse-loss timer was
last armed; `rising` is the configured edge. -/
structure Clock where
  showTime : Nat := 0
  wallTime : Nat := 0
  state : ClockState := .stopped
  source : Source := .internal
  divisor : Nat := 1
  divCount : Nat := 0
  weight : Nat := 40
  rising : Bool := true
  lossTimer : Option Nat := none
deriving DecidableEq, Repr

/-! ## The Playback Controller -/

/-- An action record: the creation fields of one move (R92, R193). -/
structure Action where
  kind : MoveKind
  spec : TargetSpec
  mode : Mode
  value : Int
  law : Law
  curve : Curve
  timeBase : TimeBase
  delay : Nat
  duration : Nat
  cycle : Bool
  count : Nat
deriving DecidableEq, Repr

/-- A cue record (R92). The loop link is absent when `loopCount` is 0; the header's fields are kept as
they were stored. -/
structure Cue where
  number : Nat
  follow : FollowKind
  wait : Nat
  loopTarget : Nat
  loopCount : Nat
  loopCounter : Nat
  actions : List Action
deriving DecidableEq, Repr

/-- The end watch (R99, R108). -/
structure EndWatch where
  firing : Nat
  count : Nat
  wait : Nat
deriving DecidableEq, Repr

/-- A recall record (R110): the channels with V and own mute, the groups with offset and mute. -/
structure RecallRecord where
  cue : Nat
  firing : Nat
  chans : List (Chan × Int × Bool)
  groups : List (Grp × Int × Bool)
deriving DecidableEq, Repr

/-- The Playback Controller's state (R92, R99). `standby` is none for END; the newest recall record
stands first. -/
structure Playback where
  store : List Cue := []
  standby : Option Nat := none
  firing : Nat := 0
  follow : Option Nat := none
  endWatch : Option EndWatch := none
  recalls : List RecallRecord := []
  backTime : Nat := 2000
deriving DecidableEq, Repr

/-! ## The Surface Controller -/

/-- A calibration entry (R155). -/
structure CalEntry where
  min : Nat := 0
  max : Nat := 1023
  state : CalState := .uncalibrated
deriving DecidableEq, Repr

/-- A strip record (R121). -/
structure Strip where
  binding : Option Chan := none
  cal : CalEntry := {}
  lastRaw : Nat := 0
  lastPos : Nat := 0
  touch : Bool := false
  counter : Nat := 0
  armed : Bool := false
  motorTarget : Nat := 0
  drive : Bool := false
  led : Bool := false
  reported : Bool := false
deriving DecidableEq, Repr

/-- A module record (R119, R157). -/
structure SurfaceModule where
  online : Bool := false
  misses : Nat := 0
  totalMisses : Nat := 0
  phase : CalPhase := .none
  driveTimer : Option Nat := none
  candMin : Option (List Nat) := none
  candMax : Option (List Nat) := none
deriving DecidableEq, Repr

/-- The exchange in progress (R116, R118): the module polled, its calibration phase at the exchange's
start (R158) and the poll frame that was sent. -/
structure Exchange where
  module : ModuleId
  phase : CalPhase
  poll : List Byte
deriving DecidableEq, Repr

/-- The binding of strip i under the power-on bank settings: channel i (R126). -/
def bindingAtPowerOn (i : StripId) : Option Chan := some ⟨i.val, by omega⟩

/-- The Surface Controller's state (R116 to R136). `expected` is M, `qualify` is N. `begun` is the model's
own field: whether an exchange has begun in the present millisecond (R116; log entry 25). -/
structure Surface where
  expected : Nat := 4
  qualify : Nat := 2
  deadBand : Nat := 4
  glide : Nat := 1000
  offsetA : Nat := 0
  offsetB : Nat := 0
  split : Nat := 4
  nextPoll : Nat := 0
  exchange : Option Exchange := none
  begun : Bool := false
  modules : Vector SurfaceModule 4 := Vector.replicate 4 {}
  strips : Vector Strip 32 := Vector.ofFn fun i => { binding := bindingAtPowerOn i }
deriving DecidableEq, Repr

/-! ## The Output Lanes -/

/-- The lane settings (R165). -/
structure LaneSettings where
  splitMode : Bool := false
  partition : Nat := 32
  period : Nat := 1
  enableA : Bool := false
  enableB : Bool := false
deriving DecidableEq, Repr

/-- A lane record (R165). `inFlight` holds the bytes of the frame being sent. -/
structure Lane where
  state : LaneState := .disabled
  ready : Bool := false
  inFlight : Option (List Byte) := none
  fallPending : Bool := false
  counter : Nat := 0
  sent : Nat := 0
  losses : Nat := 0
deriving DecidableEq, Repr

/-- The Output Lanes' state (R165, R166). -/
structure Lanes where
  settings : LaneSettings := {}
  pending : Option LaneSettings := none
  nextStart : Nat := 1
  laneA : Lane := {}
  laneB : Lane := {}
deriving DecidableEq, Repr

/-! ## The Show Stop Unit -/

/-- The Show Stop Unit's state (R175). -/
structure StopUnit where
  active : Bool := false
  line : Bool := false
  ramp : Nat := 50
deriving DecidableEq, Repr

/-! ## The Control Link -/

/-- A control-link frame without SYNC, LENGTH and CHECK (R182). -/
structure Frame where
  type : Byte
  tag : Byte
  payload : List Byte
deriving DecidableEq, Repr

/-- A notice, with the fields its rule names in that rule's order (R71, R113, R152, R86, R135, R164,
R173, R181). -/
inductive Notice where
  | moveRetired (slot : Slot) (kind : MoveKind) (origin : Origin) (reason : Reason)
  | cueFired (cue firing : Nat) (cause : FireCause) (fireTime dropped : Nat) (standby : Option Nat)
  | followDropped (cue firing dropped : Nat)
  | rejoinDropped (c : Chan)
  | takeover (lower : Chan) (linked : Bool) (before after : Ownership) (side : Option Side)
      (cause : TakeoverCause) (base cueLevel : Int)
  | clock (cause : ClockCause) (state : ClockState) (source : Source) (showTime : Nat)
  | module (m : ModuleId) (online : Bool) (cause : ModuleCause) (totalMisses : Nat)
  | calibrated (m : ModuleId) (strips : List (Bool × Nat × Nat))
  | calibrationAborted (m : ModuleId) (cause : ModuleCause) (phase : CalPhase)
  | lane (id : LaneId) (before after : LaneState) (cause : LaneCause) (counter losses : Nat)
  | stop (cause : StopCause) (active line : Bool) (cancelled showTime : Nat) (state : ClockState)
deriving DecidableEq, Repr

/-- The link statistics (R189). -/
structure LinkStats where
  received : Nat := 0
  checksum : Nat := 0
  length : Nat := 0
  timeouts : Nat := 0
  framing : Nat := 0
  breaks : Nat := 0
  overruns : Nat := 0
  dropped : Nat := 0
deriving DecidableEq, Repr

/-- The receiver (R183): HUNTING, ASSEMBLING with the characters after SYNC so far and the wall time from
which the gap timer runs, or waiting for the line to go high after a break. -/
inductive Receiver where
  | hunting
  | assembling (taken : List Byte) (since : Nat)
  | broken
deriving DecidableEq, Repr

/-- The Control Link's state (R182 to R192). `tx` is none for IDLE and holds the frame's bytes while
SENDING; `held` says that RESET IN is asserted. `instant` is the model's own: while the steps of one instant are
carried out, it holds the MOVE RETIRED notices they make, in the order they are to be queued (R71; log entry 42);
between two commands it is none. -/
structure Link where
  rate : LineRate := .kbit250
  receiver : Receiver := .hunting
  rxQueue : List Frame := []
  reply : Option Frame := none
  tx : Option (List Byte) := none
  notices : List Notice := []
  overflow : Bool := false
  mask : BitVec 16 := 0x01FF
  stats : LinkStats := {}
  held : Bool := false
  instant : Option (List Notice) := none
deriving DecidableEq, Repr

/-! ## The taper tables at power-on -/

/-- Default table A: a console fader law (R15). -/
def taperAtPowerOnA : Vector Int 33 := #v[
  -3072, -2880, -2560, -2240, -1920, -1760, -1600, -1440, -1280, -1200, -1120,
  -1040, -960, -880, -800, -720, -640, -560, -480, -400, -320, -240,
  -160, -80, 0, 40, 80, 120, 160, 200, 240, 280, 320]

/-- Default table B: a wide law, 100 q a step (R15). -/
def taperAtPowerOnB : Vector Int 33 :=
  Vector.ofFn fun k => if k.val = 0 then Config.off else 320 - 100 * (32 - (k.val : Int))

/-! ## The whole part -/

/-- The state of the part. `pending`, `freeCount` and `moveSeq` are the model's own fields, as `instant` of the link
is: the queue of waiting commands (log entry 1), the count of free choices taken (log entries 8 to 10), the count of
moves given a slot (log entry 23) and the retirements of an instant in hand (log entry 42). -/
structure State where
  chans : Vector Channel 64
  groups : Vector Group 8
  pairLinked : Vector Bool 32
  sets : Vector (List Chan) 32
  taperA : Vector Int 33
  taperB : Vector Int 33
  moves : Vector (Option Move) 48
  clock : Clock
  play : Playback
  surf : Surface
  lanes : Lanes
  stop : StopUnit
  link : Link
  pending : List Instr
  freeCount : Nat
  moveSeq : Nat
deriving DecidableEq, Repr

/-- The faults of the part: there are none. Every request is answered, every discard is counted and
every event acts or is ignored (R183, R185). Safe: a fault that cannot happen hides no behaviour. -/
inductive Fault where
deriving DecidableEq, Repr

/-- The refusals of the model. -/
inductive Refusal where
  /-- Raised by an arm of exec whose command has no meaning yet. Safe: nothing is claimed of it. -/
  | notModelled (mnemonic : String)
deriving DecidableEq, Repr

/-- The outcome of one step of the part. -/
abbrev Outcome := Host.Outcome State Fault Refusal

/-- The part right after power-on (R11, R15, R24, R27, R32, R45, R78 to R80, R87, R93, R99, R119, R121,
R126, R133, R137, R155, R165, R175, R192), with STOP IN and RESET IN released, both LANE READY lines low
and the line rate strapped to 250 kbit/s (DESIGN CHOICE, log entry 6). -/
def State.reset : State where
  chans := Vector.replicate 64 {}
  groups := Vector.replicate 8 {}
  pairLinked := Vector.replicate 32 false
  sets := Vector.replicate 32 []
  taperA := taperAtPowerOnA
  taperB := taperAtPowerOnB
  moves := Vector.replicate 48 none
  clock := {}
  play := {}
  surf := {}
  lanes := {}
  stop := {}
  link := {}
  pending := []
  freeCount := 0
  moveSeq := 0

end Sys2Proof.Machine
end

