-- ==== Sys2Proof/Machine/Arith.lean ====
section
/-! DEFINITION. The level arithmetic of spec 01: clamps, the taper mappings, the progress, the curves and
the two interpolation laws. All arithmetic is exact (00_scope.md section 8). -/

namespace Sys2Proof.Machine

/-- clamp(x, lo, hi) (00_scope.md section 8). -/
def clampInt (lo hi x : Int) : Int := max lo (min hi x)

/-- A level brought into the scale (R1). -/
def clampLevel (x : Int) : Int := clampInt Config.off Config.top x

/-- ceil(a / b) of non-negative operands. -/
def ceilDiv (a b : Nat) : Nat := (a + (b - 1)) / b

/-- ceil(a / b) of integers, for b greater than 0. -/
def ceilDivInt (a b : Int) : Int := -((-a) / b)

/-- The entry T[k] of a taper table (R12). -/
def taperEntry (t : Vector Int 33) (k : Nat) : Int := (t[k]?).getD Config.top

/-- The forward mapping, from a fader position to a level (R13). -/
def taperForward (t : Vector Int 33) (x : Nat) : Int :=
  if x < 1024 then
    taperEntry t (x / 32)
      + Int.tdiv ((taperEntry t (x / 32 + 1) - taperEntry t (x / 32)) * ((x % 32 : Nat) : Int)) 32
  else taperEntry t 32

/-- The least k below 32 with T[k + 1] at or above the level (R14, step 3). -/
def taperSegment (t : Vector Int 33) (level : Int) : Nat :=
  ((List.range 32).find? fun k => decide (level ≤ taperEntry t (k + 1))).getD 31

/-- The inverse mapping, from a level to a fader position (R14). -/
def taperInverse (t : Vector Int 33) (level : Int) : Nat :=
  if level ≤ taperEntry t 0 then 0
  else if taperEntry t 32 ≤ level then 1024
  else
    let k := taperSegment t level
    32 * k + (ceilDivInt ((level - taperEntry t k) * 32) (taperEntry t (k + 1) - taperEntry t k)).toNat

/-- The progress p, 0 to 4096, of a move of the given duration after the given elapsed time (R18). -/
def progress (elapsed duration : Nat) : Nat :=
  if duration = 0 then 4096 else min elapsed duration * 4096 / duration

/-- The curve turns p into c (R19). -/
def shape (curve : Curve) (p : Nat) : Nat :=
  match curve with
  | .linear => p
  | .slowStart => p * p / 4096
  | .fastStart => p * (8192 - p) / 4096
  | .sCurve => if p ≤ 2048 then p * p / 2048 else 4096 - (4096 - p) * (4096 - p) / 2048

/-- The lane value under the DB law (R21). -/
def dbValue (start target : Int) (c : Nat) : Int :=
  start + Int.tdiv ((target - start) * (c : Int)) 4096

/-- The lane value under the TAPER law (R22). -/
def taperValue (t : Vector Int 33) (start target : Int) (c : Nat) : Int :=
  if c = 0 then start
  else if c = 4096 then target
  else
    let xs : Int := taperInverse t start
    let xt : Int := taperInverse t target
    let x := xs + Int.tdiv ((xt - xs) * (c : Int)) 4096
    clampInt (min start target) (max start target) (taperForward t x.toNat)

/-- The value of a lane at c under its move's law (R21, R22). -/
def laneValue (law : Law) (t : Vector Int 33) (start target : Int) (c : Nat) : Int :=
  match law with
  | .db => dbValue start target c
  | .taper => taperValue t start target c

/-- The size of one mute-ramp step at ramp length L greater than 0 (R8). -/
def rampStep (len : Nat) : Int := (ceilDiv 3072 len : Nat)

/-- One ramp step of m toward its goal (R9); none is taken at L = 0 or at the goal (R9, R10). -/
def rampToward (len : Nat) (goal m : Int) : Int :=
  if len = 0 then m
  else if m < goal then min goal (m + rampStep len)
  else max goal (m - rampStep len)

/-- A raw reading becomes a position through a calibration entry (R122). -/
def rawToPosition (e : CalEntry) (raw : Nat) : Nat :=
  let span : Int := (e.max : Int) - e.min
  (clampInt 0 1024 ((((raw : Int) - e.min) * 1024 + span / 2) / span)).toNat

/-- A target position becomes a raw motor target through a calibration entry (R129). -/
def positionToRaw (e : CalEntry) (pos : Nat) : Nat :=
  e.min + (pos * (e.max - e.min) + 512) / 1024

/-- The distance counted forward from one wall time to another, modulo 2^32 (R79). -/
def wallSince (now since : Nat) : Nat := (now + Config.wallMod - since) % Config.wallMod

end Sys2Proof.Machine
end

