-- ==== Sys2Proof/Machine/Live.lean ====
section
/-! DEFINITION. Reading records: the taper of a channel, the pair and unit of a channel, and the live
levels V and G (spec 01, sections 1.2 and 1.6; spec 06, R125). -/

namespace Sys2Proof.Machine

/-- The table a taper attribute names (R12). -/
def tableOf (s : State) : TaperSel → Vector Int 33
  | .a => s.taperA
  | .b => s.taperB

/-- The current instant in a time base (R4). -/
def nowIn (base : TimeBase) (s : State) : Nat :=
  match base with
  | .showTime => s.clock.showTime
  | .wallTime => s.clock.wallTime

/-- The time elapsed from an instant to now in a time base; 0 when show time is earlier (R18, R79). -/
def elapsedSince (base : TimeBase) (since : Nat) (s : State) : Nat :=
  match base with
  | .showTime => s.clock.showTime - since
  | .wallTime => wallSince s.clock.wallTime since

/-- An instant plus an interval in a time base; wall time wraps (R55, R79). -/
def addTime (base : TimeBase) (t n : Nat) : Nat :=
  match base with
  | .showTime => t + n
  | .wallTime => (t + n) % Config.wallMod

/-- The curve value c of a running move at the reader's instant (R18, R19). -/
def moveProgress (mv : Move) (s : State) : Nat :=
  match mv.phase with
  | .running start => shape mv.curve (progress (elapsedSince mv.timeBase start s) mv.duration)
  | .delayed => 0

/-- The value of a claim at the reader's instant through a taper table (R2, R3, R62); `held` answers
for a claim whose slot is FREE, which R47 excludes. -/
def claimValue (s : State) (t : Vector Int 33) (cl : Claim) (held : Int) : Int :=
  match s.moves[cl.slot] with
  | some mv => laneValue mv.law t cl.start cl.target (moveProgress mv s)
  | none => held

/-- The live level V of a channel (R2). -/
def liveLevel (s : State) (c : Chan) : Int :=
  match s.chans[c].claim with
  | none => s.chans[c].base
  | some cl => claimValue s (tableOf s s.chans[c].taper) cl s.chans[c].base

/-- The live offset G of a group, on table A (R3, R22). -/
def liveOffset (s : State) (g : Grp) : Int :=
  match s.groups[g].claim with
  | none => s.groups[g].offset
  | some cl => claimValue s s.taperA cl s.groups[g].offset

/-- The pair a channel belongs to (00_scope.md section 8). -/
def pairOf (c : Chan) : PairId := ⟨c.val / 2, by omega⟩

/-- The even channel of a pair. -/
def evenOf (k : PairId) : Chan := ⟨2 * k.val, by omega⟩

/-- The odd channel of a pair. -/
def oddOf (k : PairId) : Chan := ⟨2 * k.val + 1, by omega⟩

/-- Whether a channel's pair is linked. -/
def isLinked (s : State) (c : Chan) : Bool := s.pairLinked[pairOf c]

/-- The channels of a channel's unit, in ascending order: the channel, or its linked pair (R125). -/
def unitChans (s : State) (c : Chan) : List Chan :=
  if isLinked s c then [evenOf (pairOf c), oddOf (pairOf c)] else [c]

/-- The lower channel of a channel's unit. -/
def unitLower (s : State) (c : Chan) : Chan :=
  if isLinked s c then evenOf (pairOf c) else c

/-- Whether a channel belongs to a group (R28). -/
def inGroup (s : State) (g : Grp) (c : Chan) : Bool := s.chans[c].groups.getLsbD g.val

/-- The members of a group, in ascending order (R41). -/
def membersOf (s : State) (g : Grp) : List Chan := (allFin 64).filter (inGroup s g)

end Sys2Proof.Machine
end

