-- ==== Sys2Proof/Machine/Operands.lean ====
section
/-! DEFINITION. The operand forms: how fields stand in payloads, replies, notices and frames (spec 11, R193,
R194, section 11.7). Multi-byte fields are little-endian. -/

namespace Sys2Proof.Machine

/-! ## Integers as bytes -/

/-- An unsigned field of one byte. -/
def u8 (n : Nat) : List Byte := [BitVec.ofNat 8 n]

/-- An unsigned field of two bytes, little-endian. -/
def u16 (n : Nat) : List Byte := [BitVec.ofNat 8 n, BitVec.ofNat 8 (n / 256)]

/-- An unsigned field of three bytes, little-endian. -/
def u24 (n : Nat) : List Byte := [BitVec.ofNat 8 n, BitVec.ofNat 8 (n / 256), BitVec.ofNat 8 (n / 65536)]

/-- An unsigned field of four bytes, little-endian. -/
def u32 (n : Nat) : List Byte :=
  [BitVec.ofNat 8 n, BitVec.ofNat 8 (n / 256), BitVec.ofNat 8 (n / 65536), BitVec.ofNat 8 (n / 16777216)]

/-- A signed field of two bytes (R194, form 7). -/
def s16 (x : Int) : List Byte := u16 (BitVec.ofInt 16 x).toNat

/-- A two-valued item (R194, form 5). -/
def flag (b : Bool) : List Byte := u8 (if b then 1 else 0)

/-- A due time in four bytes; a due time they do not hold is reported by a free value (log entry 11). -/
def dueField (due : Nat) : List Byte :=
  if due ≤ Config.showMax then u32 due else u32 (Config.dueBeyond due).toNat

/-- The unsigned value of two bytes. -/
def le16 (b0 b1 : Byte) : Nat := b0.toNat + 256 * b1.toNat

/-- The unsigned value of three bytes. -/
def le24 (b0 b1 b2 : Byte) : Nat := b0.toNat + 256 * b1.toNat + 65536 * b2.toNat

/-- The unsigned value of four bytes. -/
def le32 (b0 b1 b2 b3 : Byte) : Nat :=
  b0.toNat + 256 * b1.toNat + 65536 * b2.toNat + 16777216 * b3.toNat

/-- The signed value of two bytes. -/
def les16 (b0 b1 : Byte) : Int := (BitVec.ofNat 16 (le16 b0 b1)).toInt

/-- The sum of bytes, modulo 65536. -/
def byteSum (bs : List Byte) : Nat := (bs.foldl (fun n b => n + b.toNat) 0) % 65536

/-- The checksum that makes the 16-bit sum of the covered bytes and the checksum zero (R193). -/
def checksum (covered : List Byte) : Nat := (65536 - byteSum covered) % 65536

/-! ## Numbered things -/

/-- A byte as a channel number, when it is one. -/
def asChan (b : Byte) : Option Chan := if h : b.toNat < 64 then some ⟨b.toNat, h⟩ else none

/-- A byte as a group number, when it is one. -/
def asGrp (b : Byte) : Option Grp := if h : b.toNat < 8 then some ⟨b.toNat, h⟩ else none

/-- A byte as a set-table entry number, when it is one. -/
def asSet (b : Byte) : Option SetId := if h : b.toNat < 32 then some ⟨b.toNat, h⟩ else none

/-- A byte as a pair number, when it is one. -/
def asPair (b : Byte) : Option PairId := if h : b.toNat < 32 then some ⟨b.toNat, h⟩ else none

/-- A byte as a slot number, when it is one. -/
def asSlot (b : Byte) : Option Slot := if h : b.toNat < 48 then some ⟨b.toNat, h⟩ else none

/-- A byte as an on/off value, when it is one. -/
def asBit (b : Byte) : Option Bool := if b = 0 then some false else if b = 1 then some true else none

/-- Every byte of a list as a channel number, when all are. -/
def asChans : List Byte → Option (List Chan)
  | [] => some []
  | b :: bs =>
    match asChan b, asChans bs with
    | some c, some cs => some (c :: cs)
    | _, _ => none

/-! ## Codes of the enumerated values (R194, form 6) -/

/-- Status codes of replies (R185). -/
inductive Status where
  | ok | accepted | badType | badLength | badValue | notFound | full | busy | collision | empty | state
  | locked
deriving DecidableEq, Repr

/-- The byte of a status code (R185). -/
def Status.byte : Status → Byte
  | .ok => 0x00 | .accepted => 0x01 | .badType => 0x02 | .badLength => 0x03 | .badValue => 0x04
  | .notFound => 0x05 | .full => 0x06 | .busy => 0x07 | .collision => 0x08 | .empty => 0x09
  | .state => 0x0A | .locked => 0x0B

def TaperSel.code : TaperSel → Nat | .a => 0 | .b => 1
def TakeoverMode.code : TakeoverMode → Nat | .touch => 0 | .latch => 1 | .pickup => 2
def ReleasePolicy.code : ReleasePolicy → Nat | .hold => 0 | .glide => 1
def Ownership.code : Ownership → Nat | .auto => 0 | .pickup => 1 | .touched => 2 | .latched => 3
def Side.code : Side → Nat | .above => 0 | .below => 1
def MoveKind.code : MoveKind → Nat
  | .level => 0 | .group => 1 | .mute => 2 | .unmute => 3 | .groupMute => 4 | .groupUnmute => 5
  | .release => 6
def Mode.code : Mode → Nat | .abs => 0 | .rel => 1
def Law.code : Law → Nat | .db => 0 | .taper => 1
def Curve.code : Curve → Nat | .linear => 0 | .slowStart => 1 | .fastStart => 2 | .sCurve => 3
def TimeBase.code : TimeBase → Nat | .showTime => 0 | .wallTime => 1
def Reason.code : Reason → Nat
  | .completed => 0 | .superseded => 1 | .cancelled => 2 | .empty => 3 | .backed => 4 | .stopped => 5
def ClockState.code : ClockState → Nat | .stopped => 0 | .running => 1 | .held => 2 | .stepping => 3
def Source.code : Source → Nat | .internal => 0 | .pulse => 1 | .freewheel => 2
def FollowKind.code : FollowKind → Nat | .none => 0 | .afterGo => 1 | .afterEnd => 2
def CalState.code : CalState → Nat | .uncalibrated => 0 | .calibrated => 1 | .failed => 2
def CalPhase.code : CalPhase → Nat
  | .none => 0 | .driveLow => 1 | .sampleLow => 2 | .driveHigh => 3 | .sampleHigh => 4
def LaneState.code : LaneState → Nat | .disabled => 0 | .waiting => 1 | .sending => 2
def FireCause.code : FireCause → Nat | .go => 0 | .follow => 1
def TakeoverCause.code : TakeoverCause → Nat
  | .touch => 0 | .crossing => 1 | .release => 2 | .latchRelease => 3 | .releaseAction => 4
def ClockCause.code : ClockCause → Nat
  | .request => 0 | .go => 1 | .stop => 2 | .saturated => 3 | .pulseLost => 4 | .pulseRegained => 5
def ModuleCause.code : ModuleCause → Nat | .reply => 0 | .misses => 1 | .removed => 2
def LaneCause.code : LaneCause → Nat | .config => 0 | .readyRise => 1 | .readyFall => 2
def StopCause.code : StopCause → Nat
  | .powerOn => 0 | .line => 1 | .request => 2 | .lineAsserted => 3 | .lineReleased => 4 | .cleared => 5

/-- The code of a lane id (spec 11, lane frame). -/
def laneCode : LaneId → Nat | .laneA => 0 | .laneB => 1

/-- The code of a line rate (R189). -/
def rateCode : LineRate → Nat | .kbit250 => 0 | .mbit1 => 1 | .mbit2 => 2

/-- The edge's code: 0 rising, 1 falling (R87). -/
def edgeCode (rising : Bool) : Nat := if rising then 0 else 1

/-! ## Composite fields -/

/-- A claim: a presence byte, then slot, lane start and lane target, or zeros (R194, form 2). -/
def claimField : Option Claim → List Byte
  | some cl => flag true ++ u8 cl.slot.val ++ s16 cl.start ++ s16 cl.target
  | none => flag false ++ u8 0 ++ s16 0 ++ s16 0

/-- A strip binding as module and strip (R35, R194). -/
def stripField : Option StripId → List Byte
  | some i => flag true ++ u8 (i.val / 8) ++ u8 (i.val % 8)
  | none => flag false ++ u8 0 ++ u8 0

/-- A binding of a strip to a channel; a blank strip is absent (R194, form 2). -/
def bindingField : Option Chan → List Byte
  | some c => flag true ++ u8 c.val
  | none => flag false ++ u8 0

/-- Target kind and target index of a target spec (spec 11, action record). -/
def TargetSpec.bytes : TargetSpec → List Byte
  | .channel c => u8 0 ++ u8 c.val
  | .set e => u8 1 ++ u8 e.val
  | .members g => u8 2 ++ u8 g.val
  | .group g => u8 3 ++ u8 g.val

/-- A target spec, absent for BACK and REJOIN moves. -/
def specField : Option TargetSpec → List Byte
  | some t => flag true ++ t.bytes
  | none => flag false ++ u8 0 ++ u8 0

/-- An origin followed by its detail (R71, R194, form 3). -/
def originField : Origin → List Byte
  | .cue f n => u8 0 ++ u16 f ++ u16 n
  | .live t => u8 1 ++ [t]
  | .back f => u8 2 ++ u16 f
  | .rejoin c => u8 3 ++ u8 c.val

/-- The standby pointer, 0 for END (R100). -/
def standbyField : Option Nat → List Byte
  | some n => u16 n
  | none => u16 0

/-- A list of channels after its count (R194, form 3). -/
def chanListField (cs : List Chan) : List Byte := u8 cs.length ++ cs.flatMap fun c => u8 c.val

/-! ## The action record (13 bytes) -/

/-- The target spec of a target kind and index, when both are in their lists (R74). -/
def targetOf (kind index : Byte) : Option TargetSpec :=
  match kind.toNat with
  | 0 => (asChan index).map .channel
  | 1 => (asSet index).map .set
  | 2 => (asGrp index).map .members
  | 3 => (asGrp index).map .group
  | _ => none

/-- The move kind of a code (spec 11, action record). -/
def kindOf (b : Byte) : Option MoveKind :=
  match b.toNat with
  | 0 => some .level | 1 => some .group | 2 => some .mute | 3 => some .unmute
  | 4 => some .groupMute | 5 => some .groupUnmute | 6 => some .release
  | _ => none

/-- Which target specs a kind may have (R46). -/
def kindAllows : MoveKind → TargetSpec → Bool
  | .level, .group _ => false
  | .level, _ => true
  | .group, .group _ => true
  | .group, _ => false
  | .mute, .group _ => false
  | .mute, _ => true
  | .unmute, .group _ => false
  | .unmute, _ => true
  | .groupMute, .group _ => true
  | .groupMute, _ => false
  | .groupUnmute, .group _ => true
  | .groupUnmute, _ => false
  | .release, .group _ => false
  | .release, _ => true

/-- The curve in bits 2 and 3 of the packed byte. -/
def curveOf (packed : Byte) : Curve :=
  match packed.getLsbD 3, packed.getLsbD 2 with
  | false, false => .linear
  | false, true => .slowStart
  | true, false => .fastStart
  | true, true => .sCurve

/-- An action record as it arrives, or none where MOVE START and CUE WRITE refuse it with BAD_VALUE
(R74, R94, R193): an enumeration outside its list, an index out of range, a kind paired with a target
spec not allowed for it, bits 6 or 7 of the packed byte, a traversal count with ONCE, or CYCLE with
duration 0. The values are those of the record, not yet brought into range. -/
def parseAction (r : List Byte) : Option Action :=
  match r with
  | [k, tk, ti, p, v0, v1, d0, d1, d2, u0, u1, u2, n] =>
    match kindOf k, targetOf tk ti with
    | some kind, some spec =>
      if p.getLsbD 6 || p.getLsbD 7 then none
      else if !kindAllows kind spec then none
      else if p.getLsbD 5 && le24 u0 u1 u2 == 0 then none
      else if !p.getLsbD 5 && n != 0 then none
      else some
        { kind := kind, spec := spec
          mode := if p.getLsbD 0 then .rel else .abs
          value := les16 v0 v1
          law := if p.getLsbD 1 then .taper else .db
          curve := curveOf p
          timeBase := if p.getLsbD 4 then .wallTime else .showTime
          delay := le24 d0 d1 d2
          duration := le24 u0 u1 u2
          cycle := p.getLsbD 5
          count := n.toNat }
    | _, _ => none
  | _ => none

/-- The value of an action brought into its range: a level for ABS, a delta for REL (R74). -/
def clampValue (mode : Mode) (v : Int) : Int :=
  match mode with
  | .abs => clampLevel v
  | .rel => clampInt (-Config.deltaMax) Config.deltaMax v

/-- An action with its value, delay and duration brought into range (R74). -/
def clampAction (a : Action) : Action :=
  { a with
    value := clampValue a.mode a.value
    delay := min a.delay Config.timeMax
    duration := min a.duration Config.timeMax }

/-- The action record's 13 bytes (spec 11, section 11.7). -/
def Action.bytes (a : Action) : List Byte :=
  u8 a.kind.code ++ a.spec.bytes
    ++ u8 (a.mode.code + 2 * a.law.code + 4 * a.curve.code + 16 * a.timeBase.code
        + (if a.cycle then 32 else 0))
    ++ s16 a.value ++ u24 a.delay ++ u24 a.duration ++ u8 a.count

/-- A payload of action records, 13 bytes each; none when one of them is refused. -/
def parseActions : Nat → List Byte → Option (List Action)
  | 0, _ => some []
  | n + 1, bs =>
    match parseAction (bs.take 13), parseActions n (bs.drop 13) with
    | some a, some as => some (a :: as)
    | _, _ => none

/-! ## Frames -/

/-- The bytes of a control-link frame: SYNC, LENGTH, TYPE, TAG, PAYLOAD and CHECK (R182). -/
def Frame.wire (f : Frame) : List Byte :=
  let covered := u16 (f.payload.length + 2) ++ [f.type, f.tag] ++ f.payload
  [0xA5] ++ covered ++ u16 (checksum covered)

end Sys2Proof.Machine
end

