-- ==== Sys2Proof/Machine/Flags.lean ====
section
/-! DEFINITION. Composition and flags: the composed level S with its ceiling flag, the effective level E,
the composed mute, the ramp length in force and the flag byte of a lane frame (spec 01, sections 1.3 and
1.4; spec 09, R169). -/

namespace Sys2Proof.Machine

/-- The groups of a channel, in ascending order. -/
def groupsOf (s : State) (c : Chan) : List Grp := (allFin 8).filter fun g => inGroup s g c

/-- The raw sum of V, trim and the live offsets of the channel's groups (R5, step 2). -/
def rawSum (s : State) (c : Chan) : Int :=
  liveLevel s c + s.chans[c].trim + ((groupsOf s c).map (liveOffset s)).sum

/-- Whether V or the live offset of a member group is OFF (R5, step 1). -/
def isSilenced (s : State) (c : Chan) : Bool :=
  liveLevel s c == Config.off || (groupsOf s c).any fun g => liveOffset s g == Config.off

/-- The composed level S (R5). -/
def composedLevel (s : State) (c : Chan) : Int :=
  if isSilenced s c then Config.off else clampLevel (rawSum s c)

/-- The ceiling flag of the composition (R5). -/
def ceilingFlag (s : State) (c : Chan) : Bool :=
  !isSilenced s c && decide (Config.top < rawSum s c)

/-- The effective level E (R6). -/
def effectiveLevel (s : State) (c : Chan) : Int :=
  if composedLevel s c = Config.off then Config.off
  else if s.chans[c].atten = Config.off then Config.off
  else max Config.off (composedLevel s c + s.chans[c].atten)

/-- Whether the stop term of the composed mute is on for a channel (R7, R8). -/
def underStop (s : State) (c : Chan) : Bool := s.stop.active && !s.chans[c].announce

/-- The composed mute (R7). -/
def composedMute (s : State) (c : Chan) : Bool :=
  s.chans[c].ownMute || (groupsOf s c).any (fun g => s.groups[g].mute) || underStop s c

/-- The ramp length in force L (R8). -/
def rampInForce (s : State) (c : Chan) : Nat :=
  if underStop s c then s.stop.ramp else s.chans[c].ramp

/-- The goal of the mute ramp (R9). -/
def rampGoal (s : State) (c : Chan) : Int := if composedMute s c then Config.off else 0

/-- The flag byte of a channel in a lane frame (spec 11, lane frame; R169). -/
def laneFlags (s : State) (c : Chan) : Nat :=
  (if composedMute s c then 1 else 0)
    + (if s.chans[c].atten = Config.off then 2 else 0)
    + (if ceilingFlag s c then 4 else 0)
    + (if s.chans[c].claim.isSome then 8 else 0)
    + 16 * s.chans[c].ownership.code

end Sys2Proof.Machine
end

