-- ==== Sys2Proof/Machine/Notices.lean ====
section
/-! DEFINITION. The notices: their type codes and payloads, and the notice queue (spec 11, R187, R188). -/

namespace Sys2Proof.Machine

/-- The kind bit of a notice in the enable mask; its TYPE is E0h plus this (R188). -/
def Notice.bit : Notice → Nat
  | .moveRetired .. => 0
  | .cueFired .. => 1
  | .followDropped .. => 2
  | .rejoinDropped .. => 2
  | .takeover .. => 3
  | .clock .. => 4
  | .module .. => 5
  | .calibrated .. => 6
  | .calibrationAborted .. => 6
  | .lane .. => 7
  | .stop .. => 8

/-- The pickup side, ABOVE when absent (R35; log entry 20). -/
def sideField : Option Side → List Byte
  | some side => u8 side.code
  | none => u8 0

/-- The fields of a notice after its flags byte (R71, R113, R152, R86, R135, R164, R173, R181). The cause of
MOVES DROPPED is 0 for FOLLOW and 1 for REJOIN, and the state of MODULE is 1 for ONLINE (DEDUCED, log
entry 38). -/
def Notice.fields : Notice → List Byte
  | .moveRetired slot kind origin reason =>
    u8 slot.val ++ u8 kind.code ++ originField origin ++ u8 reason.code
  | .cueFired cue firing cause fireTime dropped standby =>
    u16 cue ++ u16 firing ++ u8 cause.code ++ u32 fireTime ++ u8 dropped ++ standbyField standby
  | .followDropped cue firing dropped => u8 0 ++ u16 cue ++ u16 firing ++ u8 dropped
  | .rejoinDropped c => u8 1 ++ u8 c.val
  | .takeover lower linked before after side cause base cueLevel =>
    u8 lower.val ++ flag linked ++ u8 before.code ++ u8 after.code ++ sideField side
      ++ u8 cause.code ++ s16 base ++ s16 cueLevel
  | .clock cause state source showTime =>
    u8 cause.code ++ u8 state.code ++ u8 source.code ++ u32 showTime
  | .module m online cause totalMisses =>
    u8 m.val ++ flag online ++ u8 cause.code ++ u16 totalMisses
  | .calibrated m strips =>
    u8 m.val ++ u8 0 ++ strips.flatMap fun r => flag r.1 ++ u16 r.2.1 ++ u16 r.2.2
  | .calibrationAborted m cause phase =>
    u8 m.val ++ u8 1 ++ u8 (if cause = .removed then 1 else 0) ++ u8 phase.code
  | .lane id before after cause counter losses =>
    u8 (laneCode id) ++ u8 before.code ++ u8 after.code ++ u8 cause.code ++ u16 counter ++ u16 losses
  | .stop cause active line cancelled showTime state =>
    u8 cause.code ++ flag active ++ flag line ++ u8 cancelled ++ u32 showTime ++ u8 state.code

/-- The frame of a notice sent with the given overflow flag (R187). -/
def Notice.frame (overflow : Bool) (n : Notice) : Frame :=
  { type := BitVec.ofNat 8 (0xE0 + n.bit), tag := 0, payload := flag overflow ++ n.fields }

/-- A 16-bit statistic rises by one and stops at 65535 (R189). -/
def bump (n : Nat) : Nat := min (n + 1) Config.count16

/-- A notice enters the notice queue when its kind is enabled; at a full queue it is dropped, the overflow flag is set
and the counter rises (R187). -/
def Link.post (n : Notice) (k : Link) : Link :=
  if !k.mask.getLsbD n.bit then k
  else if k.notices.length < Config.noticePlaces then { k with notices := k.notices ++ [n] }
  else { k with overflow := true, stats := { k.stats with dropped := bump k.stats.dropped } }

/-! ## The retirements of one instant (R71) -/

/-- The slot of a MOVE RETIRED notice. -/
def Notice.retiredSlot : Notice → Option Slot
  | .moveRetired slot _ _ _ => some slot
  | _ => none

/-- Whether a notice stands after a MOVE RETIRED notice of slot k: it names a higher slot (R71). -/
def Notice.standsAfter (k : Slot) (n : Notice) : Bool := n.retiredSlot.any fun j => decide (k < j)

/-- A MOVE RETIRED notice of slot k takes its place among those of its instant: in ascending slot order, after any of
its own slot (R71; log entry 42). -/
def placeRetired (k : Slot) (n : Notice) (ns : List Notice) : List Notice :=
  ns.filter (fun m => !m.standsAfter k) ++ n :: ns.filter (·.standsAfter k)

/-- A block queues a notice on the link. While the steps of one instant are carried out, a MOVE RETIRED notice waits
among those of the instant (R71, R187). -/
def Link.queue (n : Notice) (k : Link) : Link :=
  match n.retiredSlot, k.instant with
  | some slot, some ns => { k with instant := some (placeRetired slot n ns) }
  | _, _ => k.post n

/-- An instant of several steps begins; one that is in hand goes on. -/
def Link.openInstant (k : Link) : Link := { k with instant := some (k.instant.getD []) }

/-- The notices that wait for the end of an instant are queued, lowest slot first (R71). `goesOn` says that an instant
stays in hand. -/
def Link.closeInstant (goesOn : Bool) (k : Link) : Link :=
  match k.instant with
  | some ns => { ns.foldl (fun k n => k.post n) k with instant := if goesOn then some [] else none }
  | none => k

/-- A block queues a notice (R187). -/
def queueNotice (n : Notice) (s : State) : State := { s with link := s.link.queue n }

/-- Several steps of one instant: the MOVE RETIRED notices that they make are queued at its end, in ascending slot
order whichever step retires a move (R71; log entry 42). Those of an instant in hand are queued with them. -/
def inOneInstant {α : Type} (steps : State → State × α) (s : State) : State × α :=
  let made := steps { s with link := s.link.openInstant }
  ({ made.1 with link := made.1.link.closeInstant s.link.instant.isSome }, made.2)

end Sys2Proof.Machine
end

