-- ==== Sys2Proof/Machine/Ops.lean ====
section
/-! DEFINITION. The named operations over the records: updates of a channel, a group or a slot, the mute
ramp's response to a change (R10), claim removal (R48), retirement (R71, R72) and the end watch (R108). -/

namespace Sys2Proof.Machine

/-! ## Updates of one record -/

/-- A channel record changed. -/
def updChan (c : Chan) (f : Channel → Channel) (s : State) : State :=
  { s with chans := s.chans.set c (f s.chans[c]) }

/-- The channel records of a list changed, in the list's order. -/
def updChans (cs : List Chan) (f : Channel → Channel) (s : State) : State :=
  cs.foldl (fun s c => updChan c f s) s

/-- Every channel record changed at one instant. -/
@[irreducible] def mapChans (f : Chan → Channel → Channel) (s : State) : State :=
  { s with chans := Vector.ofFn fun c => f c s.chans[c] }

/-- A group record changed. -/
def updGroup (g : Grp) (f : Group → Group) (s : State) : State :=
  { s with groups := s.groups.set g (f s.groups[g]) }

/-- Every group record changed at one instant. -/
@[irreducible] def mapGroups (f : Grp → Group → Group) (s : State) : State :=
  { s with groups := Vector.ofFn fun g => f g s.groups[g] }

/-- A slot of the Move Table written; `none` is FREE. -/
def setSlot (k : Slot) (mv : Option Move) (s : State) : State :=
  { s with moves := s.moves.set k mv }

/-- The move of a slot changed, when there is one. -/
def updMove (k : Slot) (f : Move → Move) (s : State) : State :=
  match s.moves[k] with
  | some mv => setSlot k (some (f mv)) s
  | none => s

/-- The Playback Controller's state changed. -/
def updPlay (f : Playback → Playback) (s : State) : State := { s with play := f s.play }

/-- The Show Clock's state changed. -/
def updClock (f : Clock → Clock) (s : State) : State := { s with clock := f s.clock }

/-- The Surface Controller's state changed. -/
def updSurf (f : Surface → Surface) (s : State) : State := { s with surf := f s.surf }

/-- The Output Lanes' state changed. -/
def updLanes (f : Lanes → Lanes) (s : State) : State := { s with lanes := f s.lanes }

/-- The Show Stop Unit's state changed. -/
def updStop (f : StopUnit → StopUnit) (s : State) : State := { s with stop := f s.stop }

/-- The Control Link's state changed. -/
def updLink (f : Link → Link) (s : State) : State := { s with link := f s.link }

/-! ## Mutes -/

/-- What R10 does at a change of goal or ramp length from `before` to `after`: where the change leaves
the ramp length in force at 0, m takes its goal at once; otherwise m is not moved by the change. -/
def resnap (before after : State) : State :=
  mapChans
    (fun c ch =>
      if (rampGoal before c ≠ rampGoal after c ∨ rampInForce before c ≠ rampInForce after c)
          ∧ rampInForce after c = 0 then { ch with atten := rampGoal after c }
      else ch)
    after

/-- The own mute of a channel and of its linked partner (R31, R39). -/
def setOwnMute (c : Chan) (on : Bool) (s : State) : State :=
  resnap s (updChans (unitChans s c) (fun ch => { ch with ownMute := on }) s)

/-- The mute of a group, with its effect on every member (R27). -/
def setGroupMute (g : Grp) (on : Bool) (s : State) : State :=
  resnap s (updGroup g (fun gr => { gr with mute := on }) s)

/-! ## The end watch (R108) -/

/-- An end watch that stands at 0 empties itself and arms the follow slot at r + n (R108). -/
def expireEndWatch (r : Nat) (s : State) : State :=
  match s.play.endWatch with
  | some w =>
    if w.count = 0 then updPlay (fun p => { p with endWatch := none, follow := some (r + w.wait) }) s
    else s
  | none => s

/-- A finite CUE-origin retirement reported to the Playback Controller at show time r (R72, R108). -/
def reportRetirement (firing r : Nat) (s : State) : State :=
  match s.play.endWatch with
  | some w =>
    if w.firing = firing then
      expireEndWatch r (updPlay (fun p => { p with endWatch := some { w with count := w.count - 1 } }) s)
    else s
  | none => s

/-! ## Moves: finite length, retirement, claims -/

/-- An instant kind (R46). -/
def MoveKind.isInstant : MoveKind → Bool
  | .level => false
  | .group => false
  | _ => true

/-- A move of finite length; a delayed instant kind is finite (R45, R72). -/
def Move.isFinite (mv : Move) : Bool := mv.kind.isInstant || !mv.cycle || mv.count != 0

/-- Retiring a move: its notice is queued, a finite move of CUE origin is reported with the instant r,
and the slot becomes FREE (R71, R72). -/
def retire (k : Slot) (reason : Reason) (r : Nat) (s : State) : State :=
  match s.moves[k] with
  | none => s
  | some mv =>
    let s1 := setSlot k none (queueNotice (.moveRetired k mv.kind mv.origin reason) s)
    match mv.origin with
    | .cue firing _ => if mv.isFinite then reportRetirement firing r s1 else s1
    | _ => s1

/-- Whether the move of a slot holds no claim. -/
def isEmptied (k : Slot) (s : State) : Bool :=
  match s.moves[k] with
  | some mv => mv.claims == 0
  | none => false

/-- One claim of a slot is gone (R48, step 3). -/
def dropClaim (k : Slot) (s : State) : State := updMove k (fun mv => { mv with claims := mv.claims - 1 }) s

/-- Steps 1 to 3 of R48 for a channel: B becomes V, the claim is cleared, the count drops. -/
def unclaimChan (c : Chan) (s : State) : State :=
  match s.chans[c].claim with
  | none => s
  | some cl =>
    dropClaim cl.slot (updChan c (fun ch => { ch with base := liveLevel s c, claim := none }) s)

/-- Steps 1 to 3 of R48 for a group: the stored offset becomes G, the claim is cleared, the count
drops. -/
def unclaimGroup (g : Grp) (s : State) : State :=
  match s.groups[g].claim with
  | none => s
  | some cl =>
    dropClaim cl.slot (updGroup g (fun gr => { gr with offset := liveOffset s g, claim := none }) s)

/-- The slots that claim the channels of a list. -/
def claimants (s : State) (cs : List Chan) : List Slot :=
  cs.filterMap fun c => s.chans[c].claim.map (·.slot)

/-- Step 4 of R48 for several slots at one instant: those left without a claim retire SUPERSEDED, in
ascending slot order (R71). -/
def retireEmptied (ks : List Slot) (s : State) : State :=
  (allFin 48).foldl
    (fun s k => if k ∈ ks ∧ isEmptied k s then retire k .superseded s.clock.showTime s else s) s

/-- The removal of every claim on the channels of a list, at one instant (R48). -/
def removeClaims (cs : List Chan) (s : State) : State :=
  retireEmptied (claimants s cs) (cs.foldl (fun s c => unclaimChan c s) s)

/-- The removal of a group's claim (R41, R48). -/
def removeGroupClaim (g : Grp) (s : State) : State :=
  retireEmptied ((s.groups[g].claim.map (·.slot)).toList) (unclaimGroup g s)

/-- Whether the move of a slot is of CUE or BACK origin, which SAFE keeps away (R29). -/
def Origin.heedsSafe : Origin → Bool
  | .cue _ _ => true
  | .back _ => true
  | _ => false

/-- Whether a channel is claimed by a move of CUE or BACK origin (R29). -/
def claimedByShow (s : State) (c : Chan) : Bool :=
  match s.chans[c].claim with
  | some cl =>
    match s.moves[cl.slot] with
    | some mv => mv.origin.heedsSafe
    | none => false
  | none => false

/-- Whether a claim names a slot. -/
def claimIs (k : Slot) (cl : Option Claim) : Bool :=
  match cl with
  | some cl => cl.slot == k
  | none => false

/-- Every record the slot claims takes its live value and is released (R69, step 1). -/
def freezeClaims (k : Slot) (s : State) : State :=
  let s1 := mapChans (fun c ch =>
    if claimIs k ch.claim then { ch with base := liveLevel s c, claim := none } else ch) s
  mapGroups (fun g gr =>
    if claimIs k gr.claim then { gr with offset := liveOffset s g, claim := none } else gr) s1

/-- Every record the slot claims takes its lane target and is released (R64, step 1). -/
def completeClaims (k : Slot) (s : State) : State :=
  let s1 := mapChans (fun _ ch =>
    match ch.claim with
    | some cl => if cl.slot = k then { ch with base := cl.target, claim := none } else ch
    | none => ch) s
  mapGroups (fun _ gr =>
    match gr.claim with
    | some cl => if cl.slot = k then { gr with offset := cl.target, claim := none } else gr
    | none => gr) s1

/-- Cancelling the move of a slot (R69). -/
def cancelMove (k : Slot) (reason : Reason) (s : State) : State :=
  retire k reason s.clock.showTime (freezeClaims k s)

/-- The slots whose moves satisfy a condition, in ascending order. -/
def slotsWhere (p : Move → Bool) (s : State) : List Slot :=
  (allFin 48).filter fun k => match s.moves[k] with | some mv => p mv | none => false

/-- Cancelling every move that satisfies a condition, in ascending slot order (R70, R71). -/
def cancelWhere (p : Move → Bool) (reason : Reason) (s : State) : State :=
  (slotsWhere p s).foldl (fun s k => cancelMove k reason s) s

/-- The lowest-numbered FREE slot (R53). -/
def freeSlot (s : State) : Option Slot := (allFin 48).find? fun k => s.moves[k].isNone

/-- A free choice is taken: the count of free choices rises. -/
def tickFree (s : State) : State := { s with freeCount := s.freeCount + 1 }

end Sys2Proof.Machine
end

