-- ==== Sys2Proof/Machine/Moves.lean ====
section
/-! DEFINITION. The life of a LEVEL or GROUP move: placing, start, end of a traversal (spec 03, sections 3.3
to 3.6). -/

namespace Sys2Proof.Machine

/-- The lane target: the recorded target, the value, or the clamped sum of V and the delta (R20, R57). -/
def laneTarget (mv : Move) (recorded : Option Int) (v : Int) : Int :=
  match recorded with
  | some t => t
  | none =>
    match mv.mode with
    | .abs => mv.value
    | .rel => clampLevel (v + mv.value)

/-- The claim of a lane is written and the claim count rises (R57, step 4). -/
def takeClaim (k : Slot) (c : Chan) (start target : Int) (s : State) : State :=
  updMove k (fun mv => { mv with claims := mv.claims + 1 })
    (updChan c (fun ch => { ch with claim := some ⟨k, start, target⟩, cueLevel := target }) s)

/-- One channel of the pending set at the start of a LEVEL move (R57, steps 1 to 4). -/
def startLane (k : Slot) (mv : Move) (c : Chan) (recorded : Option Int) (s : State) : State :=
  if mv.origin.heedsSafe && s.chans[c].safe then s
  else
    let v := liveLevel s c
    let target := laneTarget mv recorded v
    if s.chans[c].ownership = .touched ∨ s.chans[c].ownership = .latched then
      updChan c (fun ch => { ch with cueLevel := target }) s
    else takeClaim k c v target (unclaimChan c s)

/-- The group of a GROUP move at its start (R59). -/
def startGroup (k : Slot) (mv : Move) (g : Grp) (recorded : Option Int) (s : State) : State :=
  let v := liveOffset s g
  let target := laneTarget mv recorded v
  let s1 := unclaimGroup g s
  updMove k (fun mv => { mv with claims := mv.claims + 1 })
    (updGroup g (fun gr => { gr with claim := some ⟨k, v, target⟩ }) s1)

/-- The slots whose claims the start of a pending set can steal. -/
def pendingClaimants (s : State) : Pending → List Slot
  | .chans cs => claimants s cs
  | .lanes ls => claimants s (ls.map (·.1))
  | .group g => (s.groups[g].claim.map (·.slot)).toList
  | .groupTo g _ => (s.groups[g].claim.map (·.slot)).toList

/-- The lanes of a pending set are started one after another (R57, R59). -/
def startPending (k : Slot) (mv : Move) (s : State) : State :=
  match mv.pending with
  | .chans cs => cs.foldl (fun s c => startLane k mv c none s) s
  | .lanes ls => ls.foldl (fun s l => startLane k mv l.1 (some l.2) s) s
  | .group g => startGroup k mv g none s
  | .groupTo g t => startGroup k mv g (some t) s

/-- The instant a retirement at a move's end is reported with (R72). -/
def endInstant (mv : Move) (s : State) : Nat :=
  match mv.timeBase with
  | .showTime => mv.due
  | .wallTime => s.clock.showTime

/-- A move completes: its targets are written and it retires COMPLETED (R64). -/
def completeMove (k : Slot) (s : State) : State :=
  match s.moves[k] with
  | none => s
  | some mv => retire k .completed (endInstant mv s) (completeClaims k s)

/-- The end of a start: EMPTY with no claim (R60), completed at once with duration 0 and ONCE (R66). -/
def finishStart (k : Slot) (s : State) : State :=
  match s.moves[k] with
  | none => s
  | some mv =>
    if mv.claims = 0 then retire k .empty s.clock.showTime s
    else if mv.duration = 0 ∧ mv.cycle = false then completeMove k s
    else s

/-- The retirements of one start, in ascending slot order (R48, R60, R66, R71): the moves it left without
a claim, and the starting move itself. -/
def sweepStart (k : Slot) (stolen : List Slot) (s : State) : State :=
  (allFin 48).foldl
    (fun s j =>
      if j = k then finishStart k s
      else if j ∈ stolen ∧ isEmptied j s then retire j .superseded s.clock.showTime s
      else s) s

/-- How many traversals a move runs; 0 for an endless CYCLE (R45, R56). A DELAYED move holds the same number,
an instant kind stored with CYCLE among them (DEDUCED, log entry 24). -/
def traversals (mv : Move) : Nat := if mv.cycle then mv.count else 1

/-- A LEVEL or GROUP move starts at the given start time (R56, R57, R59). -/
def startFading (k : Slot) (start : Nat) (s : State) : State :=
  match s.moves[k] with
  | none => s
  | some mv =>
    let s1 := setSlot k (some { mv with
      phase := .running start
      remaining := traversals mv
      due := addTime mv.timeBase start mv.duration }) s
    sweepStart k (pendingClaimants s1 mv.pending) (startPending k mv s1)

/-- What a creation hands to its creator (R54). -/
inductive Creation where
  | empty
  | acted
  | noSlot
  | placed (k : Slot)
  | retiredAtCreation (k : Slot)
deriving DecidableEq, Repr

/-- The outcome of a creation that took slot k. -/
def placedOutcome (k : Slot) (s : State) : Creation :=
  if s.moves[k].isNone then .retiredAtCreation k else .placed k

/-- A created move is written into its slot, DELAYED until its due time (R53, R55). -/
def placeMove (k : Slot) (mv : Move) (created : Nat) (s : State) : State :=
  { setSlot k (some { mv with
      phase := .delayed
      due := addTime mv.timeBase created mv.delay
      remaining := traversals mv
      claims := 0
      seq := s.moveSeq }) s with moveSeq := s.moveSeq + 1 }

/-- The creation of a LEVEL or GROUP move with delay 0 that carries recorded targets, for BACK and for a
rejoin glide (R53, R111, R146). -/
def createRecorded (mv : Move) (s : State) : State × Creation :=
  match freeSlot s with
  | none => (s, .noSlot)
  | some k =>
    let created := nowIn mv.timeBase s
    let s1 := startFading k created (placeMove k mv created s)
    (s1, placedOutcome k s1)

/-- A RUNNING CYCLE move turns round (R65). -/
def turnRound (k : Slot) (mv : Move) (start : Nat) (s : State) : State :=
  let next := addTime mv.timeBase start mv.duration
  let s1 := setSlot k (some { mv with
    remaining := if mv.count = 0 then 0 else mv.remaining - 1
    phase := .running next
    due := addTime mv.timeBase next mv.duration }) s
  let swap : Option Claim → Option Claim := fun cl =>
    if claimIs k cl then cl.map fun cl => { cl with start := cl.target, target := cl.start } else cl
  mapGroups (fun _ gr => { gr with claim := swap gr.claim })
    (mapChans (fun _ ch => { ch with claim := swap ch.claim }) s1)

/-- A RUNNING LEVEL or GROUP move reaches its due time (R64, R65). -/
def endTraversal (k : Slot) (s : State) : State :=
  match s.moves[k] with
  | none => s
  | some mv =>
    match mv.phase with
    | .delayed => s
    | .running start =>
      if mv.cycle = false ∨ mv.remaining = 1 then completeMove k s else turnRound k mv start s

/-- Whether a move has reached its due time in its time base (R55, R64, R79). -/
def isDue (mv : Move) (s : State) : Bool :=
  match mv.timeBase with
  | .showTime => decide (mv.due ≤ s.clock.showTime)
  | .wallTime =>
    match mv.phase with
    | .delayed =>
      decide (mv.delay ≤ wallSince s.clock.wallTime (wallSince mv.due mv.delay))
    | .running start => decide (mv.duration ≤ wallSince s.clock.wallTime start)

end Sys2Proof.Machine
end

