-- ==== Sys2Proof/Machine/Takeover.lean ====
section
/-! DEFINITION. The Takeover Unit: touches, position reports, releases, hand-backs and rejoin glides
(spec 07). -/

namespace Sys2Proof.Machine

/-- The fader level of a strip's last position through its bound channel's table (spec 07, section 7.2). -/
def faderLevel (s : State) (i : StripId) (c : Chan) : Int :=
  taperForward (tableOf s s.chans[c].taper) s.surf.strips[i].lastPos

/-- The ownership state of a unit takes a value, with the fields R137 ties to the state cleared. -/
def setOwnership (c : Chan) (o : Ownership) (s : State) : State :=
  updChans (unitChans s c)
    (fun ch => { ch with ownership := o, side := none, pickupStrip := none, balance := none }) s

/-- The TAKEOVER notice of a unit's change of state; B is given as it stands after the transition
(R152). -/
def takeoverNotice (s : State) (c : Chan) (after : Ownership) (side : Option Side)
    (cause : TakeoverCause) (base : Int) : Notice :=
  .takeover (unitLower s c) (isLinked s c) s.chans[c].ownership after side cause base
    s.chans[unitLower s c].cueLevel

/-- The pair balance of a linked unit: B of the odd channel minus B of the even one (R137, R139). -/
def recordBalance (c : Chan) (s : State) : State :=
  if isLinked s c then
    let d := s.chans[oddOf (pairOf c)].base - s.chans[evenOf (pairOf c)].base
    updChans (unitChans s c) (fun ch => { ch with balance := some d }) s
  else s

/-- A unit goes to TOUCHED: state and notice, claim removal, pair balance (R139, R141, R147). The claim
removal writes V into B, so the notice's B is V (log entry 13). -/
def takeTouched (c : Chan) (cause : TakeoverCause) (s : State) : State :=
  let n := takeoverNotice s c .touched none cause (liveLevel s (unitLower s c))
  let s1 := queueNotice n (setOwnership c .touched s)
  recordBalance c (removeClaims (unitChans s1 c) s1)

/-- A unit enters PICKUP on the given side, held by the given strip (R140). -/
def enterPickup (c : Chan) (side : Side) (i : StripId) (s : State) : State :=
  let n := takeoverNotice s c .pickup (some side) .touch s.chans[unitLower s c].base
  queueNotice n (updChans (unitChans s c)
    (fun ch => { ch with
      ownership := .pickup, side := some side, pickupStrip := some i, balance := none }) s)

/-- A touch delivered for the unit of channel c, which strip i supplies (R139, R140, R147). -/
def deliverTouch (c : Chan) (i : StripId) (s : State) : State :=
  match s.chans[c].ownership with
  | .auto =>
    match s.chans[c].mode with
    | .touch => takeTouched c .touch s
    | .latch => takeTouched c .touch s
    | .pickup =>
      if faderLevel s i c = liveLevel s c then takeTouched c .touch s
      else if liveLevel s c < faderLevel s i c then enterPickup c .above i s
      else enterPickup c .below i s
  | .latched => takeTouched c .touch s
  | .pickup => s
  | .touched => s

/-- In TOUCHED the fader level F of the supplied channel c is written into B, and the partner of a linked
pair follows by the pair balance (R143), also where B of the supplied channel is F already (DEDUCED, log
entry 40). -/
def writeFader (c : Chan) (f : Int) (s : State) : State :=
  if isLinked s c then
    let d := (s.chans[c].balance).getD 0
    let even := evenOf (pairOf c)
    let odd := oddOf (pairOf c)
    if c = even then
      updChan odd (fun ch => { ch with base := clampLevel (f + d) })
        (updChan even (fun ch => { ch with base := f }) s)
    else
      updChan even (fun ch => { ch with base := clampLevel (f - d) })
        (updChan odd (fun ch => { ch with base := f }) s)
  else updChan c (fun ch => { ch with base := f }) s

/-- The crossing is complete: the unit goes to TOUCHED and the same report is its first (R141). -/
def completeCrossing (c : Chan) (i : StripId) (s : State) : State :=
  let f := faderLevel s i c
  writeFader c f (takeTouched c .crossing s)

/-- Whether a report of F against V completes the crossing from a side (R141). -/
def crosses (side : Option Side) (f v : Int) : Bool :=
  match side with
  | some .above => decide (f ≤ v)
  | some .below => decide (v ≤ f)
  | none => false

/-- A position report of strip i, bound to channel c, for c's unit (R141, R142, R143). -/
def deliverPosition (c : Chan) (i : StripId) (s : State) : State :=
  match s.chans[c].ownership with
  | .touched => writeFader c (faderLevel s i c) s
  | .pickup =>
    let f := faderLevel s i c
    let v := liveLevel s c
    if s.chans[c].pickupStrip = some i then
      if crosses s.chans[c].side f v then completeCrossing c i s else s
    else if f = v then completeCrossing c i s
    else
      updChans (unitChans s c)
        (fun ch => { ch with
          side := some (if v < f then Side.above else Side.below), pickupStrip := some i }) s
  | .auto => s
  | .latched => s

/-- What a hand-back's rejoin glide came to (R146, R148). -/
inductive Glide where
  | notAsked
  | made
  | dropped
deriving DecidableEq, Repr

/-- The lanes of a unit's rejoin glide: the channels whose B differs from their cue level (R146). -/
def glideLanes (s : State) (c : Chan) : List (Chan × Int) :=
  ((unitChans s c).filter fun u => s.chans[u].base != s.chans[u].cueLevel).map
    fun u => (u, s.chans[u].cueLevel)

/-- The rejoin glide's move record before it is placed (R146). -/
def glideMove (s : State) (c : Chan) : Move :=
  { kind := .level, origin := .rejoin (unitLower s c), spec := none, pending := .lanes (glideLanes s c)
    mode := .abs, value := 0, law := .taper, curve := .sCurve, timeBase := .wallTime
    delay := 0, duration := s.surf.glide, cycle := false, count := 0, remaining := 1, due := 0
    phase := .delayed, claims := 0, seq := 0 }

/-- The GLIDE policy: a rejoin glide is asked for unless there is no lane or no glide time (R146). -/
def askGlide (c : Chan) (s : State) : State × Glide :=
  if glideLanes s c = [] ∨ s.surf.glide = 0 then (s, .notAsked)
  else
    match createRecorded (glideMove s c) s with
    | (s1, .noSlot) => (queueNotice (.rejoinDropped (unitLower s c)) s1, .dropped)
    | (s1, _) => (s1, .made)

/-- Handing a unit back to AUTO under its release policy (R145). -/
def handBackGlide (c : Chan) (cause : TakeoverCause) (s : State) : State × Glide :=
  let n := takeoverNotice s c .auto none cause s.chans[unitLower s c].base
  let s1 := queueNotice n (setOwnership c .auto s)
  match s.chans[c].policy with
  | .hold => (s1, .notAsked)
  | .glide => askGlide c s1

/-- Handing a unit back, where nobody counts its glides (R145). -/
def handBack (c : Chan) (cause : TakeoverCause) (s : State) : State := (handBackGlide c cause s).1

/-- A release delivered for the unit of channel c (R142, R144, R149). -/
def deliverRelease (c : Chan) (s : State) : State :=
  match s.chans[c].ownership with
  | .pickup =>
    let n := takeoverNotice s c .auto none .release s.chans[unitLower s c].base
    queueNotice n (setOwnership c .auto s)
  | .touched =>
    match s.chans[c].mode with
    | .latch =>
      let n := takeoverNotice s c .latched none .release s.chans[unitLower s c].base
      queueNotice n (setOwnership c .latched s)
    | .touch => handBack c .release s
    | .pickup => handBack c .release s
  | .auto => s
  | .latched => s

end Sys2Proof.Machine
end

