-- ==== Sys2Proof/Machine/Actions.lean ====
section
/-! DEFINITION. Creation of a move from an action record: resolution, the instant kinds, slots and delays,
and the start of a DELAYED move (spec 03, sections 3.3 and 3.4). -/

namespace Sys2Proof.Machine

/-- The partners of linked channels are added; the result stands in ascending order (R50, step 2). -/
def withPartners (s : State) (cs : List Chan) : List Chan :=
  (allFin 64).filter fun c => cs.any fun d => d == c || (unitChans s d).contains c

/-- The channels a target spec resolves to at this instant (R50, step 1). -/
def resolveSpec (s : State) : TargetSpec → List Chan
  | .channel c => [c]
  | .set e => s.sets[e]
  | .members g => membersOf s g
  | .group _ => []

/-- The channels of a move's pending set: resolved, with partners, SAFE channels removed for CUE origin
(R50). -/
def resolveChans (s : State) (o : Origin) (t : TargetSpec) : List Chan :=
  (withPartners s (resolveSpec s t)).filter fun c => !(o.heedsSafe && s.chans[c].safe)

/-- The pending set of an action (R50). -/
def resolvePending (s : State) (o : Origin) (t : TargetSpec) : Pending :=
  match t with
  | .group g => .group g
  | .channel _ => .chans (resolveChans s o t)
  | .set _ => .chans (resolveChans s o t)
  | .members _ => .chans (resolveChans s o t)

/-- Whether a pending set is empty (R51). -/
def Pending.isEmpty : Pending → Bool
  | .chans cs => cs.isEmpty
  | .lanes ls => ls.isEmpty
  | .group _ => false
  | .groupTo _ _ => false

/-- The channels of a pending set. -/
def Pending.channels : Pending → List Chan
  | .chans cs => cs
  | .lanes ls => ls.map (·.1)
  | .group _ => []
  | .groupTo _ _ => []

/-- The channels an instant kind acts on: those not passed over as SAFE (R29, R52). -/
def actedOn (s : State) (mv : Move) : List Chan :=
  mv.pending.channels.filter fun c => !(mv.origin.heedsSafe && s.chans[c].safe)

/-- A RELEASE acts on one channel: its unit is handed back when it is LATCHED (R52, R147). -/
def releaseLatched (c : Chan) (s : State) : State :=
  if s.chans[c].ownership = .latched then handBack c .releaseAction s else s

/-- The group of a pending set, when it is one. -/
def Pending.groupOf : Pending → Option Grp
  | .chans _ => none
  | .lanes _ => none
  | .group g => some g
  | .groupTo g _ => some g

/-- The group mute of a pending group takes a value (R52). -/
def actGroup (mv : Move) (on : Bool) (s : State) : State :=
  match mv.pending.groupOf with
  | some g => setGroupMute g on s
  | none => s

/-- An instant kind acts on its pending set (R52). -/
def actInstant (mv : Move) (s : State) : State :=
  match mv.kind with
  | .mute => (actedOn s mv).foldl (fun s c => setOwnMute c true s) s
  | .unmute => (actedOn s mv).foldl (fun s c => setOwnMute c false s) s
  | .groupMute => actGroup mv true s
  | .groupUnmute => actGroup mv false s
  | .release => (actedOn s mv).foldl (fun s c => releaseLatched c s) s
  | .level => s
  | .group => s

/-- The move record an action and an origin give, before it is placed (R45, R50). -/
def moveOf (s : State) (o : Origin) (a : Action) : Move :=
  { kind := a.kind, origin := o, spec := some a.spec, pending := resolvePending s o a.spec
    mode := a.mode, value := a.value, law := a.law, curve := a.curve, timeBase := a.timeBase
    delay := a.delay, duration := a.duration, cycle := a.cycle, count := a.count
    remaining := 0, due := 0, phase := .delayed, claims := 0, seq := 0 }

/-- The creation of a move from an action; `fireTime` is the creation time of a SHOW-base action
(R49 to R56). -/
def createMove (o : Origin) (a : Action) (fireTime : Nat) (s : State) : State × Creation :=
  let mv := moveOf s o a
  if mv.pending.isEmpty then (s, .empty)
  else if mv.kind.isInstant && mv.delay == 0 then (actInstant mv s, .acted)
  else
    match freeSlot s with
    | none => (s, .noSlot)
    | some k =>
      let created := match mv.timeBase with
        | .showTime => fireTime
        | .wallTime => s.clock.wallTime
      let s1 := placeMove k mv created s
      if 0 < mv.delay then (s1, .placed k)
      else
        let s2 := startFading k created s1
        (s2, placedOutcome k s2)

/-- A DELAYED move reaches its due time: an instant kind acts and retires COMPLETED (R58), a LEVEL or
GROUP move starts at its due time (R56). -/
def startDelayed (k : Slot) (s : State) : State :=
  match s.moves[k] with
  | none => s
  | some mv =>
    match mv.phase with
    | .running _ => s
    | .delayed =>
      if mv.kind.isInstant then
        let s1 := actInstant mv s
        retire k .completed s1.clock.showTime s1
      else startFading k mv.due s

end Sys2Proof.Machine
end

