-- ==== Sys2Proof/Machine/ClockOps.lean ====
section
/-! DEFINITION. The Show Clock's transitions: entry into and exit from RUNNING, the CLOCK notice, saturation,
the pulse-loss timer (spec 04, sections 4.2, 4.4, 4.5 and 4.6). -/

namespace Sys2Proof.Machine

/-- A CLOCK notice with the clock as it stands (R86). -/
def clockNotice (cause : ClockCause) (s : State) : State :=
  queueNotice (.clock cause s.clock.state s.clock.source s.clock.showTime) s

/-- The exit from RUNNING: the timer is disarmed and a FREEWHEEL source becomes PULSE (R80, R84). -/
def Clock.exitRunning (k : Clock) : Clock :=
  { k with
    lossTimer := none
    source := if k.source = .freewheel then .pulse else k.source }

/-- The clock goes to HELD with the exit actions and a CLOCK notice (R85, R88). -/
def holdClock (cause : ClockCause) (s : State) : State :=
  clockNotice cause (updClock (fun k => { k.exitRunning with state := .held }) s)

/-- A RUNNING or STEPPING clock at the last show time goes to HELD (R85). -/
def saturate (s : State) : State :=
  if s.clock.showTime = Config.showMax ∧ (s.clock.state = .running ∨ s.clock.state = .stepping) then
    holdClock .saturated s
  else s

/-- Entry into RUNNING: divider count cleared, timer armed on the PULSE source, CLOCK notice; at the last
show time the clock is held at once (R80, R84, R85, R88). -/
def runClock (cause : ClockCause) (s : State) : State :=
  saturate (clockNotice cause (updClock (fun k =>
    { k with
      state := .running
      divCount := 0
      lossTimer := if k.source = .pulse then some k.wallTime else none }) s))

/-- The Playback Controller's request at a GO: only a STOPPED clock starts (R88). -/
def startForGo (s : State) : State :=
  if s.clock.state = .stopped then runClock .go s else s

/-- The Show Stop Unit's request at entry: a RUNNING or STEPPING clock is held (R88). -/
def holdForStop (s : State) : State :=
  if s.clock.state = .running ∨ s.clock.state = .stepping then holdClock .stop s else s

/-- Whether the pulse-loss timer has run for 4 x W ms (R84). -/
def lossDue (k : Clock) : Bool :=
  match k.lossTimer with
  | some armed => decide (4 * k.weight ≤ wallSince k.wallTime armed)
  | none => false

/-- The expiry of the pulse-loss timer (R84). -/
def expireLoss (s : State) : State :=
  clockNotice .pulseLost (updClock (fun k => { k with lossTimer := none, source := .freewheel }) s)

end Sys2Proof.Machine
end

