-- ==== Sys2Proof/Machine/Playback.lean ====
section
/-! DEFINITION. The Playback Controller: the cue store, a firing, follows, the recall stack and BACK
(spec 05). -/

namespace Sys2Proof.Machine

/-! ## The cue store -/

/-- The stored cue of a number. -/
def findCue (n : Nat) (store : List Cue) : Option Cue := store.find? fun c => c.number == n

/-- The next cue in order after a number (R93). -/
def nextCue (n : Nat) (store : List Cue) : Option Cue := store.find? fun c => decide (n < c.number)

/-- The number of the next cue in order, none for END (R93). -/
def nextNumber (n : Nat) (store : List Cue) : Option Nat := (nextCue n store).map (·.number)

/-- The pool records in use (R93). -/
def poolUsed (store : List Cue) : Nat := (store.map fun c => c.actions.length).sum

/-- A cue stored at its place in number order, replacing the one of its number (R94, R95). -/
def insertCue (c : Cue) : List Cue → List Cue
  | [] => [c]
  | d :: ds =>
    if c.number < d.number then c :: d :: ds
    else if c.number = d.number then c :: ds
    else d :: insertCue c ds

/-- The store without a cue (R97). -/
def removeCue (n : Nat) (store : List Cue) : List Cue := store.filter fun c => c.number != n

/-- A cue's loop counter reloaded from its link's count (R93, R106). -/
def Cue.reload (c : Cue) : Cue := { c with loopCounter := c.loopCount }

/-- The loop counter of one cue takes a value. -/
def setCounter (n v : Nat) (store : List Cue) : List Cue :=
  store.map fun c => if c.number = n then { c with loopCounter := v } else c

/-! ## Recall records -/

/-- Whether an action's channels are recorded (R110). -/
def recordsChans : MoveKind → Bool
  | .level => true
  | .mute => true
  | .unmute => true
  | _ => false

/-- The channels a cue's actions reach, each once, in ascending order (R110). -/
def reachedChans (s : State) (firing : Nat) (c : Cue) : List Chan :=
  (allFin 64).filter fun ch => c.actions.any fun a =>
    recordsChans a.kind && (resolveChans s (.cue firing c.number) a.spec).contains ch

/-- Whether an action names a group for its offset or mute (R110). -/
def namesGroup (g : Grp) (a : Action) : Bool :=
  match a.kind, a.spec with
  | .group, .group h => h == g
  | .groupMute, .group h => h == g
  | .groupUnmute, .group h => h == g
  | _, _ => false

/-- The recall record of a firing, taken before its actions are processed (R110). -/
def recallRecord (s : State) (firing : Nat) (c : Cue) : RecallRecord :=
  { cue := c.number, firing := firing
    chans := (reachedChans s firing c).map fun ch => (ch, liveLevel s ch, s.chans[ch].ownMute)
    groups := ((allFin 8).filter fun g => c.actions.any (namesGroup g)).map
      fun g => (g, liveOffset s g, s.groups[g].mute) }

/-! ## A firing -/

/-- The actions of a cue become creations one after another; the dropped ones are counted (R104). -/
def createEach (o : Origin) (fireTime : Nat) (as : List Action) (s : State) : State × Nat :=
  as.foldl
    (fun acc a =>
      let made := createMove o a fireTime acc.1
      (made.1, if made.2 = .noSlot then acc.2 + 1 else acc.2))
    (s, 0)

/-- Step 6 of a firing: each action in turn becomes a creation (R104). The moves that the creations retire queue their
notices in ascending slot order, before the CUE FIRED of step 9 (R71, R113; log entry 42). -/
def fireActions (o : Origin) (fireTime : Nat) (as : List Action) (s : State) : State × Nat :=
  inOneInstant (createEach o fireTime as) s

/-- Whether a move is of CUE origin with a firing id (R101). -/
def Move.ofFiring (f : Nat) (mv : Move) : Bool :=
  match mv.origin with
  | .cue g _ => g == f
  | _ => false

/-- The finite moves of a firing that occupy slots (R104). -/
def outstanding (f : Nat) (s : State) : Nat :=
  (slotsWhere (fun mv => mv.ofFiring f && mv.isFinite) s).length

/-- Step 7 of a firing: standby advances, or loops (R103). -/
def advanceStandby (c : Cue) (p : Playback) : Playback :=
  if c.loopCount = 0 then { p with standby := nextNumber c.number p.store }
  else if 0 < c.loopCounter - 1 then
    { p with
      store := setCounter c.number (c.loopCounter - 1) p.store
      standby :=
        if (findCue c.loopTarget p.store).isSome then some c.loopTarget
        else nextNumber c.number p.store }
  else
    { p with
      store := setCounter c.number c.loopCount p.store
      standby := nextNumber c.number p.store }

/-- Step 8 of a firing: the cue's follow is armed, k being the count of outstanding moves (R105). -/
def armFollow (c : Cue) (firing fireTime k : Nat) (p : Playback) : Playback :=
  match c.follow with
  | .none => p
  | .afterGo => { p with follow := some (fireTime + c.wait) }
  | .afterEnd =>
    if 0 < k then { p with endWatch := some ⟨firing, k, c.wait⟩ }
    else { p with follow := some (fireTime + c.wait) }

/-- What a firing came to, for the reply of GO (R103). -/
structure Fired where
  cue : Nat
  firing : Nat
  dropped : Nat
  standby : Option Nat
deriving DecidableEq, Repr

/-- Step 9 of a firing: its notices (R113). -/
def fireNotices (cause : FireCause) (fireTime : Nat) (f : Fired) (s : State) : State :=
  let s1 := queueNotice (.cueFired f.cue f.firing cause fireTime f.dropped f.standby) s
  if cause = .follow ∧ 0 < f.dropped then queueNotice (.followDropped f.cue f.firing f.dropped) s1
  else s1

/-- A record is pushed on the recall stack; the oldest of 16 is discarded (R110). -/
def pushRecall (r : RecallRecord) (p : Playback) : Playback :=
  { p with recalls := (r :: p.recalls).take Config.recallPlaces }

/-- Steps 1 to 9 of a firing of cue c (R103). `due` is the follow's due time for a follow expiry and none
for a GO. -/
def fireCue (c : Cue) (due : Option Nat) (s : State) : State × Fired :=
  let cause := if due.isSome then FireCause.follow else FireCause.go
  let s1 := startForGo s
  let fireTime := due.getD s1.clock.showTime
  let s2 := if due.isSome then s1 else updPlay (fun p => { p with follow := none, endWatch := none }) s1
  let firing := (s2.play.firing + 1) % 65536
  let s3 := updPlay (fun p => { p with firing := firing }) s2
  let s4 := updPlay (pushRecall (recallRecord s3 firing c)) s3
  let made := fireActions (.cue firing c.number) fireTime c.actions s4
  let s6 := updPlay (advanceStandby c) made.1
  let f : Fired := ⟨c.number, firing, made.2, s6.play.standby⟩
  let s7 := updPlay (armFollow c firing fireTime (outstanding firing s6)) s6
  (fireNotices cause fireTime f s7, f)

/-- The standby cue, none when standby is END (R100). -/
def standbyCue (s : State) : Option Cue :=
  match s.play.standby with
  | some n => findCue n s.play.store
  | none => none

/-- The follow slot expires: it empties and fires the standby cue; with standby END nothing fires
(R102, R107). -/
def expireFollow (s : State) : State :=
  match s.play.follow with
  | none => s
  | some due =>
    let s1 := updPlay (fun p => { p with follow := none }) s
    match standbyCue s1 with
    | some c => (fireCue c (some due) s1).1
    | none => s1

/-- Follows armed with a due time at or before the current show time expire, one after another (R107). -/
def settleFollows : Nat → State → State
  | 0, s => s
  | n + 1, s =>
    match s.play.follow with
    | some due => if due ≤ s.clock.showTime then settleFollows n (expireFollow s) else s
    | none => s

/-- The expiries at arming that a step left behind (R107; log entry 7). -/
def settle (s : State) : State := settleFollows Config.chainFuel s

/-! ## BACK -/

/-- The move record of a BACK move before it is placed (R111). -/
def backMove (kind : MoveKind) (pending : Pending) (firing : Nat) (s : State) : Move :=
  { kind := kind, origin := .back firing, spec := none, pending := pending
    mode := .abs, value := 0, law := .db, curve := .linear, timeBase := .showTime
    delay := 0, duration := s.play.backTime, cycle := false, count := 0, remaining := 1, due := 0
    phase := .delayed, claims := 0, seq := 0 }

/-- A BACK move is created; a creation without a slot is counted (R111). -/
def createBack (kind : MoveKind) (pending : Pending) (firing : Nat) (acc : State × Nat) : State × Nat :=
  match createRecorded (backMove kind pending firing acc.1) acc.1 with
  | (s1, .noSlot) => (s1, acc.2 + 1)
  | (s1, _) => (s1, acc.2)

/-- Step 4 of BACK for the channels: the own mutes take the recorded values; SAFE channels are passed
over (R111). -/
def restoreMutes (es : List (Chan × Int × Bool)) (s : State) : State :=
  es.foldl (fun s e => if s.chans[e.1].safe then s else setOwnMute e.1 e.2.2 s) s

/-- Step 4 of BACK for the groups (R111). -/
def restoreGroupMutes (es : List (Grp × Int × Bool)) (s : State) : State :=
  es.foldl (fun s e => setGroupMute e.1 e.2.2 s) s

/-- The lanes of the BACK move: the channel entries that are not SAFE (R111, step 5). -/
def backLanes (s : State) (r : RecallRecord) : List (Chan × Int) :=
  (r.chans.filter fun e => !s.chans[e.1].safe).map fun e => (e.1, e.2.1)

/-- Step 5 of BACK (R111). -/
def backChannels (r : RecallRecord) (acc : State × Nat) : State × Nat :=
  if backLanes acc.1 r = [] then acc
  else createBack .level (.lanes (backLanes acc.1 r)) r.firing acc

/-- Step 6 of BACK (R111). -/
def backGroups (r : RecallRecord) (acc : State × Nat) : State × Nat :=
  r.groups.foldl (fun acc e => createBack .group (.groupTo e.1 e.2.1) r.firing acc) acc

/-- Step 7 of BACK: standby becomes the record's cue, or the next in order (R111). -/
def backStandby (r : RecallRecord) (p : Playback) : Playback :=
  { p with
    standby := if (findCue r.cue p.store).isSome then some r.cue else nextNumber r.cue p.store }

/-- Steps 1 to 7 of BACK, with the popped record and the rest of the stack (R111). -/
def backSteps (r : RecallRecord) (rest : List RecallRecord) (s : State) : State × Nat :=
  let s1 := updPlay (fun p => { p with recalls := rest, follow := none, endWatch := none }) s
  let s2 := cancelWhere (fun mv => mv.ofFiring r.firing) .backed s1
  let s3 := restoreGroupMutes r.groups (restoreMutes r.chans s2)
  let made := backGroups r (backChannels r (s3, 0))
  (updPlay (backStandby r) made.1, made.2)

/-- BACK undoes the firing of record r, carried out whole at one instant (R111): the moves that its cancellations and
its creations retire queue their notices in ascending slot order (R71; log entry 42). -/
def undoFiring (r : RecallRecord) (rest : List RecallRecord) (s : State) : State × Nat :=
  inOneInstant (backSteps r rest) s

end Sys2Proof.Machine
end

