-- ==== Sys2Proof/Machine/Advance.lean ====
section
/-! DEFINITION. The order of due items, and an advance of show time with the due items taken inside it
(spec 04, R81, R85; spec 03, R61, R71). -/

namespace Sys2Proof.Machine

/-- A due item of show time (R81). -/
inductive DueItem where
  | start (k : Slot)
  | finish (k : Slot)
  | follow
deriving DecidableEq, Repr

/-- The due item of a slot: a SHOW-base move that waits or runs (R81). -/
def slotItem (s : State) (k : Slot) : List (Nat × DueItem) :=
  match s.moves[k] with
  | some mv =>
    match mv.timeBase, mv.phase with
    | .showTime, .delayed => [(mv.due, .start k)]
    | .showTime, .running _ => [(mv.due, .finish k)]
    | .wallTime, _ => []
  | none => []

/-- The due item of the follow slot (R81, R107). -/
def followItem (s : State) : List (Nat × DueItem) :=
  match s.play.follow with
  | some due => [(due, .follow)]
  | none => []

/-- Every due item of show time with its due time. -/
def dueItems (s : State) : List (Nat × DueItem) :=
  followItem s ++ (allFin 48).flatMap (slotItem s)

/-- The due items with a due time after t0 and at or before t1 (R81). -/
def itemsWithin (t0 t1 : Nat) (s : State) : List (Nat × DueItem) :=
  (dueItems s).filter fun i => decide (t0 < i.1) && decide (i.1 ≤ t1)

/-- The earliest due time of a list of items. -/
def earliest : List (Nat × DueItem) → Option Nat
  | [] => none
  | i :: is =>
    match earliest is with
    | some d => some (min i.1 d)
    | none => some i.1

/-- Whether the move of slot j was created before the move of slot k by the same firing (R61). -/
def earlierOfFiring (s : State) (j k : Slot) : Bool :=
  match s.moves[j], s.moves[k] with
  | some a, some b =>
    match a.origin, b.origin with
    | .cue f _, .cue g _ => f == g && decide (a.seq < b.seq)
    | _, _ => false
  | _, _ => false

/-- Two starts of one firing are taken in the order of their creation (R61). -/
def startsBefore (s : State) : DueItem → DueItem → Bool
  | .start j, .start k => earlierOfFiring s j k
  | _, _ => false

/-- The lowest slot whose move an item retires when it is taken: its own at the end of a last traversal (R64)
and at the act of a delayed instant kind (R58); at the start of a LEVEL or GROUP move its own where the start
is EMPTY or over at once (R60, R66), and any whose last claim the start steals (R48). -/
def firstRetired (s : State) : DueItem → Option Slot
  | .start k =>
    match s.moves[k] with
    | none => none
    | some mv =>
      if mv.phase = .delayed ∧ mv.kind.isInstant = true then some k
      else
        let t := startDelayed k s
        (allFin 48).find? fun j => s.moves[j].isSome && t.moves[j].isNone
  | .finish k =>
    match s.moves[k] with
    | none => none
    | some mv => if mv.phase ≠ .delayed ∧ (mv.cycle = false ∨ mv.remaining = 1) then some k else none
  | .follow => none

/-- Two items that retire moves are taken in ascending order of the lowest slot each retires (R71), unless R61
has them the other way round (log entry 12). -/
def retiresBefore (s : State) (x y : DueItem) : Bool :=
  match firstRetired s x, firstRetired s y with
  | some j, some k => decide (j < k) && !startsBefore s y x
  | _, _ => false

/-- Whether an item must be taken before another of the same due time (R61, R71). -/
def comesBefore (s : State) (x y : DueItem) : Bool := startsBefore s x y || retiresBefore s x y

/-- The items of a list that no item of the list must precede. -/
def unpreceded (before : DueItem → DueItem → Bool) (items : List DueItem) : List DueItem :=
  items.filter fun x => items.all fun y => !before y x

/-- The items that may be taken next: those of the earliest due time that no other must precede. Where
R61 and R71 leave none, R61 alone decides (log entry 12). -/
def candidates (s : State) (d : Nat) (items : List (Nat × DueItem)) : List DueItem :=
  let now := (items.filter fun i => i.1 == d).map (·.2)
  match unpreceded (comesBefore s) now with
  | [] => unpreceded (startsBefore s) now
  | x :: xs => x :: xs

/-- The next item of the candidates; between several the free value decides (R61, R81; log entry 8). -/
def pickItem (s : State) : List DueItem → Option (DueItem × State)
  | [] => none
  | [x] => some (x, s)
  | x :: xs =>
    some (((x :: xs)[Config.tieBreak s.freeCount % (x :: xs).length]?).getD x, tickFree s)

/-- A due item is taken (R55, R64, R65, R107). -/
def takeItem (i : DueItem) (s : State) : State :=
  match i with
  | .start k => startDelayed k s
  | .finish k => endTraversal k s
  | .follow => expireFollow s

/-- The expiries at arming that an item left behind (R107). A follow slot that the item did not arm is an
item of its own, taken before or after the other items of its due time (R81). -/
def settleItem (i : DueItem) (before after : State) : State :=
  match i with
  | .follow => settle after
  | .start _ => if after.play.follow = before.play.follow then after else settle after
  | .finish _ => if after.play.follow = before.play.follow then after else settle after

/-- Show time comes to the due time of the next item: where it is a later one, the instant before it is over and its
MOVE RETIRED notices are queued (R71, R81; log entry 42). -/
def reachInstant (d : Nat) (s : State) : State :=
  { s with
    clock := { s.clock with showTime := max s.clock.showTime d }
    link := if s.clock.showTime < d then s.link.closeInstant true else s.link }

/-- The due items after t0 and at or before t1 are taken at their own due times, in increasing order, with
the expiries at arming that each brings (R81, R107). -/
def takeItems : Nat → Nat → Nat → State → State
  | 0, _, _, s => s
  | n + 1, t0, t1, s =>
    match earliest (itemsWithin t0 t1 s) with
    | none => s
    | some d =>
      match pickItem s (candidates s d (itemsWithin t0 t1 s)) with
      | none => s
      | some (i, s1) =>
        let s2 := reachInstant d s1
        takeItems n t0 t1 (settleItem i s2 (takeItem i s2))

/-- An advance of show time by n ms, which ends at the last show time (R81, R85). The moves that the items of one due
time retire queue their notices in ascending slot order (R71; log entry 42). -/
def advance (n : Nat) (s : State) : State :=
  let t0 := s.clock.showTime
  let t1 := min (t0 + n) Config.showMax
  let s1 := (inOneInstant (fun s => (takeItems Config.chainFuel t0 t1 s, ())) s).1
  saturate (updClock (fun k => { k with showTime := max k.showTime t1 }) s1)

/-! ## Due items that are commands of their own (R55, R64, R79) -/

/-- How many ms ago a move reached its due time, in its time base. -/
def lateness (mv : Move) (s : State) : Nat :=
  match mv.timeBase with
  | .showTime => s.clock.showTime - mv.due
  | .wallTime =>
    match mv.phase with
    | .delayed => wallSince s.clock.wallTime (wallSince mv.due mv.delay) - mv.delay
    | .running start => wallSince s.clock.wallTime start - mv.duration

/-- The due item of the move of a slot. -/
def itemOf (k : Slot) (mv : Move) : DueItem :=
  match mv.phase with
  | .delayed => .start k
  | .running _ => .finish k

/-- The moves of a time base that have reached their due time, the latest first in the order of the
numbers beside them. -/
def dueMoves (base : TimeBase) (s : State) : List (Nat × DueItem) :=
  (allFin 48).flatMap fun k =>
    match s.moves[k] with
    | some mv =>
      if mv.timeBase = base ∧ isDue mv s = true then [(Config.wallMod - lateness mv s, itemOf k mv)] else []
    | none => []

/-- Whether a due item may be taken now: no move of its time base has been due longer, and none due at the
same instant must precede it (R61, R71, R79). -/
def mayTake (base : TimeBase) (i : DueItem) (s : State) : Bool :=
  match earliest (dueMoves base s) with
  | some d => (candidates s d (dueMoves base s)).contains i
  | none => false

end Sys2Proof.Machine
end

