-- ==== Sys2Proof/Machine/ChannelRequests.lean ====
section
/-! DEFINITION. The requests on channels, pairs, groups, sets and taper tables (spec 01, R16, R17; spec 02,
sections 2.6 and 2.7). A request takes the payload and answers the state after it and the reply's
payload. -/

namespace Sys2Proof.Machine

/-- A refused request: nothing changes and the reply carries the status alone (R33, R185). -/
def refuse (st : Status) (s : State) : State × List Byte := (s, [st.byte])

/-- An accepted request's reply: OK and the fields of its rule (R185). -/
def accept (fields : List Byte) (s : State) : State × List Byte := (s, Status.ok.byte :: fields)

/-! ## CHANNEL CONFIG (R34) -/

/-- The six attributes of a channel (spec 02, section 2.3). -/
structure Attributes where
  taper : TaperSel
  mode : TakeoverMode
  policy : ReleasePolicy
  safe : Bool
  announce : Bool
  ramp : Nat
deriving DecidableEq, Repr

/-- A taper byte (R34). -/
def taperOf (b : Byte) : Option TaperSel := if b = 0 then some .a else if b = 1 then some .b else none

/-- A takeover mode byte (R34). -/
def modeOf (b : Byte) : Option TakeoverMode :=
  if b = 0 then some .touch else if b = 1 then some .latch else if b = 2 then some .pickup else none

/-- A release policy byte (R34). -/
def policyOf (b : Byte) : Option ReleasePolicy :=
  if b = 0 then some .hold else if b = 1 then some .glide else none

/-- The six attributes written into a channel record. -/
def Channel.withAttributes (a : Attributes) (ch : Channel) : Channel :=
  { ch with
    taper := a.taper, mode := a.mode, policy := a.policy, safe := a.safe, announce := a.announce
    ramp := a.ramp }

/-- The channels of a list whose SAFE turned on from `before` to `after` and that a move of CUE or BACK
origin claims (R29). -/
def newlySafe (before after : State) (cs : List Chan) : List Chan :=
  cs.filter fun c => !before.chans[c].safe && after.chans[c].safe && claimedByShow after c

/-- The attributes of a channel and its linked partner are written, with the ramp's response (R10, R30)
and the claim removal of SAFE turning on (R29). -/
def setAttributes (c : Chan) (a : Attributes) (s : State) : State :=
  let s1 := resnap s (updChans (unitChans s c) (Channel.withAttributes a) s)
  removeClaims (newlySafe s s1 (unitChans s c)) s1

/-- The attributes a CHANNEL CONFIG payload carries, R clamped to 250 (R34). -/
def parseAttributes (tp md po sf an r0 r1 : Byte) : Option Attributes :=
  match taperOf tp, modeOf md, policyOf po, asBit sf, asBit an with
  | some tp, some md, some po, some sf, some an => some ⟨tp, md, po, sf, an, min (le16 r0 r1) 250⟩
  | _, _, _, _, _ => none

/-- CHANNEL CONFIG (R34). -/
def reqChannelConfig (payload : List Byte) (s : State) : State × List Byte :=
  match payload with
  | [c, tp, md, po, sf, an, r0, r1] =>
    match asChan c, parseAttributes tp md po sf an r0 r1 with
    | some c, some a =>
      accept (flag (decide (250 < le16 r0 r1)) ++ u8 c.val) (settle (setAttributes c a s))
    | _, _ => refuse .badValue s
  | _ => refuse .badLength s

/-! ## CHANNEL QUERY (R35) -/

/-- The strip bound to a channel (R126). -/
def stripOf (s : State) (c : Chan) : Option StripId :=
  (allFin 32).find? fun i => s.surf.strips[i].binding == some c

/-- The fields of a channel's report, in the order of R35. -/
def channelReport (s : State) (c : Chan) : List Byte :=
  let ch := s.chans[c]
  u8 c.val ++ flag (isLinked s c) ++ s16 ch.base ++ s16 ch.trim ++ s16 ch.cueLevel
    ++ claimField ch.claim
    ++ s16 (liveLevel s c) ++ s16 (composedLevel s c) ++ s16 (effectiveLevel s c)
    ++ flag (ceilingFlag s c)
    ++ flag ch.ownMute ++ flag (composedMute s c) ++ s16 ch.atten ++ u16 (rampInForce s c)
    ++ u16 ch.ramp ++ u8 ch.groups.toNat ++ u8 ch.taper.code ++ u8 ch.mode.code
    ++ u8 ch.policy.code ++ flag ch.safe ++ flag ch.announce
    ++ u8 ch.ownership.code ++ sideField ch.side ++ stripField (stripOf s c)

/-- CHANNEL QUERY (R35). -/
def reqChannelQuery (payload : List Byte) (s : State) : State × List Byte :=
  match payload with
  | [c] =>
    match asChan c with
    | some c => accept (channelReport s c) s
    | none => refuse .badValue s
  | _ => refuse .badLength s

/-! ## LEVEL SET, TRIM SET, MUTE SET (R36, R38, R39) -/

/-- Whether the operator holds a channel (R36, R57). -/
def isHeld (s : State) (c : Chan) : Bool :=
  s.chans[c].ownership == .touched || s.chans[c].ownership == .latched

/-- Steps 2 to 4 of LEVEL SET: claims removed, B and cue level take the level (R36). -/
def setLevel (c : Chan) (level : Int) (s : State) : State :=
  updChans (unitChans s c) (fun ch => { ch with base := level, cueLevel := level })
    (removeClaims (unitChans s c) s)

/-- LEVEL SET (R36). -/
def reqLevelSet (payload : List Byte) (s : State) : State × List Byte :=
  match payload with
  | [c, l0, l1] =>
    match asChan c with
    | some c =>
      if (unitChans s c).any (isHeld s) then refuse .collision s
      else
        let level := clampLevel (les16 l0 l1)
        accept (flag (decide (level ≠ les16 l0 l1)) ++ u8 c.val ++ s16 level)
          (settle (setLevel c level s))
    | none => refuse .badValue s
  | _ => refuse .badLength s

/-- TRIM SET (R38). -/
def reqTrimSet (payload : List Byte) (s : State) : State × List Byte :=
  match payload with
  | [c, t0, t1] =>
    match asChan c with
    | some c =>
      let trim := clampInt (-Config.trimMax) Config.trimMax (les16 t0 t1)
      accept (flag (decide (trim ≠ les16 t0 t1)) ++ u8 c.val ++ s16 trim)
        (updChan c (fun ch => { ch with trim := trim }) s)
    | none => refuse .badValue s
  | _ => refuse .badLength s

/-- MUTE SET (R39). -/
def reqMuteSet (payload : List Byte) (s : State) : State × List Byte :=
  match payload with
  | [c, m] =>
    match asChan c, asBit m with
    | some c, some on => accept (u8 c.val) (setOwnMute c on s)
    | _, _ => refuse .badValue s
  | _ => refuse .badLength s

/-! ## PAIR LINK (R40) -/

/-- The fields linking copies from the even channel onto the odd one (R40). -/
def Channel.copyShared (src dst : Channel) : Channel :=
  { dst with
    taper := src.taper, mode := src.mode, policy := src.policy, safe := src.safe
    announce := src.announce, groups := src.groups, ramp := src.ramp, ownMute := src.ownMute }

/-- A pair's link written. -/
def setLink (k : PairId) (on : Bool) (s : State) : State :=
  { s with pairLinked := s.pairLinked.set k on }

/-- Linking a pair: the copy with its effects, then the link (R40). The B that a copied SAFE writes is V read
with the copied taper (DEDUCED, log entry 21). -/
def linkPair (k : PairId) (s : State) : State :=
  if s.pairLinked[k] then s
  else
    let s1 := resnap s (updChan (oddOf k) (Channel.copyShared s.chans[evenOf k]) s)
    setLink k true (removeClaims (newlySafe s s1 [oddOf k]) s1)

/-- Whether a channel is in AUTO. -/
def isAuto (s : State) (c : Chan) : Bool := s.chans[c].ownership == .auto

/-- PAIR LINK: operation 1 links, operation 0 unlinks (R40). -/
def reqPairLink (payload : List Byte) (s : State) : State × List Byte :=
  match payload with
  | [k, op] =>
    match asPair k, asBit op with
    | some k, some link =>
      if !(isAuto s (evenOf k) && isAuto s (oddOf k)) then refuse .collision s
      else
        let s1 := if link then linkPair k s else setLink k false s
        accept (u8 k.val ++ flag s1.pairLinked[k]) (settle s1)
    | _, _ => refuse .badValue s
  | _ => refuse .badLength s

/-! ## GROUP SET and GROUP MEMBERS (R41, R42) -/

/-- The members of a group as a count and channels (R41, R42). -/
def memberReport (s : State) (g : Grp) : List Byte := chanListField (membersOf s g)

/-- The group's state as GROUP SET reports it (R41). -/
def groupReport (s : State) (g : Grp) : List Byte :=
  u8 g.val ++ s16 s.groups[g].offset ++ s16 (liveOffset s g) ++ flag s.groups[g].mute
    ++ claimField s.groups[g].claim ++ memberReport s g

/-- The stored offset takes a value after its claim is removed (R41). -/
def setOffset (g : Grp) (level : Int) (s : State) : State :=
  updGroup g (fun gr => { gr with offset := level }) (removeGroupClaim g s)

/-- GROUP SET (R41): selection 0 neither, 1 offset, 2 mute, 3 both. -/
def reqGroupSet (payload : List Byte) (s : State) : State × List Byte :=
  match payload with
  | [g, sel, o0, o1, m] =>
    match asGrp g, asBit m with
    | some g, some on =>
      if 3 < sel.toNat then refuse .badValue s
      else
        let level := clampLevel (les16 o0 o1)
        let s1 := if sel.getLsbD 0 then setOffset g level s else s
        let s2 := if sel.getLsbD 1 then setGroupMute g on s1 else s1
        accept (flag (sel.getLsbD 0 && decide (level ≠ les16 o0 o1)) ++ groupReport s2 g) (settle s2)
    | _, _ => refuse .badValue s
  | _ => refuse .badLength s

/-- A group set with a group put in or taken out (R42). -/
def regroup (g : Grp) (add : Bool) (set : BitVec 8) : BitVec 8 :=
  if add then set ||| BitVec.twoPow 8 g.val else set &&& ~~~(BitVec.twoPow 8 g.val)

/-- The named channels and their linked partners enter or leave a group, at one instant (R28, R42). -/
def changeMembers (g : Grp) (add : Bool) (cs : List Chan) (s : State) : State :=
  resnap s (updChans (cs.flatMap (unitChans s))
    (fun ch => { ch with groups := regroup g add ch.groups }) s)

/-- GROUP MEMBERS (R42): operation 0 adds, 1 removes. -/
def reqGroupMembers (payload : List Byte) (s : State) : State × List Byte :=
  match payload with
  | g :: op :: n :: bs =>
    if bs.length ≠ n.toNat then refuse .badLength s
    else
      match asGrp g, asBit op, asChans bs with
      | some g, some remove, some cs =>
        if n.toNat = 0 ∨ 64 < n.toNat then refuse .badValue s
        else
          let s1 := changeMembers g (!remove) cs s
          accept (u8 g.val ++ memberReport s1 g) s1
      | _, _, _ => refuse .badValue s
  | _ => refuse .badLength s

/-! ## SET WRITE and SET READ (R43, R44) -/

/-- The distinct channels of a list, in ascending order (R32, R43). -/
def distinctChans (cs : List Chan) : List Chan := (allFin 64).filter fun c => cs.contains c

/-- SET WRITE (R43). -/
def reqSetWrite (payload : List Byte) (s : State) : State × List Byte :=
  match payload with
  | e :: n :: bs =>
    if bs.length ≠ n.toNat then refuse .badLength s
    else
      match asSet e, asChans bs with
      | some e, some cs =>
        if 64 < n.toNat then refuse .badValue s
        else
          accept (u8 e.val ++ u8 (distinctChans cs).length)
            { s with sets := s.sets.set e (distinctChans cs) }
      | _, _ => refuse .badValue s
  | _ => refuse .badLength s

/-- SET READ (R44). -/
def reqSetRead (payload : List Byte) (s : State) : State × List Byte :=
  match payload with
  | [e] =>
    match asSet e with
    | some e => accept (u8 e.val ++ chanListField s.sets[e]) s
    | none => refuse .badValue s
  | _ => refuse .badLength s

/-! ## TAPER WRITE and TAPER READ (R16, R17) -/

/-- Signed 16-bit levels of a payload, two bytes each. -/
def levelsOf : List Byte → List Int
  | b0 :: b1 :: bs => les16 b0 b1 :: levelsOf bs
  | _ => []

/-- Whether every entry lies within the scale and none lies below the entry before it (R12, R16). -/
def taperAllowed : List Int → Bool
  | [] => true
  | [x] => decide (Config.off ≤ x) && decide (x ≤ Config.top)
  | x :: y :: zs => decide (Config.off ≤ x) && decide (x ≤ Config.top) && decide (x ≤ y) && taperAllowed (y :: zs)

/-- A list of 33 levels as a taper table. -/
def tableFrom (ls : List Int) : Vector Int 33 := Vector.ofFn fun k => (ls[k.val]?).getD Config.top

/-- A taper table replaced whole (R16). -/
def setTable (t : TaperSel) (table : Vector Int 33) (s : State) : State :=
  match t with
  | .a => { s with taperA := table }
  | .b => { s with taperB := table }

/-- TAPER WRITE (R16). -/
def reqTaperWrite (payload : List Byte) (s : State) : State × List Byte :=
  match payload with
  | sel :: bs =>
    if bs.length ≠ 66 then refuse .badLength s
    else
      match taperOf sel with
      | some t =>
        if taperAllowed (levelsOf bs) then accept [] (setTable t (tableFrom (levelsOf bs)) s)
        else refuse .badValue s
      | none => refuse .badValue s
  | [] => refuse .badLength s

/-- TAPER READ (R17). -/
def reqTaperRead (payload : List Byte) (s : State) : State × List Byte :=
  match payload with
  | [sel] =>
    match taperOf sel with
    | some t => accept (u8 t.code ++ (tableOf s t).toList.flatMap s16) s
    | none => refuse .badValue s
  | _ => refuse .badLength s

end Sys2Proof.Machine
end

