-- ==== Sys2Proof/Machine/LaneOps.lean ====
section
/-! DEFINITION. The Output Lanes: frame starts, the snapshot and the frames, frame completions, edges of LANE
READY and the lane requests (spec 09). -/

namespace Sys2Proof.Machine

/-! ## Lane records -/

/-- The lane record of a lane. -/
def laneOf (id : LaneId) (l : Lanes) : Lane :=
  match id with
  | .laneA => l.laneA
  | .laneB => l.laneB

/-- A lane record changed. -/
def updLane (id : LaneId) (f : Lane → Lane) (s : State) : State :=
  updLanes (fun l =>
    match id with
    | .laneA => { l with laneA := f l.laneA }
    | .laneB => { l with laneB := f l.laneB }) s

/-- A lane's enable in a set of lane settings (R165). -/
def LaneSettings.enableOf (id : LaneId) (a : LaneSettings) : Bool :=
  match id with
  | .laneA => a.enableA
  | .laneB => a.enableB

/-- A lane record is changed, with a LANE notice when its state changes (R173). -/
def changeLane (id : LaneId) (cause : LaneCause) (f : Lane → Lane) (s : State) : State :=
  let before := laneOf id s.lanes
  let after := f before
  let s1 := updLane id (fun _ => after) s
  if after.state = before.state then s1
  else queueNotice (.lane id before.state after.state cause after.counter after.losses) s1

/-- A lane goes to SENDING with its frame counter at 0 (R167, R168). -/
def Lane.startSending (l : Lane) : Lane := { l with state := .sending, counter := 0 }

/-! ## The frame (R169, R170) -/

/-- The first channel a lane carries (R170). -/
def firstChannel (id : LaneId) (a : LaneSettings) : Nat :=
  match id with
  | .laneA => 0
  | .laneB => if a.splitMode then a.partition else 0

/-- The number of channels a lane carries (R170). -/
def channelCount (id : LaneId) (a : LaneSettings) : Nat :=
  if a.splitMode then
    match id with
    | .laneA => a.partition
    | .laneB => 64 - a.partition
  else 64

/-- The channels a lane carries, in ascending order (R169, R170). -/
def carriedChans (id : LaneId) (a : LaneSettings) : List Chan :=
  (allFin 64).filter fun c =>
    decide (firstChannel id a ≤ c.val) && decide (c.val < firstChannel id a + channelCount id a)

/-- A channel's entry in a lane frame: E and the flag byte (R169). -/
def frameEntry (s : State) (c : Chan) : List Byte := s16 (effectiveLevel s c) ++ u8 (laneFlags s c)

/-- The bytes of a lane frame that its checksum covers (R169; spec 11, lane frame). -/
def frameCovered (s : State) (id : LaneId) : List Byte :=
  u8 (laneCode id) ++ u16 (laneOf id s.lanes).counter ++ u32 s.clock.showTime
    ++ u8 s.clock.state.code ++ flag s.stop.active
    ++ u8 (channelCount id s.lanes.settings) ++ u8 (firstChannel id s.lanes.settings)
    ++ (carriedChans id s.lanes.settings).flatMap (frameEntry s)

/-- The frame of a lane, built from the state at one instant (R168, R169). -/
def laneFrame (s : State) (id : LaneId) : List Byte :=
  [0x5A] ++ frameCovered s id ++ u16 (checksum (frameCovered s id))

/-- A SENDING lane begins a frame: the counter rises and the frame is in flight (R168, step 4). -/
def beginFrame (id : LaneId) (s : State) : State :=
  if (laneOf id s.lanes).state = .sending then
    updLane id (fun l =>
      { l with inFlight := some (laneFrame s id), counter := (l.counter + 1) % 65536 }) s
  else s

/-! ## Frame start (R166, R168) -/

/-- A lane follows its enable when settings are applied (R168, step 1). -/
def followEnable (on : Bool) (l : Lane) : Lane :=
  if !on then { l with state := .disabled }
  else if l.state = .disabled then
    if l.ready then l.startSending else { l with state := .waiting }
  else l

/-- Pending settings become the settings in force (R168, step 1). -/
def applyPending (s : State) : State :=
  match s.lanes.pending with
  | none => s
  | some a =>
    let s1 := updLanes (fun l => { l with settings := a, pending := none }) s
    changeLane .laneB .config (followEnable a.enableB)
      (changeLane .laneA .config (followEnable a.enableA) s1)

/-- The next frame start is scheduled (R166; R168, step 2). -/
def scheduleNext (s : State) : State :=
  updLanes (fun l => { l with nextStart := (l.nextStart + l.settings.period) % Config.wallMod }) s

/-- A frame start (R168). The frames of both lanes are read from one state: building lane A's frame
changes nothing that lane B's frame reads. -/
def startFrames (s : State) : State :=
  beginFrame .laneB (beginFrame .laneA (scheduleNext (applyPending s)))

/-- Whether the wall time has reached the next frame start and no frame is in flight (R166). -/
def frameStartDue (s : State) : Bool :=
  decide (wallSince s.clock.wallTime s.lanes.nextStart < 2147483648)
    && s.lanes.laneA.inFlight.isNone && s.lanes.laneB.inFlight.isNone

/-! ## Frame completion and LANE READY (R167, R168) -/

/-- What the end of a frame does to its lane (R167, R168). -/
def Lane.complete (l : Lane) : Lane :=
  let l1 := { l with inFlight := none, sent := (l.sent + 1) % 4294967296, fallPending := false }
  if l.fallPending && l.ready && l.state == .waiting then l1.startSending else l1

/-- A frame completion (R168). -/
def completeFrame (id : LaneId) (s : State) : State := changeLane id .readyRise Lane.complete s

/-- A rise of LANE READY at its lane (R167). -/
def Lane.rise (l : Lane) : Lane :=
  let l1 := { l with ready := true }
  if l.state = .waiting ∧ l.inFlight.isNone then l1.startSending else l1

/-- A fall of LANE READY at its lane (R167). -/
def Lane.fall (l : Lane) : Lane :=
  let l1 := { l with ready := false }
  if l.state = .sending then
    { l1 with
      state := .waiting
      losses := bump l.losses
      fallPending := if l.inFlight.isSome then true else l.fallPending }
  else l1

/-- An edge of LANE READY (R167). -/
def readyEdge (id : LaneId) (rising : Bool) (s : State) : State :=
  if rising then changeLane id .readyRise Lane.rise s else changeLane id .readyFall Lane.fall s

/-! ## LANE CONFIG and LANE QUERY (R171, R172) -/

/-- The lane settings a LANE CONFIG payload carries, when R171 allows them. -/
def parseLaneSettings (md p per ea eb : Byte) : Option LaneSettings :=
  match asBit md, asBit ea, asBit eb with
  | some split, some a, some b =>
    if (per.toNat = 1 ∨ per.toNat = 2 ∨ per.toNat = 4) ∧ 8 ≤ p.toNat ∧ p.toNat ≤ 56 ∧ p.toNat % 8 = 0 then
      some ⟨split, p.toNat, per.toNat, a, b⟩
    else none
  | _, _, _ => none

/-- Lane settings as a reply carries them (R171, R172). -/
def laneSettingsField (a : LaneSettings) : List Byte :=
  flag a.splitMode ++ u8 a.partition ++ u8 a.period ++ flag a.enableA ++ flag a.enableB

/-- LANE CONFIG (R171). -/
def reqLaneConfig (payload : List Byte) (s : State) : State × List Byte :=
  match payload with
  | [md, p, per, ea, eb] =>
    match parseLaneSettings md p per ea eb with
    | some a => accept (laneSettingsField a) (updLanes (fun l => { l with pending := some a }) s)
    | none => refuse .badValue s
  | _ => refuse .badLength s

/-- The pending settings in LANE QUERY (R172, R194). -/
def pendingSettingsField : Option LaneSettings → List Byte
  | some a => flag true ++ laneSettingsField a
  | none => flag false ++ [0, 0, 0, 0, 0]

/-- A lane's report (R172). -/
def laneReport (l : Lane) : List Byte :=
  u8 l.state.code ++ flag l.ready ++ flag l.inFlight.isSome ++ flag l.fallPending
    ++ u16 l.counter ++ u32 l.sent ++ u16 l.losses

/-- LANE QUERY (R172). -/
def reqLaneQuery (payload : List Byte) (s : State) : State × List Byte :=
  match payload with
  | [] =>
    accept (laneSettingsField s.lanes.settings ++ pendingSettingsField s.lanes.pending
      ++ u32 s.lanes.nextStart ++ laneReport s.lanes.laneA ++ laneReport s.lanes.laneB) s
  | _ => refuse .badLength s

end Sys2Proof.Machine
end

