-- ==== Sys2Proof/Machine/MoveRequests.lean ====
section
/-! DEFINITION. The requests on the Move Table (spec 03, section 3.8). -/

namespace Sys2Proof.Machine

/-- The reply to an accepted MOVE START (R75). -/
def moveStartReply (clamped : Bool) (slot : Nat) (tag : Byte) : List Byte :=
  flag clamped ++ u8 slot ++ [tag]

/-- The answer of MOVE START to the outcome of its creation (R54, R74, R75). -/
def answerMoveStart (clamped : Bool) (tag : Byte) (s : State) (made : State × Creation) :
    State × List Byte :=
  match made with
  | (_, .empty) => refuse .empty s
  | (_, .noSlot) => refuse .full s
  | (s1, .acted) => accept (moveStartReply clamped 255 tag) (settle s1)
  | (s1, .placed k) => accept (moveStartReply clamped k.val tag) (settle s1)
  | (s1, .retiredAtCreation k) => accept (moveStartReply clamped k.val tag) (settle s1)

/-- MOVE START (R74, R75). -/
def reqMoveStart (payload : List Byte) (s : State) : State × List Byte :=
  match payload with
  | [] => refuse .badLength s
  | tag :: record =>
    if record.length ≠ 13 then refuse .badLength s
    else
      match parseAction record with
      | none => refuse .badValue s
      | some a =>
        if s.stop.active then refuse .locked s
        else
          answerMoveStart (decide (clampAction a ≠ a)) tag s
            (createMove (.live tag) (clampAction a) s.clock.showTime s)

/-- Whether a move is of LIVE origin (R70). -/
def Move.isLive (mv : Move) : Bool :=
  match mv.origin with
  | .live _ => true
  | _ => false

/-- MOVE CANCEL (R76): a slot, or 255 for every move of LIVE origin. -/
def reqMoveCancel (payload : List Byte) (s : State) : State × List Byte :=
  match payload with
  | [b] =>
    if b.toNat = 255 then
      accept (u8 (slotsWhere Move.isLive s).length) (settle (cancelWhere Move.isLive .cancelled s))
    else
      match asSlot b with
      | none => refuse .badValue s
      | some k =>
        if s.moves[k].isNone then refuse .notFound s
        else accept (u8 1) (settle (cancelMove k .cancelled s))
  | _ => refuse .badLength s

/-- Whether a move carries recorded targets, and so has no mode and no value (R45). -/
def Move.isRecorded (mv : Move) : Bool :=
  match mv.pending with
  | .lanes _ => true
  | .groupTo _ _ => true
  | _ => false

/-- Mode and value of a move; free values for a move that has none (R45, R77; log entry 10). -/
def modeValueField (mv : Move) (free : Nat) : List Byte :=
  if mv.isRecorded then [Config.recordedMode free] ++ u16 (Config.recordedValue free).toNat
  else u8 mv.mode.code ++ s16 mv.value

/-- The pending set: a count and the channels, or the group (R77). -/
def pendingField : Pending → List Byte
  | .chans cs => chanListField cs
  | .lanes ls => chanListField (ls.map (·.1))
  | .group g => u8 g.val
  | .groupTo g _ => u8 g.val

/-- The lane entries of a slot, in ascending channel order, or the one group entry (R77). -/
def laneEntries (s : State) (k : Slot) : List Byte :=
  ((allFin 64).flatMap fun c =>
    match s.chans[c].claim with
    | some cl => if cl.slot = k then u8 c.val ++ s16 cl.start ++ s16 cl.target ++ s16 (liveLevel s c) else []
    | none => [])
  ++ ((allFin 8).flatMap fun g =>
    match s.groups[g].claim with
    | some cl => if cl.slot = k then u8 g.val ++ s16 cl.start ++ s16 cl.target ++ s16 (liveOffset s g) else []
    | none => [])

/-- The state code of a phase: FREE is 0, DELAYED 1, RUNNING 2 (R45, R194). -/
def MovePhase.code : MovePhase → Nat
  | .delayed => 1
  | .running _ => 2

/-- The start time, present in RUNNING (R77). -/
def startField : MovePhase → List Byte
  | .delayed => flag false ++ u32 0
  | .running t => flag true ++ u32 t

/-- The report of an occupied slot, in the order of R77. -/
def moveReport (s : State) (k : Slot) (mv : Move) : List Byte :=
  u8 k.val ++ u8 mv.phase.code ++ u8 mv.kind.code ++ originField mv.origin ++ specField mv.spec
    ++ modeValueField mv s.freeCount ++ u8 mv.law.code ++ u8 mv.curve.code ++ u8 mv.timeBase.code
    ++ u24 mv.delay ++ u24 mv.duration ++ flag mv.cycle ++ u8 mv.remaining
    ++ dueField mv.due ++ startField mv.phase ++ u8 mv.claims ++ pendingField mv.pending
    ++ laneEntries s k

/-- MOVE QUERY (R77). A report that holds a free value takes a fresh one. -/
def reqMoveQuery (payload : List Byte) (s : State) : State × List Byte :=
  match payload with
  | [b] =>
    match asSlot b with
    | none => refuse .badValue s
    | some k =>
      match s.moves[k] with
      | none => accept (u8 k.val ++ u8 0) s
      | some mv => accept (moveReport s k mv) (if mv.isRecorded then tickFree s else s)
  | _ => refuse .badLength s

end Sys2Proof.Machine
end

