-- ==== Sys2Proof/Machine/ClockRequests.lean ====
section
/-! DEFINITION. The requests on the Show Clock (spec 04, section 4.7). -/

namespace Sys2Proof.Machine

/-- The clock state and show time every accepted CLOCK reply carries (spec 04, section 4.7). -/
def clockFields (s : State) : List Byte := u8 s.clock.state.code ++ u32 s.clock.showTime

/-- A CLOCK reply read from the state after the request. -/
def acceptClock (s : State) : State × List Byte := accept (clockFields s) s

/-- A CLOCK notice with cause REQUEST when the source in force changed (R87). -/
def noticeIfSource (before : Source) (s : State) : State :=
  if s.clock.source = before then s else clockNotice .request s

/-- A W reduced so far that the loss interval has passed expires the timer at once (R84); so does any CLOCK
SOURCE that finds the interval passed, reduced W or not (DEDUCED, log entry 37). -/
def lossAtChange (s : State) : State := if lossDue s.clock then expireLoss s else s

/-- The source becomes INTERNAL; the timer is disarmed and the divider count cleared (R82, R84, R87). -/
def Clock.toInternal (k : Clock) : Clock := { k with source := .internal, lossTimer := none, divCount := 0 }

/-- The source becomes PULSE from INTERNAL or FREEWHEEL; a RUNNING clock arms the timer (R84, R87). -/
def Clock.toPulse (k : Clock) : Clock :=
  if k.source = .pulse then k
  else
    { k with
      source := .pulse
      lossTimer := if k.state = .running then some k.wallTime else none }

/-- CLOCK SOURCE on the clock: W and the edge are written, then the source is set (R87). An expiry that the
new W causes (R84) is taken after the source is set (DEDUCED, log entry 37). -/
def setSource (pulse : Bool) (w : Nat) (rising : Bool) (s : State) : State :=
  let s1 := updClock (fun k =>
    let k1 := { k with weight := w, rising := rising }
    if pulse then k1.toPulse else k1.toInternal) s
  lossAtChange (noticeIfSource s.clock.source s1)

/-- CLOCK SOURCE (R87). -/
def reqClockSource (payload : List Byte) (s : State) : State × List Byte :=
  match payload with
  | [src, w, e] =>
    match asBit src, asBit e with
    | some pulse, some falling =>
      let weight := max 1 (min w.toNat 100)
      let s1 := setSource pulse weight (!falling) s
      accept (flag (decide (weight ≠ w.toNat)) ++ u8 s1.clock.source.code ++ u8 s1.clock.weight
        ++ u8 (edgeCode s1.clock.rising)) s1
    | _, _ => refuse .badValue s
  | _ => refuse .badLength s

/-- CLOCK RATE (R87). -/
def reqClockRate (payload : List Byte) (s : State) : State × List Byte :=
  match payload with
  | [d] =>
    if d.toNat = 1 ∨ d.toNat = 2 ∨ d.toNat = 4 ∨ d.toNat = 8 then
      accept (u8 d.toNat) (updClock (fun k =>
        if k.divisor = d.toNat then k else { k with divisor := d.toNat, divCount := 0 }) s)
    else refuse .badValue s
  | _ => refuse .badLength s

/-- CLOCK RUN (R88). -/
def reqClockRun (payload : List Byte) (s : State) : State × List Byte :=
  match payload with
  | [] =>
    if s.stop.active then refuse .locked s
    else if s.clock.state = .running then acceptClock s
    else acceptClock (runClock .request s)
  | _ => refuse .badLength s

/-- CLOCK HOLD (R88). -/
def reqClockHold (payload : List Byte) (s : State) : State × List Byte :=
  match payload with
  | [] =>
    match s.clock.state with
    | .stopped => refuse .state s
    | .held => acceptClock s
    | .running => acceptClock (holdClock .request s)
    | .stepping => acceptClock (holdClock .request s)
  | _ => refuse .badLength s

/-- The clock enters STEPPING; from HELD with a CLOCK notice (R89). -/
def enterStepping (s : State) : State :=
  if s.clock.state = .stepping then s
  else clockNotice .request (updClock (fun k => { k with state := .stepping }) s)

/-- The work of CLOCK STEP: nothing at the last show time, else one advance (R85, R89). -/
def stepClock (n : Nat) (s : State) : State :=
  if Config.showMax ≤ s.clock.showTime then s else advance n (enterStepping s)

/-- CLOCK STEP (R89). -/
def reqClockStep (payload : List Byte) (s : State) : State × List Byte :=
  match payload with
  | [n0, n1] =>
    if s.stop.active then refuse .locked s
    else if s.clock.state = .stopped ∨ s.clock.state = .running then refuse .state s
    else
      let n := max 1 (min (le16 n0 n1) 10000)
      let s1 := stepClock n s
      accept (flag (decide (n ≠ le16 n0 n1)) ++ u8 s1.clock.state.code
        ++ u16 (s1.clock.showTime - s.clock.showTime) ++ u32 s1.clock.showTime) s1
  | _ => refuse .badLength s

/-- Whether a move is of the SHOW base. -/
def Move.isShow (mv : Move) : Bool := mv.timeBase == .showTime

/-- The conditions of CLOCK LOCATE (R90). -/
def canLocate (s : State) : Bool :=
  (s.clock.state == .stopped || s.clock.state == .held)
    && (slotsWhere Move.isShow s).isEmpty && s.play.follow.isNone && s.play.endWatch.isNone

/-- CLOCK LOCATE (R90). -/
def reqClockLocate (payload : List Byte) (s : State) : State × List Byte :=
  match payload with
  | [t0, t1, t2, t3] =>
    if canLocate s then
      acceptClock (updClock (fun k => { k with showTime := le32 t0 t1 t2 t3, divCount := 0 }) s)
    else refuse .state s
  | _ => refuse .badLength s

/-- The pulse-loss timer in CLOCK QUERY: one byte says both that it is armed and that its last-armed time is present
(R91, R194; DEDUCED, log entry 43). -/
def timerField : Option Nat → List Byte
  | some t => flag true ++ u32 t
  | none => flag false ++ u32 0

/-- CLOCK QUERY (R91). -/
def reqClockQuery (payload : List Byte) (s : State) : State × List Byte :=
  match payload with
  | [] =>
    accept (u8 s.clock.state.code ++ u8 s.clock.source.code ++ u32 s.clock.showTime
      ++ u32 s.clock.wallTime ++ u8 s.clock.divisor ++ u8 s.clock.weight
      ++ u8 (edgeCode s.clock.rising) ++ timerField s.clock.lossTimer) s
  | _ => refuse .badLength s

end Sys2Proof.Machine
end

