-- ==== Sys2Proof/Machine/PlaybackRequests.lean ====
section
/-! DEFINITION. The requests on the cue store and on playback (spec 05). -/

namespace Sys2Proof.Machine

/-! ## CUE WRITE (R94, R95) -/

/-- The follow kind of a header byte (spec 11, cue header). -/
def followOf (b : Byte) : Option FollowKind :=
  if b = 0 then some .none else if b = 1 then some .afterGo else if b = 2 then some .afterEnd else none

/-- The cue a CUE WRITE payload carries, as it arrived; none where the request is refused with BAD_VALUE
(R94, step 2). -/
def parseCue (n0 n1 fk w0 w1 w2 t0 t1 lc ac : Byte) (records : List Byte) : Option Cue :=
  match followOf fk, parseActions ac.toNat records with
  | some follow, some actions =>
    if le16 n0 n1 = 0 then none
    else if 64 < ac.toNat then none
    else if lc ≠ 0 ∧ le16 t0 t1 = 0 then none
    else some
      { number := le16 n0 n1, follow := follow, wait := le24 w0 w1 w2, loopTarget := le16 t0 t1
        loopCount := lc.toNat, loopCounter := lc.toNat, actions := actions }
  | _, _ => none

/-- A cue with its wait and action values brought into range (R94). -/
def clampCue (c : Cue) : Cue :=
  { c with wait := min c.wait Config.timeMax, actions := c.actions.map clampAction }

/-- The actions in the pool after a cue is written (R94, step 3). -/
def poolAfter (c : Cue) (store : List Cue) : Nat := poolUsed (removeCue c.number store) + c.actions.length

/-- Whether the store has no room for a cue (R94, step 3). -/
def storeFull (c : Cue) (store : List Cue) : Bool :=
  ((findCue c.number store).isNone && decide (Config.cuePlaces ≤ store.length))
    || decide (Config.poolPlaces < poolAfter c store)

/-- The answer of CUE WRITE for a cue that passed the value checks (R94, R95). -/
def writeCue (c : Cue) (s : State) : State × List Byte :=
  let c1 := clampCue c
  if storeFull c1 s.play.store then refuse .full s
  else
    let inserted := (findCue c1.number s.play.store).isNone
    let s1 := updPlay (fun p => { p with store := insertCue c1 p.store }) s
    accept (flag (decide (c1 ≠ c)) ++ u16 c1.number ++ flag inserted ++ u16 s1.play.store.length
      ++ u16 (poolUsed s1.play.store)) s1

/-- CUE WRITE (R94). -/
def reqCueWrite (payload : List Byte) (s : State) : State × List Byte :=
  match payload with
  | n0 :: n1 :: fk :: w0 :: w1 :: w2 :: t0 :: t1 :: lc :: ac :: records =>
    if records.length ≠ 13 * ac.toNat then refuse .badLength s
    else
      match parseCue n0 n1 fk w0 w1 w2 t0 t1 lc ac records with
      | some c => writeCue c s
      | none => refuse .badValue s
  | _ => refuse .badLength s

/-! ## CUE READ, CUE DELETE, CUE CLEAR (R96, R97, R98) -/

/-- A cue's report: header, loop counter and action records (R96). -/
def cueReport (c : Cue) : List Byte :=
  u16 c.number ++ u8 c.follow.code ++ u24 c.wait ++ u16 c.loopTarget ++ u8 c.loopCount
    ++ u8 c.actions.length ++ u8 c.loopCounter ++ c.actions.flatMap Action.bytes

/-- The reply to a CUE READ that found a cue, or its refusal. -/
def answerCue (found : Option Cue) (s : State) : State × List Byte :=
  match found with
  | some c => accept (cueReport c) s
  | none => refuse .notFound s

/-- CUE READ (R96): selector 0 the cue itself, 1 the next in order. -/
def reqCueRead (payload : List Byte) (s : State) : State × List Byte :=
  match payload with
  | [n0, n1, sel] =>
    match asBit sel with
    | none => refuse .badValue s
    | some false =>
      if le16 n0 n1 = 0 then refuse .badValue s else answerCue (findCue (le16 n0 n1) s.play.store) s
    | some true => answerCue (nextCue (le16 n0 n1) s.play.store) s
  | _ => refuse .badLength s

/-- The effects of CUE DELETE of a stored cue (R97). -/
def deleteCue (n : Nat) (p : Playback) : Playback :=
  { p with
    store := removeCue n p.store
    standby := if p.standby = some n then nextNumber n p.store else p.standby }

/-- CUE DELETE (R97). -/
def reqCueDelete (payload : List Byte) (s : State) : State × List Byte :=
  match payload with
  | [n0, n1] =>
    if le16 n0 n1 = 0 then refuse .badValue s
    else if (findCue (le16 n0 n1) s.play.store).isNone then refuse .notFound s
    else
      let s1 := updPlay (deleteCue (le16 n0 n1)) s
      accept (standbyField s1.play.standby ++ u16 s1.play.store.length
        ++ u16 (poolUsed s1.play.store)) s1
  | _ => refuse .badLength s

/-- CUE CLEAR (R98). -/
def reqCueClear (payload : List Byte) (s : State) : State × List Byte :=
  match payload with
  | [] =>
    accept [] (updPlay (fun p =>
      { p with store := [], standby := none, follow := none, endWatch := none }) s)
  | _ => refuse .badLength s

/-! ## GO, BACK, JUMP (R102, R111, R106) -/

/-- What the reply of GO reports of a firing (R103). -/
def firedField (f : Fired) : List Byte :=
  u16 f.cue ++ u16 f.firing ++ u8 f.dropped ++ standbyField f.standby

/-- GO (R102, R103). -/
def reqGo (payload : List Byte) (s : State) : State × List Byte :=
  match payload with
  | [] =>
    if s.stop.active then refuse .locked s
    else
      match standbyCue s with
      | none => refuse .empty s
      | some c =>
        accept (firedField (fireCue c none s).2) (settle (fireCue c none s).1)
  | _ => refuse .badLength s

/-- BACK (R111). -/
def reqBack (payload : List Byte) (s : State) : State × List Byte :=
  match payload with
  | [] =>
    if s.stop.active then refuse .locked s
    else
      match s.play.recalls with
      | [] => refuse .empty s
      | r :: rest =>
        let u := undoFiring r rest s
        accept (u16 r.cue ++ u16 r.firing ++ u8 u.2 ++ standbyField u.1.play.standby) (settle u.1)
  | _ => refuse .badLength s

/-- The effects of JUMP to a stored cue (R106). -/
def jumpTo (n : Nat) (p : Playback) : Playback :=
  { p with standby := some n, follow := none, endWatch := none, store := p.store.map Cue.reload }

/-- JUMP (R106). -/
def reqJump (payload : List Byte) (s : State) : State × List Byte :=
  match payload with
  | [n0, n1] =>
    if le16 n0 n1 = 0 then refuse .badValue s
    else if (findCue (le16 n0 n1) s.play.store).isNone then refuse .notFound s
    else
      let s1 := updPlay (jumpTo (le16 n0 n1)) s
      accept (standbyField s1.play.standby) s1
  | _ => refuse .badLength s

/-! ## PLAYBACK CONFIG and PLAYBACK QUERY (R114, R115) -/

/-- PLAYBACK CONFIG (R114). -/
def reqPlaybackConfig (payload : List Byte) (s : State) : State × List Byte :=
  match payload with
  | [b0, b1, b2] =>
    let time := min (le24 b0 b1 b2) Config.timeMax
    accept (flag (decide (Config.timeMax < le24 b0 b1 b2)) ++ u24 time)
      (updPlay (fun p => { p with backTime := time }) s)
  | _ => refuse .badLength s

/-- The follow slot in PLAYBACK QUERY: one byte says both occupied and present (R115, R194; DEDUCED, log entry 43). -/
def followField : Option Nat → List Byte
  | some due => flag true ++ dueField due
  | none => flag false ++ u32 0

/-- The end watch in PLAYBACK QUERY: one byte says both occupied and present (R115, R194; DEDUCED, log entry 43). -/
def watchField : Option EndWatch → List Byte
  | some w => flag true ++ u16 w.firing ++ u8 w.count ++ u24 w.wait
  | none => flag false ++ u16 0 ++ u8 0 ++ u24 0

/-- The recall stack in PLAYBACK QUERY: depth and the top record's cue and firing (R115). -/
def recallField (rs : List RecallRecord) : List Byte :=
  match rs with
  | r :: _ => u8 rs.length ++ u16 r.cue ++ u16 r.firing
  | [] => u8 0 ++ u16 0 ++ u16 0

/-- PLAYBACK QUERY (R115). -/
def reqPlaybackQuery (payload : List Byte) (s : State) : State × List Byte :=
  match payload with
  | [] =>
    accept (standbyField s.play.standby ++ followField s.play.follow ++ watchField s.play.endWatch
      ++ recallField s.play.recalls ++ u16 s.play.firing ++ u24 s.play.backTime
      ++ u16 s.play.store.length ++ u16 (poolUsed s.play.store)) s
  | _ => refuse .badLength s

end Sys2Proof.Machine
end

