-- ==== Sys2Proof/Machine/StopOps.lean ====
section
/-! DEFINITION. The Show Stop Unit: entry, clearing, STOP IN and the stop requests (spec 10). -/

namespace Sys2Proof.Machine

/-- A STOP notice with the stop as it stands after the event (R181). -/
def stopNotice (cause : StopCause) (cancelled : Nat) (s : State) : State :=
  queueNotice
    (.stop cause s.stop.active s.stop.line cancelled s.clock.showTime s.clock.state) s

/-- Whether the entry of the stop cancels a move: every origin but REJOIN (R70, R176). -/
def Move.heedsStop (mv : Move) : Bool :=
  match mv.origin with
  | .rejoin _ => false
  | .cue _ _ => true
  | .live _ => true
  | .back _ => true

/-- The follow slot and the end watch are emptied (R176, step 3). -/
def Playback.dropFollow (p : Playback) : Playback := { p with follow := none, endWatch := none }

/-- Steps 1 and 5 of the entry on the mutes: the stop state becomes ACTIVE, and a channel whose stop ramp
length is 0 takes its goal at once (R10, R176). -/
def activateStop (s : State) : State := resnap s (updStop (fun u => { u with active := true }) s)

/-- Entry into the stop (R176). The stop mute of step 5 is put on with step 1, because its goal and ramp
length are read from the stop state and steps 2 to 4 read neither. -/
def enterStop (cause : StopCause) (s : State) : State :=
  let s1 := updPlay Playback.dropFollow (holdForStop (activateStop s))
  let cancelled := (slotsWhere Move.heedsStop s1).length
  stopNotice cause cancelled (cancelWhere Move.heedsStop .stopped s1)

/-- Clearing the stop (R179). -/
def clearStop (s : State) : State :=
  stopNotice .cleared 0 (resnap s (updStop (fun u => { u with active := false }) s))

/-- The stop state and the line level as the stop replies carry them (R178, R180). -/
def stopFields (s : State) : List Byte := flag s.stop.active ++ flag s.stop.line

/-- STOP (R178). -/
def reqStop (payload : List Byte) (s : State) : State × List Byte :=
  match payload with
  | [] =>
    let s1 := if s.stop.active then s else enterStop .request s
    accept (stopFields s1) s1
  | _ => refuse .badLength s

/-- STOP CLEAR (R178). -/
def reqStopClear (payload : List Byte) (s : State) : State × List Byte :=
  match payload with
  | [] =>
    if s.stop.active && s.stop.line then refuse .state s
    else
      let s1 := if s.stop.active then clearStop s else s
      accept (stopFields s1) s1
  | _ => refuse .badLength s

/-- S_stop takes a value, with the ramps' response (R10, R180). -/
def setStopRamp (n : Nat) (s : State) : State := resnap s (updStop (fun u => { u with ramp := n }) s)

/-- STOP CONFIG (R180). -/
def reqStopConfig (payload : List Byte) (s : State) : State × List Byte :=
  match payload with
  | [r0, r1] =>
    let n := min (le16 r0 r1) 1000
    let s1 := setStopRamp n s
    accept (flag (decide (1000 < le16 r0 r1)) ++ u16 n ++ stopFields s1) s1
  | _ => refuse .badLength s

/-- STOP IN is asserted (R178). -/
def assertStopIn (s : State) : State :=
  let s1 := updStop (fun u => { u with line := true }) s
  if s.stop.active then stopNotice .lineAsserted 0 s1 else enterStop .line s1

/-- STOP IN is released (R178). In CLEAR, which the law of R178 excludes, only the line level changes. -/
def releaseStopIn (s : State) : State :=
  let s1 := updStop (fun u => { u with line := false }) s
  if s.stop.active then stopNotice .lineReleased 0 s1 else s1

end Sys2Proof.Machine
end

