-- ==== Sys2Proof/Machine/SurfaceOps.lean ====
section
/-! DEFINITION. The Surface Controller and the fader calibration: polling, misses, strips, touch
qualification, bindings, mute keys, the calibration's phases and evaluation (spec 06, spec 08). -/

namespace Sys2Proof.Machine

/-- The module of a strip. -/
def moduleOf (i : StripId) : ModuleId := ⟨i.val / 8, by omega⟩

/-- Strip s of module m. -/
def stripAt (m : ModuleId) (s : Fin 8) : StripId := ⟨8 * m.val + s.val, by omega⟩

/-- The eight strips of a module, in strip order. -/
def stripsOf (m : ModuleId) : List StripId := (allFin 8).map (stripAt m)

/-- A strip record changed. -/
def updStrip (i : StripId) (f : Strip → Strip) (s : State) : State :=
  updSurf (fun u => { u with strips := u.strips.set i (f u.strips[i]) }) s

/-- A module record changed. -/
def updModule (m : ModuleId) (f : SurfaceModule → SurfaceModule) (s : State) : State :=
  updSurf (fun u => { u with modules := u.modules.set m (f u.modules[m]) }) s

/-- Whether a module is calibrating (R119). -/
def isCalibrating (s : State) (m : ModuleId) : Bool := s.surf.modules[m].phase != .none

/-! ## Units and their strips (R125) -/

/-- Whether a strip with its qualified touch on is bound to a channel of the unit of c (R125). -/
def unitTouched (s : State) (c : Chan) : Bool :=
  (allFin 32).any fun i =>
    s.surf.strips[i].touch &&
      match s.surf.strips[i].binding with
      | some d => (unitChans s c).contains d
      | none => false

/-- The touched strip bound to a channel. -/
def touchedStripOf (s : State) (c : Chan) : Option StripId :=
  (allFin 32).find? fun i => s.surf.strips[i].touch && s.surf.strips[i].binding == some c

/-- The supplying strip of the unit of c: the even channel's touched strip, else the odd channel's; an
unlinked channel's own strip (R125). -/
def supplyingStrip (s : State) (c : Chan) : Option StripId :=
  if isLinked s c then
    match touchedStripOf s (evenOf (pairOf c)) with
    | some i => some i
    | none => touchedStripOf s (oddOf (pairOf c))
  else touchedStripOf s c

/-- A strip's qualified touch turns off, with the release of its unit when that was its last (R125). -/
def dropTouch (i : StripId) (s : State) : State :=
  let s1 := updStrip i (fun t => { t with touch := false, counter := 0 }) s
  if s.surf.strips[i].touch then
    match s.surf.strips[i].binding with
    | some c => if unitTouched s1 c then s1 else deliverRelease c s1
    | none => s1
  else s1

/-- A strip is disarmed: touch off, counter 0 (R123). -/
def disarm (i : StripId) (s : State) : State :=
  updStrip i (fun t => { t with touch := false, counter := 0, armed := false }) s

/-- Every touch of a module is released, then every strip is disarmed (R120, R156). The releases are
delivered in ascending strip order (DESIGN CHOICE, log entry 39). -/
def withdrawStrips (m : ModuleId) (s : State) : State :=
  (stripsOf m).foldl (fun s i => disarm i s) ((stripsOf m).foldl (fun s i => dropTouch i s) s)

/-! ## Modules (R119, R120, R135, R163) -/

/-- A MODULE notice with the module as it stands (R135). -/
def moduleNotice (m : ModuleId) (cause : ModuleCause) (s : State) : State :=
  queueNotice (.module m s.surf.modules[m].online cause s.surf.modules[m].totalMisses) s

/-- The phase becomes NONE, and drive timer and candidates are discarded (R157, R163). -/
def SurfaceModule.endCalibration (r : SurfaceModule) : SurfaceModule :=
  { r with phase := .none, driveTimer := none, candMin := none, candMax := none }

/-- A calibration in progress is aborted by the module going OFFLINE (R163, R164). -/
def abortCalibration (m : ModuleId) (cause : ModuleCause) (s : State) : State :=
  if isCalibrating s m then
    queueNotice (.calibrationAborted m cause s.surf.modules[m].phase)
      (updModule m SurfaceModule.endCalibration s)
  else s

/-- An ONLINE module goes OFFLINE: notice, abort, releases, disarming (R120). -/
def goOffline (m : ModuleId) (cause : ModuleCause) (s : State) : State :=
  let s1 := moduleNotice m cause (updModule m (fun r => { r with online := false, misses := 0 }) s)
  withdrawStrips m (abortCalibration m cause s1)

/-- The total misses of a module rise by one, stopping at 65535 (R119). -/
def SurfaceModule.countMiss (r : SurfaceModule) : SurfaceModule :=
  { r with totalMisses := bump r.totalMisses }

/-- A miss of a module (R118, R120). -/
def takeMiss (m : ModuleId) (s : State) : State :=
  let s1 := updModule m SurfaceModule.countMiss s
  if s.surf.modules[m].online then
    if s.surf.modules[m].misses < 2 then updModule m (fun r => { r with misses := r.misses + 1 }) s1
    else goOffline m .misses s1
  else s1

/-! ## Bindings (R126, R127) -/

/-- The candidate channel number of a strip under the bank settings (R126). -/
def candidateOf (u : Surface) (i : StripId) : Nat :=
  let m := i.val / 8
  if m < u.split then u.offsetA + i.val else u.offsetB + 8 * (m - u.split) + i.val % 8

/-- The binding of a strip under the bank settings (R126). -/
def bindingOf (u : Surface) (i : StripId) : Option Chan :=
  if u.expected ≤ i.val / 8 then none
  else if (allFin 32).any fun j => decide (j < i) && candidateOf u j == candidateOf u i then none
  else if h : candidateOf u i < 64 then some ⟨candidateOf u i, h⟩
  else none

/-- The strips whose binding the bank settings change (R127). -/
def changedStrips (s : State) : List StripId :=
  (allFin 32).filter fun i => bindingOf s.surf i != s.surf.strips[i].binding

/-- Every binding is recomputed from the settings in force; changed strips lose their touch, take the new
binding and are disarmed (R126, R127). The releases are delivered in ascending strip order (DESIGN CHOICE,
log entry 39). -/
def rebind (s : State) : State :=
  let changed := changedStrips s
  let s1 := changed.foldl (fun s i => dropTouch i s) s
  changed.foldl (fun s i => disarm i (updStrip i (fun t => { t with binding := bindingOf s.surf i }) s)) s1

/-! ## The exchange start (R116, R117, R129, R130, R132, R158) -/

/-- The target position of a strip: its channel's V through the inverse taper; 0 when blank (R129). -/
def targetPosition (s : State) (i : StripId) : Nat :=
  match s.surf.strips[i].binding with
  | some c => taperInverse (tableOf s s.chans[c].taper) (liveLevel s c)
  | none => 0

/-- The motor target sent for a strip (R129, R158). -/
def motorTarget (s : State) (i : StripId) : Nat :=
  match s.surf.modules[moduleOf i].phase with
  | .none => positionToRaw s.surf.strips[i].cal (targetPosition s i)
  | .driveLow => 0
  | .sampleLow => 0
  | .driveHigh => 1023
  | .sampleHigh => 1023

/-- The distance between two positions. -/
def distance (a b : Nat) : Nat := (a - b) + (b - a)

/-- The drive flag sent for a strip (R117, R130, R158). -/
def driveFlag (s : State) (i : StripId) : Bool :=
  let t := s.surf.strips[i]
  let r := s.surf.modules[moduleOf i]
  r.online &&
    (r.phase != .none ||
      (t.cal.state != .failed && !t.touch && !t.reported
        && decide (s.surf.deadBand < distance (targetPosition s i) t.lastPos)))

/-- The mute LED state sent for a strip (R132). -/
def ledState (s : State) (i : StripId) : Bool :=
  match s.surf.strips[i].binding with
  | some c => composedMute s c
  | none => false

/-- A strip's part of the poll frame (spec 11, surface poll frame). -/
def pollEntry (s : State) (i : StripId) : List Byte :=
  u16 (motorTarget s i) ++ u8 ((if driveFlag s i then 1 else 0) + (if ledState s i then 2 else 0))

/-- The poll frame of a module (spec 11, surface poll frame). -/
def pollFrame (s : State) (m : ModuleId) : List Byte :=
  let covered := u8 (m.val + 1) ++ (stripsOf m).flatMap (pollEntry s)
  [0xC3] ++ covered ++ u16 (checksum covered)

/-- The values last sent are written into a strip record (R117). -/
def recordSent (s : State) (i : StripId) (t : Strip) : Strip :=
  { t with motorTarget := motorTarget s i, drive := driveFlag s i, led := ledState s i }

/-- An exchange with module m starts (R116, R117). -/
def startExchange (m : ModuleId) (s : State) : State :=
  let s1 := (stripsOf m).foldl (fun s' i => updStrip i (recordSent s i) s') s
  updSurf (fun u =>
    { u with
      exchange := some ⟨m, s.surf.modules[m].phase, pollFrame s m⟩
      begun := true
      nextPoll := (m.val + 1) % s.surf.expected }) s1

/-- The module the next exchange polls, none when no module is expected (R116). -/
def polledModule (s : State) : Option ModuleId :=
  if s.surf.expected = 0 then none
  else
    let m := if s.surf.nextPoll < s.surf.expected then s.surf.nextPoll else 0
    if h : m < 4 then some ⟨m, h⟩ else none

/-! ## The module reply (R118, R121 to R125, R131, R158, R160) -/

/-- What a reply says of one strip. -/
structure StripReport where
  raw : Nat
  touch : Bool
  key : Bool
deriving DecidableEq, Repr

/-- The strip entries of a reply, three bytes each; bits 2 to 7 of the flags are not examined (R193). -/
def stripReports : List Byte → List StripReport
  | r0 :: r1 :: f :: bs => ⟨le16 r0 r1, f.getLsbD 0, f.getLsbD 1⟩ :: stripReports bs
  | _ => []

/-- A module's reply frame, when it is good: complete, with start byte, the bus address of the module
polled, every raw value within 0 to 1023 and a correct checksum (R118, R193). That another length or another start
byte than the layout's makes a reply no good one is DEDUCED (log entry 19). -/
def parseReply (m : ModuleId) (bytes : List Byte) : Option (List StripReport) :=
  match bytes with
  | start :: rest =>
    let covered := rest.take 25
    let reports := stripReports (covered.drop 1)
    if rest.length = 27 ∧ start = 0x3C ∧ covered.head? = some (BitVec.ofNat 8 (m.val + 1))
        ∧ reports.all (fun r => decide (r.raw ≤ 1023)) = true
        ∧ rest.drop 25 = u16 (checksum covered) then some reports
    else none
  | [] => none

/-- Step 1 for a strip: the raw value, the position and the reported touch are recorded (R121, R122). -/
def recordReport (r : StripReport) (t : Strip) : Strip :=
  { t with lastRaw := r.raw, lastPos := rawToPosition t.cal r.raw, reported := r.touch }

/-- A qualified touch or release of a strip is delivered to its unit (R125). -/
def deliverQualified (i : StripId) (on : Bool) (s : State) : State :=
  let s1 := updStrip i (fun t => { t with touch := on, counter := 0 }) s
  match s.surf.strips[i].binding with
  | none => s1
  | some c =>
    if on then (if unitTouched s c then s1 else deliverTouch c i s1)
    else (if unitTouched s1 c then s1 else deliverRelease c s1)

/-- Step 2 for a strip: arming, or qualification with count N (R123, R124). -/
def qualifyTouch (i : StripId) (touch : Bool) (s : State) : State :=
  let t := s.surf.strips[i]
  if !t.armed then
    if touch then s else updStrip i (fun t => { t with armed := true }) s
  else if touch = t.touch then updStrip i (fun t => { t with counter := 0 }) s
  else if s.surf.qualify ≤ t.counter + 1 then deliverQualified i touch s
  else updStrip i (fun t => { t with counter := t.counter + 1 }) s

/-- Step 3 for a strip: a position report when it supplies a touched unit (R125). -/
def reportPosition (i : StripId) (s : State) : State :=
  match s.surf.strips[i].binding with
  | none => s
  | some c => if supplyingStrip s c = some i then deliverPosition c i s else s

/-- Whether a strip heeds touches and keys: its module is not calibrating and it is not FAILED (R121,
R131). -/
def heeds (s : State) (i : StripId) : Bool :=
  !isCalibrating s (moduleOf i) && s.surf.strips[i].cal.state != .failed

/-- Step 4 for a strip: a key press toggles the bound channel's own mute; two presses of one linked pair in
one reply count as one (R131). `done` holds the pairs already toggled by this reply. -/
def takeKey (i : StripId) (key : Bool) (acc : State × List PairId) : State × List PairId :=
  match acc.1.surf.strips[i].binding with
  | none => acc
  | some c =>
    if key && heeds acc.1 i && !acc.1.stop.active then
      if isLinked acc.1 c && acc.2.contains (pairOf c) then acc
      else
        (setOwnMute c (!acc.1.chans[c].ownMute) acc.1,
          if isLinked acc.1 c then pairOf c :: acc.2 else acc.2)
    else acc

/-- One strip of a good reply is taken: steps 1 to 4 (R121). -/
def takeStrip (i : StripId) (r : StripReport) (acc : State × List PairId) : State × List PairId :=
  let s1 := updStrip i (recordReport r) acc.1
  let s2 := if heeds s1 i then reportPosition i (qualifyTouch i r.touch s1) else s1
  takeKey i r.key (s2, acc.2)

/-- The strips of a good reply are taken in strip order (R121); the pairs whose keys they toggle are gathered. -/
def takeEach (m : ModuleId) (rs : List StripReport) (s : State) : State × List PairId :=
  ((stripsOf m).zip rs).foldl (fun acc x => takeStrip x.1 x.2 acc) (s, [])

/-- The strips of a good reply (R121): the moves that their touches retire queue their notices in ascending slot order
at the end of the reply, after the TAKEOVER notices of all of them (R71, R152; log entry 42). -/
def takeStrips (m : ModuleId) (rs : List StripReport) (s : State) : State := (inOneInstant (takeEach m rs) s).1

/-- The state part of a good reply: an OFFLINE module comes ONLINE, misses are cleared (R120). -/
def answerModule (m : ModuleId) (s : State) : State :=
  let s1 := updModule m (fun r => { r with online := true, misses := 0 }) s
  if s.surf.modules[m].online then s1 else moduleNotice m .reply s1

/-- The judgement of one strip's candidates (R160). -/
def judgeStrip (lo hi : Nat) : Bool :=
  decide (lo ≤ 100) && decide (900 ≤ hi) && decide (lo + 800 ≤ hi)

/-- The entry the evaluation writes (R160). -/
def judgedEntry (lo hi : Nat) : CalEntry :=
  if judgeStrip lo hi then ⟨lo, hi, .calibrated⟩ else ⟨0, 1023, .failed⟩

/-- A strip takes its new entry and its last position is computed again (R160). -/
def writeEntry (e : CalEntry) (t : Strip) : Strip := { t with cal := e, lastPos := rawToPosition e t.lastRaw }

/-- The evaluation of a module from its candidates (R160, R164). -/
def evaluate (m : ModuleId) (s : State) : State :=
  let lows := (s.surf.modules[m].candMin).getD []
  let highs := (s.surf.modules[m].candMax).getD []
  let s1 := ((stripsOf m).zip (lows.zip highs)).foldl
    (fun s x => updStrip x.1 (writeEntry (judgedEntry x.2.1 x.2.2)) s) s
  queueNotice
    (.calibrated m ((lows.zip highs).map fun x =>
      (judgeStrip x.1 x.2, (judgedEntry x.1 x.2).min, (judgedEntry x.1 x.2).max)))
    (updModule m SurfaceModule.endCalibration s1)

/-- The sampling reply of a SAMPLE phase: one whose exchange started in that phase (R157, R158). -/
def takeSample (m : ModuleId) (startedIn : CalPhase) (raws : List Nat) (s : State) : State :=
  match s.surf.modules[m].phase with
  | .sampleLow =>
    if startedIn = .sampleLow then
      updModule m (fun r =>
        { r with candMin := some raws, phase := .driveHigh, driveTimer := some s.clock.wallTime }) s
    else s
  | .sampleHigh =>
    if startedIn = .sampleHigh then
      evaluate m (updModule m (fun r => { r with candMax := some raws }) s)
    else s
  | .none => s
  | .driveLow => s
  | .driveHigh => s

/-- A good reply to the exchange x (R120, R121, R158). -/
def takeGoodReply (x : Exchange) (rs : List StripReport) (s : State) : State :=
  let s1 := takeStrips x.module rs (answerModule x.module s)
  takeSample x.module x.phase (rs.map (·.raw)) s1

/-- The exchange in progress is over. -/
def endExchange (s : State) : State := updSurf (fun u => { u with exchange := none }) s

end Sys2Proof.Machine
end

