-- ==== Sys2Proof/Machine/SurfaceRequests.lean ====
section
/-! DEFINITION. The requests on the surface, the calibration and the takeover (spec 06, section 6.8;
spec 07, R148; spec 08, R156). -/

namespace Sys2Proof.Machine

/-! ## SURFACE CONFIG (R133) -/

/-- The four surface settings (R133). -/
structure SurfaceSettings where
  expected : Nat
  qualify : Nat
  deadBand : Nat
  glide : Nat
deriving DecidableEq, Repr

/-- The settings written into the surface's state. -/
def Surface.withSettings (a : SurfaceSettings) (u : Surface) : Surface :=
  { u with expected := a.expected, qualify := a.qualify, deadBand := a.deadBand, glide := a.glide }

/-- The outcome of an exchange with a module that is no longer expected is discarded (R118). -/
def discardExchange (s : State) : State :=
  match s.surf.exchange with
  | some x => if s.surf.expected ≤ x.module.val then endExchange s else s
  | none => s

/-- The ONLINE modules that M no longer covers, in ascending order (R133; DESIGN CHOICE, log entry 39). -/
def removedModules (s : State) : List ModuleId :=
  (allFin 4).filter fun m => s.surf.modules[m].online && decide (s.surf.expected ≤ m.val)

/-- The effects of a change of M: removed modules go OFFLINE, bindings are recomputed, the rotation
restarts at module 0 (R133). Each module goes OFFLINE whole, with its notices, its abort and its releases,
before the next (DESIGN CHOICE, log entry 39). -/
def changeExpected (s : State) : State :=
  let s1 := (removedModules s).foldl (fun s m => goOffline m .removed s) s
  updSurf (fun u => { u with nextPoll := 0 }) (rebind (discardExchange s1))

/-- An accepted SURFACE CONFIG (R133). -/
def configSurface (a : SurfaceSettings) (s : State) : State :=
  let s1 := updSurf (Surface.withSettings a) s
  if a.expected = s.surf.expected then s1 else changeExpected s1

/-- The four settings as a reply carries them (R133, R134). -/
def settingsField (u : Surface) : List Byte :=
  u8 u.expected ++ u8 u.qualify ++ u8 u.deadBand ++ u16 u.glide

/-- SURFACE CONFIG (R133). -/
def reqSurfaceConfig (payload : List Byte) (s : State) : State × List Byte :=
  match payload with
  | [m, n, db, g0, g1] =>
    if 4 < m.toNat ∨ n.toNat = 0 ∨ 4 < n.toNat then refuse .badValue s
    else
      let a : SurfaceSettings := ⟨m.toNat, n.toNat, min db.toNat 32, min (le16 g0 g1) 10000⟩
      let s1 := configSurface a s
      accept (flag (decide (32 < db.toNat) || decide (10000 < le16 g0 g1)) ++ settingsField s1.surf)
        (settle s1)
  | _ => refuse .badLength s

/-! ## BANK SET (R128) -/

/-- The bank settings written and every binding recomputed (R127, R128). -/
def setBanks (a b split : Nat) (s : State) : State :=
  rebind (updSurf (fun u => { u with offsetA := a, offsetB := b, split := split }) s)

/-- The number of strips bound to a channel (R128). -/
def boundCount (s : State) : Nat :=
  ((allFin 32).filter fun i => s.surf.strips[i].binding.isSome).length

/-- The bank settings as a reply carries them (R128, R134). -/
def banksField (u : Surface) : List Byte := u8 u.offsetA ++ u8 u.offsetB ++ u8 u.split

/-- BANK SET (R128). -/
def reqBankSet (payload : List Byte) (s : State) : State × List Byte :=
  match payload with
  | [a, b, sp] =>
    if 63 < a.toNat ∨ 63 < b.toNat ∨ 4 < sp.toNat then refuse .badValue s
    else
      let asked := updSurf (fun u =>
        { u with offsetA := a.toNat, offsetB := b.toNat, split := sp.toNat }) s
      let s1 := setBanks a.toNat b.toNat sp.toNat s
      accept (banksField s1.surf ++ u8 (boundCount s1) ++ u8 (changedStrips asked).length) (settle s1)
  | _ => refuse .badLength s

/-! ## SURFACE QUERY (R134) -/

/-- A module's report (R134). -/
def moduleReport (r : SurfaceModule) : List Byte :=
  flag r.online ++ u8 r.misses ++ u16 r.totalMisses ++ u8 r.phase.code

/-- A strip's report (R134). -/
def stripReport (t : Strip) : List Byte :=
  bindingField t.binding ++ u16 t.cal.min ++ u16 t.cal.max ++ u8 t.cal.state.code
    ++ u16 t.lastRaw ++ u16 t.lastPos ++ flag t.touch ++ u8 t.counter ++ flag t.armed
    ++ u16 t.motorTarget ++ flag t.drive ++ flag t.led

/-- SURFACE QUERY (R134). -/
def reqSurfaceQuery (payload : List Byte) (s : State) : State × List Byte :=
  match payload with
  | [] =>
    accept (settingsField s.surf ++ banksField s.surf ++ s.surf.modules.toList.flatMap moduleReport
      ++ s.surf.strips.toList.flatMap stripReport) s
  | _ => refuse .badLength s

/-! ## CALIBRATE (R156) -/

/-- The start of a calibration: the phase and the drive timer, then the strips (R156, R157). -/
def startCalibration (m : ModuleId) (s : State) : State :=
  withdrawStrips m (updModule m (fun r =>
    { r with phase := .driveLow, driveTimer := some s.clock.wallTime }) s)

/-- A byte as the number of an expected module (R156, step 2). -/
def asExpected (b : Byte) (s : State) : Option ModuleId :=
  if h : b.toNat < 4 then
    if b.toNat < s.surf.expected then some ⟨b.toNat, h⟩ else none
  else none

/-- CALIBRATE (R156). -/
def reqCalibrate (payload : List Byte) (s : State) : State × List Byte :=
  match payload with
  | [b] =>
    match asExpected b s with
    | none => refuse .badValue s
    | some m =>
      if !s.surf.modules[m].online then refuse .state s
      else if isCalibrating s m then refuse .busy s
      else (settle (startCalibration m s), Status.accepted.byte :: u8 m.val)
  | _ => refuse .badLength s

/-! ## LATCH RELEASE (R148) -/

/-- What a LATCH RELEASE has done so far: the state, the units handed back, the glides created and the
glides not made for lack of a slot (R148). -/
structure HandBacks where
  state : State
  units : Nat
  made : Nat
  dropped : Nat
deriving DecidableEq, Repr

/-- One unit is handed back by LATCH RELEASE (R145, R148). -/
def releaseUnit (c : Chan) (acc : HandBacks) : HandBacks :=
  let back := handBackGlide c .latchRelease acc.state
  { state := back.1
    units := acc.units + 1
    made := acc.made + (if back.2 = .made then 1 else 0)
    dropped := acc.dropped + (if back.2 = .dropped then 1 else 0) }

/-- The units in LATCHED by their lower channels, in ascending order (R148). -/
def latchedUnits (s : State) : List Chan :=
  (allFin 64).filter fun c => unitLower s c == c && s.chans[c].ownership == .latched

/-- The units of a list are handed back one after another (R148). -/
def releaseUnits (cs : List Chan) (s : State) : HandBacks :=
  cs.foldl (fun acc c => releaseUnit c acc) ⟨s, 0, 0, 0⟩

/-- The reply of an accepted LATCH RELEASE (R148). -/
def acceptRelease (h : HandBacks) : State × List Byte :=
  accept (u8 h.units ++ u8 h.made ++ u8 h.dropped) (settle h.state)

/-- LATCH RELEASE (R148): a channel's unit, or 255 for every unit. -/
def reqLatchRelease (payload : List Byte) (s : State) : State × List Byte :=
  match payload with
  | [b] =>
    if b.toNat = 255 then acceptRelease (releaseUnits (latchedUnits s) s)
    else
      match asChan b with
      | none => refuse .badValue s
      | some c =>
        if s.chans[c].ownership = .latched then acceptRelease (releaseUnits [c] s)
        else refuse .state s
  | _ => refuse .badLength s

end Sys2Proof.Machine
end

