-- ==== Sys2Proof/Machine/LinkOps.lean ====
section
/-! DEFINITION. The Control Link: its own requests, the soft reset, dispatch, the transmitter, the receive
queue and the receiver (spec 11). -/

namespace Sys2Proof.Machine

/-! ## IDENTIFY, LINK STATUS, NOTICE ENABLE (R188, R189, R190) -/

/-- IDENTIFY (R190): vendor 4E7Ah, part 0B40h, revision 1 and the capacities. -/
def reqIdentify (payload : List Byte) (s : State) : State × List Byte :=
  match payload with
  | [] =>
    accept (u16 0x4E7A ++ u16 0x0B40 ++ u8 1 ++ u16 64 ++ u16 8 ++ u16 32 ++ u16 48
      ++ u16 Config.cuePlaces ++ u16 Config.poolPlaces ++ u16 Config.recallPlaces ++ u16 4) s
  | _ => refuse .badLength s

/-- The eight counters in the order of R189. -/
def statsField (t : LinkStats) : List Byte :=
  u16 t.received ++ u16 t.checksum ++ u16 t.length ++ u16 t.timeouts ++ u16 t.framing ++ u16 t.breaks
    ++ u16 t.overruns ++ u16 t.dropped

/-- LINK STATUS (R189): clear flag 0 keeps the counters, 1 clears them after they are read. -/
def reqLinkStatus (payload : List Byte) (s : State) : State × List Byte :=
  match payload with
  | [c] =>
    match asBit c with
    | none => refuse .badValue s
    | some clear =>
      accept (u8 (rateCode s.link.rate) ++ statsField s.link.stats ++ u8 s.link.rxQueue.length
          ++ u8 s.link.notices.length ++ flag s.link.overflow)
        (if clear then updLink (fun k => { k with stats := {} }) s else s)
  | _ => refuse .badLength s

/-- NOTICE ENABLE (R188). -/
def reqNoticeEnable (payload : List Byte) (s : State) : State × List Byte :=
  match payload with
  | [m0, m1] =>
    if 512 ≤ le16 m0 m1 then refuse .badValue s
    else
      accept (u16 (le16 m0 m1)) (updLink (fun k => { k with mask := BitVec.ofNat 16 (le16 m0 m1) }) s)
  | _ => refuse .badLength s

/-! ## RESET: the soft reset (R191) -/

/-- A channel at a soft reset: B takes V where it is claimed, and the unit goes to AUTO
(R24, R25, R137, R153). -/
def Channel.softReset (v : Int) (ch : Channel) : Channel :=
  { ch with
    base := v, claim := none, ownership := .auto, side := none, pickupStrip := none, balance := none }

/-- A group at a soft reset (R25, R27). -/
def Group.softReset (g : Int) (gr : Group) : Group := { gr with offset := g, claim := none }

/-- The clock at a soft reset (R78, R80, R84, R87). -/
def Clock.softReset (k : Clock) : Clock := { k.exitRunning with state := .stopped, showTime := 0 }

/-- The playback state at a soft reset (R93, R99). -/
def Playback.softReset (p : Playback) : Playback :=
  { p with
    store := p.store.map Cue.reload, firing := 0, follow := none, endWatch := none, recalls := [] }

/-- A strip at a soft reset (R121, R136). -/
def Strip.softReset (t : Strip) : Strip := { t with touch := false, counter := 0, armed := false }

/-- The surface at a soft reset (R119, R136, R157, R163). -/
def Surface.softReset (u : Surface) : Surface :=
  { u with
    modules := u.modules.map SurfaceModule.endCalibration
    strips := u.strips.map Strip.softReset }

/-- The link at a soft reset: both queues emptied, the overflow flag cleared (R191). -/
def Link.softReset (k : Link) : Link := { k with rxQueue := [], notices := [], overflow := false }

/-- The soft reset of every block (R191, steps 1 to 3): V and G are read before anything is changed. -/
def softReset (s : State) : State :=
  { s with
    chans := Vector.ofFn fun c => Channel.softReset (liveLevel s c) s.chans[c]
    groups := Vector.ofFn fun g => Group.softReset (liveOffset s g) s.groups[g]
    moves := Vector.replicate 48 none
    clock := s.clock.softReset
    play := s.play.softReset
    surf := s.surf.softReset
    link := s.link.softReset }

/-- RESET (R191). -/
def reqReset (payload : List Byte) (s : State) : State × List Byte :=
  match payload with
  | [] => accept [] (softReset s)
  | _ => refuse .badLength s

/-! ## Dispatch (R185) -/

/-- The owner of a request by its TYPE code (spec 11, request type codes); any other TYPE is answered
with BAD_TYPE (R185). -/
def serve (f : Frame) (s : State) : State × List Byte :=
  match f.type.toNat with
  | 0x01 => reqIdentify f.payload s
  | 0x02 => reqReset f.payload s
  | 0x03 => reqLinkStatus f.payload s
  | 0x04 => reqNoticeEnable f.payload s
  | 0x10 => reqChannelConfig f.payload s
  | 0x11 => reqChannelQuery f.payload s
  | 0x12 => reqLevelSet f.payload s
  | 0x13 => reqTrimSet f.payload s
  | 0x14 => reqMuteSet f.payload s
  | 0x15 => reqPairLink f.payload s
  | 0x16 => reqGroupSet f.payload s
  | 0x17 => reqGroupMembers f.payload s
  | 0x18 => reqSetWrite f.payload s
  | 0x19 => reqSetRead f.payload s
  | 0x1A => reqTaperWrite f.payload s
  | 0x1B => reqTaperRead f.payload s
  | 0x20 => reqMoveStart f.payload s
  | 0x21 => reqMoveCancel f.payload s
  | 0x22 => reqMoveQuery f.payload s
  | 0x28 => reqClockSource f.payload s
  | 0x29 => reqClockRate f.payload s
  | 0x2A => reqClockRun f.payload s
  | 0x2B => reqClockHold f.payload s
  | 0x2C => reqClockStep f.payload s
  | 0x2D => reqClockLocate f.payload s
  | 0x2E => reqClockQuery f.payload s
  | 0x30 => reqCueWrite f.payload s
  | 0x31 => reqCueRead f.payload s
  | 0x32 => reqCueDelete f.payload s
  | 0x33 => reqCueClear f.payload s
  | 0x34 => reqGo f.payload s
  | 0x35 => reqBack f.payload s
  | 0x36 => reqJump f.payload s
  | 0x37 => reqPlaybackQuery f.payload s
  | 0x38 => reqPlaybackConfig f.payload s
  | 0x40 => reqSurfaceConfig f.payload s
  | 0x41 => reqBankSet f.payload s
  | 0x42 => reqSurfaceQuery f.payload s
  | 0x43 => reqCalibrate f.payload s
  | 0x44 => reqLatchRelease f.payload s
  | 0x48 => reqLaneConfig f.payload s
  | 0x49 => reqLaneQuery f.payload s
  | 0x50 => reqStop f.payload s
  | 0x51 => reqStopClear f.payload s
  | 0x52 => reqStopConfig f.payload s
  | _ => refuse .badType s

/-- The reply to a request: its TYPE plus 80h modulo 256 and its TAG (R185). -/
def replyTo (f : Frame) (payload : List Byte) : Frame := ⟨f.type + 0x80, f.tag, payload⟩

/-- A request is carried out and its reply becomes waiting (R185). -/
def carryOut (f : Frame) (s : State) : State :=
  updLink (fun k => { k with reply := some (replyTo f (serve f s).2) }) (serve f s).1

/-- The frame at the head of the receive queue is dispatched when no reply is waiting (R185); nothing is
while RESET IN is held (R192). -/
def dispatchHead (s : State) : State :=
  if s.link.held || s.link.reply.isSome then s
  else
    match s.link.rxQueue with
    | [] => s
    | f :: rest => carryOut f (updLink (fun k => { k with rxQueue := rest }) s)

/-! ## The transmitter (R186, R187) -/

/-- What an IDLE transmitter begins to send: the waiting reply, else the notice at the head of the
queue, which takes the overflow flag with it (R186, R187). -/
def Link.choose (k : Link) : Link :=
  match k.reply with
  | some r => { k with reply := none, tx := some r.wire }
  | none =>
    match k.notices with
    | n :: rest => { k with notices := rest, overflow := false, tx := some (n.frame k.overflow).wire }
    | [] => k

/-- The transmitter's choice, when it is IDLE and RESET IN is not held (R186, R192); it is made once for an event,
after all that the event queues (DESIGN CHOICE for the notices of one event, log entry 41). -/
def choose (s : State) : State :=
  if s.link.held || s.link.tx.isSome then s else updLink Link.choose s

/-- A dispatch, the transmitter's choice, and the dispatch that a reply's beginning allows
(R185, R186; log entry 3). -/
def pump (s : State) : State := dispatchHead (choose (dispatchHead s))

/-! ## The receive queue and the receiver (R183, R184) -/

/-- The link statistics changed. -/
def Link.count (f : LinkStats → LinkStats) (k : Link) : Link := { k with stats := f k.stats }

/-- A completed frame joins the receive queue, or is discarded as an overrun (R184, R189). -/
def Link.enqueue (f : Frame) (k : Link) : Link :=
  let k1 := k.count fun t => { t with received := bump t.received }
  if k1.rxQueue.length < Config.rxPlaces then { k1 with rxQueue := k1.rxQueue ++ [f] }
  else k1.count fun t => { t with overruns := bump t.overruns }

/-- A frame is completed (R184, R185). -/
def completeRequest (f : Frame) (s : State) : State := pump (updLink (Link.enqueue f) s)

/-- The frame an ASSEMBLING receiver has taken whole: TYPE, TAG and PAYLOAD (R182). -/
def frameOf (taken : List Byte) : Frame :=
  match taken with
  | _ :: _ :: ty :: tag :: rest => ⟨ty, tag, rest.take (rest.length - 2)⟩
  | _ => ⟨0, 0, []⟩

/-- The LENGTH of a frame in progress (R182). -/
def lengthOf (taken : List Byte) : Nat :=
  match taken with
  | l0 :: l1 :: _ => le16 l0 l1
  | _ => 0

/-- Whether the 16-bit sum of the covered bytes and CHECK is 0 (R183, R193). -/
def sumsToZero (taken : List Byte) : Bool :=
  let n := lengthOf taken + 2
  match taken.drop n with
  | [c0, c1] => (byteSum (taken.take n) + le16 c0 c1) % 65536 == 0
  | _ => false

/-- What a character does to the receiver. -/
inductive Taken where
  | goesOn (taken : List Byte)
  | lengthError
  | checksumError
  | complete (f : Frame)
deriving DecidableEq, Repr

/-- A character is added to the frame in progress (R183, ASSEMBLING). -/
def assemble (taken : List Byte) : Taken :=
  if taken.length < 2 then .goesOn taken
  else if lengthOf taken < 2 ∨ 1026 < lengthOf taken then .lengthError
  else if taken.length < lengthOf taken + 4 then .goesOn taken
  else if sumsToZero taken then .complete (frameOf taken)
  else .checksumError

/-- The receiver takes a value. -/
def setReceiver (r : Receiver) (s : State) : State := updLink (fun k => { k with receiver := r }) s

/-- A statistic of the link is raised. -/
def countLink (f : LinkStats → LinkStats) (s : State) : State := updLink (Link.count f) s

/-- A character with its stop bit high is taken by the receiver; the gap timer starts at SYNC and again at
each character of the frame (R183). -/
def takeCharacter (c : Byte) (s : State) : State :=
  match s.link.receiver with
  | .broken => s
  | .hunting => if c = 0xA5 then setReceiver (.assembling [] s.clock.wallTime) s else s
  | .assembling taken _ =>
    match assemble (taken ++ [c]) with
    | .goesOn more => setReceiver (.assembling more s.clock.wallTime) s
    | .lengthError =>
      countLink (fun t => { t with length := bump t.length }) (setReceiver .hunting s)
    | .checksumError =>
      countLink (fun t => { t with checksum := bump t.checksum }) (setReceiver .hunting s)
    | .complete f => completeRequest f (setReceiver .hunting s)

/-- A character with a low stop bit: a framing error (R183). -/
def framingError (s : State) : State :=
  match s.link.receiver with
  | .broken => s
  | .hunting => countLink (fun t => { t with framing := bump t.framing }) s
  | .assembling _ _ =>
    countLink (fun t => { t with framing := bump t.framing }) (setReceiver .hunting s)

/-- A character arrives (R183); nothing is taken from the line while RESET IN is held (R192). -/
def receiveCharacter (c : Byte) (stopBit : Bool) (s : State) : State :=
  if s.link.held then s else if stopBit then takeCharacter c s else framingError s

/-- The gap timer expires when more than 5 ms of wall time have passed since it last started (R183; log
entry 18). -/
def expireGap (s : State) : State :=
  match s.link.receiver with
  | .assembling _ since =>
    if Config.gapTime < wallSince s.clock.wallTime since then
      countLink (fun t => { t with timeouts := bump t.timeouts }) (setReceiver .hunting s)
    else s
  | .hunting => s
  | .broken => s

/-- A break (R183); nothing is taken from the line while RESET IN is held (R192). -/
def takeBreak (s : State) : State :=
  if s.link.held then s
  else
    match s.link.receiver with
    | .broken => s
    | .hunting => countLink (fun t => { t with breaks := bump t.breaks }) (setReceiver .broken s)
    | .assembling _ _ => countLink (fun t => { t with breaks := bump t.breaks }) (setReceiver .broken s)

/-- The line is high again after a break (R183). -/
def endBreak (s : State) : State :=
  match s.link.receiver with
  | .broken => setReceiver .hunting s
  | .hunting => s
  | .assembling _ _ => s

/-- The end of the frame being sent: IDLE, and the next choice (R186). -/
def endTransmit (s : State) : State :=
  if s.link.tx.isSome then pump (updLink (fun k => { k with tx := none }) s) else s

/-- A whole request frame reaches the link (log entry 2): one whose payload LENGTH cannot count is a
length error (R183; log entry 17); any other is completed (R184). -/
def submitFrame (f : Frame) (s : State) : State :=
  if s.link.held then s
  else if 1024 < f.payload.length then countLink (fun t => { t with length := bump t.length }) s
  else completeRequest f s

/-! ## Power-on and RESET IN (R192) -/

/-- The part right after power-on with the levels of its pins (R165, R175, R182, R192): State.reset with
those levels; what waits in the model's queue and the count of free choices stay. -/
def poweredOn (resetIn : Bool) (rate : LineRate) (stopIn readyA readyB : Bool) (s : State) : State :=
  let s1 : State :=
    { State.reset with
      stop := { active := stopIn, line := stopIn }
      lanes := { laneA := { ready := readyA }, laneB := { ready := readyB } }
      link := { rate := rate, held := resetIn }
      pending := s.pending
      freeCount := s.freeCount }
  if stopIn then
    queueNotice (.stop .powerOn true true 0 0 .stopped) s1
  else s1

/-- RESET IN is released (R192). -/
def releaseResetIn (s : State) : State := choose (updLink (fun k => { k with held := false }) s)

end Sys2Proof.Machine
end

