-- ==== Sys2Proof/Machine/Events.lean ====
section
/-! DEFINITION. The operations behind the event commands: the wall millisecond, the edges of SYNC IN, due
items, exchanges and timers (spec 03 to 06, 08). Each event ends with the transmitter's choice (R186). -/

namespace Sys2Proof.Machine

/-! ## Time (R79, R82, R83, R84) -/

/-- One mute-ramp step of every channel (R9). -/
def stepRamps (s : State) : State :=
  mapChans (fun c ch => { ch with atten := rampToward (rampInForce s c) (rampGoal s c) ch.atten }) s

/-- Wall time advances by 1 ms (R79); the new millisecond has seen no exchange begin (R116). -/
def tickWall (s : State) : State :=
  updSurf (fun u => { u with begun := false })
    (updClock (fun k => { k with wallTime := (k.wallTime + 1) % Config.wallMod }) s)

/-- The divider count of a RUNNING clock on the INTERNAL source rises by one, up to D (R82). -/
def countDivider (s : State) : State :=
  if s.clock.state = .running ∧ s.clock.source = .internal then
    updClock (fun k => { k with divCount := min k.divisor (k.divCount + 1) }) s
  else s

/-- Whether the clock runs on FREEWHEEL (R84). -/
def isFreewheeling (s : State) : Bool := s.clock.state == .running && s.clock.source == .freewheel

/-- What a wall millisecond does: ramp steps, the divider count, and in FREEWHEEL an advance of 1, before
or after the ramp steps as the free value says (R9, R79, R82, R84; log entry 9). An event of a command of its own that
becomes due at this millisecond, such as a WALL-base mute or the advance of the INTERNAL source, is taken after the
ramp steps, of the two orders R10 allows (DESIGN CHOICE, log entry 44). -/
def wallMillisecond (s : State) : State :=
  let s1 := tickWall s
  if isFreewheeling s1 then
    if Config.rampFirst s1.freeCount then settle (advance 1 (stepRamps (tickFree s1)))
    else stepRamps (settle (advance 1 (tickFree s1)))
  else stepRamps (countDivider s1)

/-- The divider count reaches D (R82). -/
def expireDivider (s : State) : State :=
  if s.clock.state = .running ∧ s.clock.source = .internal ∧ s.clock.divisor ≤ s.clock.divCount then
    settle (advance 1 (updClock (fun k => { k with divCount := 0 }) s))
  else s

/-- The pulse-loss timer is armed from now (R84). -/
def armLoss (s : State) : State := updClock (fun k => { k with lossTimer := some k.wallTime }) s

/-- A counted edge re-arms the timer and advances show time by W (R83). -/
def countEdge (s : State) : State := advance s.clock.weight (armLoss s)

/-- A qualifying edge in FREEWHEEL: the source becomes PULSE, show time advances by W, the timer is
re-armed, PULSE_REGAINED is queued (R84). Where the advance saturates, that notice stands after SATURATED and
carries the state HELD (DEDUCED, log entry 14). -/
def regainPulse (s : State) : State :=
  clockNotice .pulseRegained (countEdge (updClock (fun k => { k with source := .pulse }) s))

/-- An edge of SYNC IN (R83, R84). -/
def takeEdge (rising : Bool) (s : State) : State :=
  if rising = s.clock.rising ∧ s.clock.state = .running then
    match s.clock.source with
    | .internal => s
    | .pulse => settle (countEdge s)
    | .freewheel => settle (regainPulse s)
  else s

/-- The expiry of the pulse-loss timer, when it has run its time (R84). -/
def takeLoss (s : State) : State :=
  if s.clock.state = .running ∧ s.clock.source = .pulse ∧ lossDue s.clock = true then expireLoss s else s

/-! ## Due items as events of their own (R56, R64, R107, R108) -/

/-- A DELAYED move starts when its due time is reached, in its turn (R55, R56, R61, R71). -/
def takeStart (k : Slot) (s : State) : State :=
  match s.moves[k] with
  | none => s
  | some mv => 
    if mv.phase = .delayed ∧ isDue mv s = true ∧ mayTake mv.timeBase (.start k) s = true then
      settle (startDelayed k s)
    else s

/-- A RUNNING move's traversal ends when its due time is reached, in its turn (R64, R65, R71). -/
def takeEnd (k : Slot) (s : State) : State :=
  match s.moves[k] with
  | none => s
  | some mv => 
    if mv.phase ≠ .delayed ∧ isDue mv s = true ∧ mayTake mv.timeBase (.finish k) s = true then
      settle (endTraversal k s)
    else s

/-- The end watch expires when its count is 0 (R108). -/
def takeWatch (s : State) : State := settle (expireEndWatch s.clock.showTime s)

/-- The follow slot expires when its due time is reached (R107). -/
def takeFollow (s : State) : State :=
  match s.play.follow with
  | some due => if due ≤ s.clock.showTime then settle (expireFollow s) else s
  | none => s

/-! ## The surface bus (R116, R118, R157) -/

/-- An exchange begins at an even millisecond of wall time, one in each (R116, R117); while RESET IN is
held the part sends nothing (R192). -/
def beginExchange (s : State) : State :=
  if s.link.held = true ∨ s.surf.exchange.isSome ∨ s.surf.begun = true ∨ s.clock.wallTime % 2 ≠ 0 then s
  else
    match polledModule s with
    | some m => startExchange m s
    | none => s

/-- A reply arrives complete within the window: a good one is the outcome of the exchange (R116, R118,
R120, R121). Any other is no outcome, and the miss is counted when the window closes (log entry 19).
Without an exchange in progress a reply is discarded, and so it is while RESET IN is held (R118, R192). -/
def takeReply (bytes : List Byte) (s : State) : State :=
  if s.link.held = true then s
  else
    match s.surf.exchange with
    | none => s
    | some x =>
      match parseReply x.module bytes with
      | some rs => settle (takeGoodReply x rs (endExchange s))
      | none => s

/-- The reply window closes without a good reply (R118). -/
def closeWindow (s : State) : State :=
  match s.surf.exchange with
  | none => s
  | some x => settle (takeMiss x.module (endExchange s))

/-- A DRIVE phase ends 400 ms after it was entered (R157). -/
def endDrive (m : ModuleId) (s : State) : State :=
  let r := s.surf.modules[m]
  match r.driveTimer with
  | none => s
  | some entered =>
    if Config.driveTime ≤ wallSince s.clock.wallTime entered then
      match r.phase with
      | .driveLow => updModule m (fun r => { r with phase := .sampleLow, driveTimer := none }) s
      | .driveHigh => updModule m (fun r => { r with phase := .sampleHigh, driveTimer := none }) s
      | .none => s
      | .sampleLow => s
      | .sampleHigh => s
    else s

/-! ## Output lanes -/

/-- A frame start at its scheduled wall time (R166, R168). -/
def takeFrameStart (s : State) : State := if frameStartDue s then startFrames s else s

/-- A frame completion on a lane whose frame is in flight (R168). -/
def takeCompletion (id : LaneId) (s : State) : State :=
  if (laneOf id s.lanes).inFlight.isSome then completeFrame id s else s

end Sys2Proof.Machine
end

