-- ==== Sys2Proof/Machine/EventCommands.lean ====
section
/-! DEFINITION. The meaning of each event command. An event whose condition does not hold changes nothing
(log entry 4). An event that can queue a notice ends with the transmitter's choice (R186): one choice, after the
whole event, however many notices it queues (DESIGN CHOICE, log entry 41). -/

namespace Sys2Proof.Machine

/-- CHARACTER_RECEIVED (R183). -/
def execCharacterReceived (char : Byte) (stopBit : Bool) (s : State) : Outcome := .next (receiveCharacter char stopBit s)

/-- GAP_TIMER_EXPIRY (R183). -/
def execGapTimerExpiry (s : State) : Outcome := .next (expireGap s)

/-- BREAK (R183). -/
def execLineBreak (s : State) : Outcome := .next (takeBreak s)

/-- TRANSMIT_END (R186). -/
def execTransmitEnd (s : State) : Outcome := .next (endTransmit s)

/-- POWER_ON (R192). -/
def execPowerOn (resetIn : Bool) (rate : LineRate) (stopIn readyA readyB : Bool) (s : State) : Outcome := .next (choose (poweredOn resetIn rate stopIn readyA readyB s))

/-- WALL_MILLISECOND (R79). -/
def execWallMillisecond (s : State) : Outcome := .next (choose (wallMillisecond s))

/-- DIVIDER_COUNT (R82). -/
def execDividerCount (s : State) : Outcome := .next (choose (expireDivider s))

/-- SYNC_IN_EDGE (R83). -/
def execSyncInEdge (rising : Bool) (s : State) : Outcome := .next (choose (takeEdge rising s))

/-- PULSE_LOSS (R84). -/
def execPulseLoss (s : State) : Outcome := .next (choose (takeLoss s))

/-- START_EVENT (R56). -/
def execStartEvent (slot : Slot) (s : State) : Outcome := .next (choose (takeStart slot s))

/-- TRAVERSAL_END (R64). -/
def execTraversalEnd (slot : Slot) (s : State) : Outcome := .next (choose (takeEnd slot s))

/-- END_WATCH_EXPIRY (R108). -/
def execEndWatchExpiry (s : State) : Outcome := .next (choose (takeWatch s))

/-- FOLLOW_EXPIRY (R107). -/
def execFollowExpiry (s : State) : Outcome := .next (choose (takeFollow s))

/-- EXCHANGE_START (R117). -/
def execExchangeStart (s : State) : Outcome := .next (beginExchange s)

/-- GOOD_REPLY (R121). -/
def execGoodReply (reply : List Byte) (s : State) : Outcome := .next (choose (takeReply reply s))

/-- REPLY_WINDOW_EXPIRY (R118). -/
def execReplyWindowExpiry (s : State) : Outcome := .next (choose (closeWindow s))

/-- DRIVE_TIMER_EXPIRY (R157). -/
def execDriveTimerExpiry (module : ModuleId) (s : State) : Outcome := .next (endDrive module s)

/-- FRAME_START (R168). -/
def execFrameStart (s : State) : Outcome := .next (choose (takeFrameStart s))

/-- FRAME_COMPLETION (R168). -/
def execFrameCompletion (lane : LaneId) (s : State) : Outcome := .next (choose (takeCompletion lane s))

/-- LANE_READY_EDGE (R167). -/
def execLaneReadyEdge (lane : LaneId) (rising : Bool) (s : State) : Outcome := .next (choose (readyEdge lane rising s))

/-- STOP_IN_ASSERTED (R178). An IDLE transmitter chooses once, after all the notices of the entry are queued; R186
does not say whether the choice falls at the first of them (DESIGN CHOICE, log entry 41). -/
def execStopInAsserted (s : State) : Outcome := .next (choose (assertStopIn s))

/-- STOP_IN_RELEASED (R178). -/
def execStopInReleased (s : State) : Outcome := .next (choose (releaseStopIn s))

/-- LINE_HIGH_AFTER_BREAK (R183). -/
def execLineHighAfterBreak (s : State) : Outcome := .next (endBreak s)

/-- RESET_IN_RELEASED (R192). -/
def execResetInReleased (s : State) : Outcome := .next (releaseResetIn s)

end Sys2Proof.Machine
end

