-- ==== Sys2Proof/Machine/RequestCommands.lean ====
section
/-! DEFINITION. The meaning of each request command: its frame, whole, reaches the control link, which
queues it, dispatches it and answers it (spec 11, R184 to R186; log entry 2). -/

namespace Sys2Proof.Machine

/-- IDENTIFY (R190): the request 01h. -/
def execIdentify (tag : Byte) (payload : List Byte) (s : State) : Outcome :=
  .next (submitFrame ⟨0x01, tag, payload⟩ s)

/-- RESET (R191): the request 02h. -/
def execReset (tag : Byte) (payload : List Byte) (s : State) : Outcome :=
  .next (submitFrame ⟨0x02, tag, payload⟩ s)

/-- LINK_STATUS (R189): the request 03h. -/
def execLinkStatus (tag : Byte) (payload : List Byte) (s : State) : Outcome :=
  .next (submitFrame ⟨0x03, tag, payload⟩ s)

/-- NOTICE_ENABLE (R188): the request 04h. -/
def execNoticeEnable (tag : Byte) (payload : List Byte) (s : State) : Outcome :=
  .next (submitFrame ⟨0x04, tag, payload⟩ s)

/-- BAD_TYPE (R185): a frame whose TYPE names no request. -/
def execBadType (code tag : Byte) (payload : List Byte) (s : State) : Outcome :=
  .next (submitFrame ⟨code, tag, payload⟩ s)

/-- CHANNEL_CONFIG (R34): the request 10h. -/
def execChannelConfig (tag : Byte) (payload : List Byte) (s : State) : Outcome :=
  .next (submitFrame ⟨0x10, tag, payload⟩ s)

/-- CHANNEL_QUERY (R35): the request 11h. -/
def execChannelQuery (tag : Byte) (payload : List Byte) (s : State) : Outcome :=
  .next (submitFrame ⟨0x11, tag, payload⟩ s)

/-- LEVEL_SET (R36): the request 12h. -/
def execLevelSet (tag : Byte) (payload : List Byte) (s : State) : Outcome :=
  .next (submitFrame ⟨0x12, tag, payload⟩ s)

/-- TRIM_SET (R38): the request 13h. -/
def execTrimSet (tag : Byte) (payload : List Byte) (s : State) : Outcome :=
  .next (submitFrame ⟨0x13, tag, payload⟩ s)

/-- MUTE_SET (R39): the request 14h. -/
def execMuteSet (tag : Byte) (payload : List Byte) (s : State) : Outcome :=
  .next (submitFrame ⟨0x14, tag, payload⟩ s)

/-- PAIR_LINK (R40): the request 15h. -/
def execPairLink (tag : Byte) (payload : List Byte) (s : State) : Outcome :=
  .next (submitFrame ⟨0x15, tag, payload⟩ s)

/-- PAIR_UNLINK (R40): the request 15h. -/
def execPairUnlink (tag : Byte) (payload : List Byte) (s : State) : Outcome :=
  .next (submitFrame ⟨0x15, tag, payload⟩ s)

/-- GROUP_SET (R41): the request 16h. -/
def execGroupSet (tag : Byte) (payload : List Byte) (s : State) : Outcome :=
  .next (submitFrame ⟨0x16, tag, payload⟩ s)

/-- GROUP_MEMBERS (R42): the request 17h. -/
def execGroupMembers (tag : Byte) (payload : List Byte) (s : State) : Outcome :=
  .next (submitFrame ⟨0x17, tag, payload⟩ s)

/-- SET_WRITE (R43): the request 18h. -/
def execSetWrite (tag : Byte) (payload : List Byte) (s : State) : Outcome :=
  .next (submitFrame ⟨0x18, tag, payload⟩ s)

/-- SET_READ (R44): the request 19h. -/
def execSetRead (tag : Byte) (payload : List Byte) (s : State) : Outcome :=
  .next (submitFrame ⟨0x19, tag, payload⟩ s)

/-- TAPER_WRITE (R16): the request 1Ah. -/
def execTaperWrite (tag : Byte) (payload : List Byte) (s : State) : Outcome :=
  .next (submitFrame ⟨0x1A, tag, payload⟩ s)

/-- TAPER_READ (R17): the request 1Bh. -/
def execTaperRead (tag : Byte) (payload : List Byte) (s : State) : Outcome :=
  .next (submitFrame ⟨0x1B, tag, payload⟩ s)

/-- MOVE_START (R74): the request 20h. -/
def execMoveStart (tag : Byte) (payload : List Byte) (s : State) : Outcome :=
  .next (submitFrame ⟨0x20, tag, payload⟩ s)

/-- MOVE_CANCEL (R76): the request 21h. -/
def execMoveCancel (tag : Byte) (payload : List Byte) (s : State) : Outcome :=
  .next (submitFrame ⟨0x21, tag, payload⟩ s)

/-- MOVE_QUERY (R77): the request 22h. -/
def execMoveQuery (tag : Byte) (payload : List Byte) (s : State) : Outcome :=
  .next (submitFrame ⟨0x22, tag, payload⟩ s)

/-- CLOCK_SOURCE (R87): the request 28h. -/
def execClockSource (tag : Byte) (payload : List Byte) (s : State) : Outcome :=
  .next (submitFrame ⟨0x28, tag, payload⟩ s)

/-- CLOCK_RATE (R87): the request 29h. -/
def execClockRate (tag : Byte) (payload : List Byte) (s : State) : Outcome :=
  .next (submitFrame ⟨0x29, tag, payload⟩ s)

/-- CLOCK_RUN (R88): the request 2Ah. -/
def execClockRun (tag : Byte) (payload : List Byte) (s : State) : Outcome :=
  .next (submitFrame ⟨0x2A, tag, payload⟩ s)

/-- CLOCK_HOLD (R88): the request 2Bh. -/
def execClockHold (tag : Byte) (payload : List Byte) (s : State) : Outcome :=
  .next (submitFrame ⟨0x2B, tag, payload⟩ s)

/-- CLOCK_STEP (R89): the request 2Ch. -/
def execClockStep (tag : Byte) (payload : List Byte) (s : State) : Outcome :=
  .next (submitFrame ⟨0x2C, tag, payload⟩ s)

/-- CLOCK_LOCATE (R90): the request 2Dh. -/
def execClockLocate (tag : Byte) (payload : List Byte) (s : State) : Outcome :=
  .next (submitFrame ⟨0x2D, tag, payload⟩ s)

/-- CLOCK_QUERY (R91): the request 2Eh. -/
def execClockQuery (tag : Byte) (payload : List Byte) (s : State) : Outcome :=
  .next (submitFrame ⟨0x2E, tag, payload⟩ s)

/-- CUE_WRITE (R94): the request 30h. -/
def execCueWrite (tag : Byte) (payload : List Byte) (s : State) : Outcome :=
  .next (submitFrame ⟨0x30, tag, payload⟩ s)

/-- CUE_READ (R96): the request 31h. -/
def execCueRead (tag : Byte) (payload : List Byte) (s : State) : Outcome :=
  .next (submitFrame ⟨0x31, tag, payload⟩ s)

/-- CUE_DELETE (R97): the request 32h. -/
def execCueDelete (tag : Byte) (payload : List Byte) (s : State) : Outcome :=
  .next (submitFrame ⟨0x32, tag, payload⟩ s)

/-- CUE_CLEAR (R98): the request 33h. -/
def execCueClear (tag : Byte) (payload : List Byte) (s : State) : Outcome :=
  .next (submitFrame ⟨0x33, tag, payload⟩ s)

/-- GO (R102): the request 34h. -/
def execGo (tag : Byte) (payload : List Byte) (s : State) : Outcome :=
  .next (submitFrame ⟨0x34, tag, payload⟩ s)

/-- BACK (R111): the request 35h. -/
def execBack (tag : Byte) (payload : List Byte) (s : State) : Outcome :=
  .next (submitFrame ⟨0x35, tag, payload⟩ s)

/-- JUMP (R106): the request 36h. -/
def execJump (tag : Byte) (payload : List Byte) (s : State) : Outcome :=
  .next (submitFrame ⟨0x36, tag, payload⟩ s)

/-- PLAYBACK_QUERY (R115): the request 37h. -/
def execPlaybackQuery (tag : Byte) (payload : List Byte) (s : State) : Outcome :=
  .next (submitFrame ⟨0x37, tag, payload⟩ s)

/-- PLAYBACK_CONFIG (R114): the request 38h. -/
def execPlaybackConfig (tag : Byte) (payload : List Byte) (s : State) : Outcome :=
  .next (submitFrame ⟨0x38, tag, payload⟩ s)

/-- SURFACE_CONFIG (R133): the request 40h. -/
def execSurfaceConfig (tag : Byte) (payload : List Byte) (s : State) : Outcome :=
  .next (submitFrame ⟨0x40, tag, payload⟩ s)

/-- BANK_SET (R128): the request 41h. -/
def execBankSet (tag : Byte) (payload : List Byte) (s : State) : Outcome :=
  .next (submitFrame ⟨0x41, tag, payload⟩ s)

/-- SURFACE_QUERY (R134): the request 42h. -/
def execSurfaceQuery (tag : Byte) (payload : List Byte) (s : State) : Outcome :=
  .next (submitFrame ⟨0x42, tag, payload⟩ s)

/-- CALIBRATE (R156): the request 43h. -/
def execCalibrate (tag : Byte) (payload : List Byte) (s : State) : Outcome :=
  .next (submitFrame ⟨0x43, tag, payload⟩ s)

/-- LATCH_RELEASE (R148): the request 44h. -/
def execLatchRelease (tag : Byte) (payload : List Byte) (s : State) : Outcome :=
  .next (submitFrame ⟨0x44, tag, payload⟩ s)

/-- LANE_CONFIG (R171): the request 48h. -/
def execLaneConfig (tag : Byte) (payload : List Byte) (s : State) : Outcome :=
  .next (submitFrame ⟨0x48, tag, payload⟩ s)

/-- LANE_QUERY (R172): the request 49h. -/
def execLaneQuery (tag : Byte) (payload : List Byte) (s : State) : Outcome :=
  .next (submitFrame ⟨0x49, tag, payload⟩ s)

/-- STOP (R178): the request 50h. -/
def execStop (tag : Byte) (payload : List Byte) (s : State) : Outcome :=
  .next (submitFrame ⟨0x50, tag, payload⟩ s)

/-- STOP_CLEAR (R178): the request 51h. -/
def execStopClear (tag : Byte) (payload : List Byte) (s : State) : Outcome :=
  .next (submitFrame ⟨0x51, tag, payload⟩ s)

/-- STOP_CONFIG (R180): the request 52h. -/
def execStopConfig (tag : Byte) (payload : List Byte) (s : State) : Outcome :=
  .next (submitFrame ⟨0x52, tag, payload⟩ s)

end Sys2Proof.Machine
end

