-- ==== Sys2Proof/Machine/Dispatch.lean ====
section
/-! DEFINITION. The effect of one command: one arm for each row of spec/opcode_table.json. -/

namespace Sys2Proof.Machine

def exec (i : Instr) (s : State) : Host.Outcome State Fault Refusal :=
  match i with
  | .identify tag payload => Sys2Proof.Machine.execIdentify tag payload s
  | .reset tag payload => Sys2Proof.Machine.execReset tag payload s
  | .linkStatus tag payload => Sys2Proof.Machine.execLinkStatus tag payload s
  | .noticeEnable tag payload => Sys2Proof.Machine.execNoticeEnable tag payload s
  | .badType code tag payload => Sys2Proof.Machine.execBadType code tag payload s
  | .channelConfig tag payload => Sys2Proof.Machine.execChannelConfig tag payload s
  | .channelQuery tag payload => Sys2Proof.Machine.execChannelQuery tag payload s
  | .levelSet tag payload => Sys2Proof.Machine.execLevelSet tag payload s
  | .trimSet tag payload => Sys2Proof.Machine.execTrimSet tag payload s
  | .muteSet tag payload => Sys2Proof.Machine.execMuteSet tag payload s
  | .pairLink tag payload => Sys2Proof.Machine.execPairLink tag payload s
  | .pairUnlink tag payload => Sys2Proof.Machine.execPairUnlink tag payload s
  | .groupSet tag payload => Sys2Proof.Machine.execGroupSet tag payload s
  | .groupMembers tag payload => Sys2Proof.Machine.execGroupMembers tag payload s
  | .setWrite tag payload => Sys2Proof.Machine.execSetWrite tag payload s
  | .setRead tag payload => Sys2Proof.Machine.execSetRead tag payload s
  | .taperWrite tag payload => Sys2Proof.Machine.execTaperWrite tag payload s
  | .taperRead tag payload => Sys2Proof.Machine.execTaperRead tag payload s
  | .moveStart tag payload => Sys2Proof.Machine.execMoveStart tag payload s
  | .moveCancel tag payload => Sys2Proof.Machine.execMoveCancel tag payload s
  | .moveQuery tag payload => Sys2Proof.Machine.execMoveQuery tag payload s
  | .clockSource tag payload => Sys2Proof.Machine.execClockSource tag payload s
  | .clockRate tag payload => Sys2Proof.Machine.execClockRate tag payload s
  | .clockRun tag payload => Sys2Proof.Machine.execClockRun tag payload s
  | .clockHold tag payload => Sys2Proof.Machine.execClockHold tag payload s
  | .clockStep tag payload => Sys2Proof.Machine.execClockStep tag payload s
  | .clockLocate tag payload => Sys2Proof.Machine.execClockLocate tag payload s
  | .clockQuery tag payload => Sys2Proof.Machine.execClockQuery tag payload s
  | .cueWrite tag payload => Sys2Proof.Machine.execCueWrite tag payload s
  | .cueRead tag payload => Sys2Proof.Machine.execCueRead tag payload s
  | .cueDelete tag payload => Sys2Proof.Machine.execCueDelete tag payload s
  | .cueClear tag payload => Sys2Proof.Machine.execCueClear tag payload s
  | .go tag payload => Sys2Proof.Machine.execGo tag payload s
  | .back tag payload => Sys2Proof.Machine.execBack tag payload s
  | .jump tag payload => Sys2Proof.Machine.execJump tag payload s
  | .playbackQuery tag payload => Sys2Proof.Machine.execPlaybackQuery tag payload s
  | .playbackConfig tag payload => Sys2Proof.Machine.execPlaybackConfig tag payload s
  | .surfaceConfig tag payload => Sys2Proof.Machine.execSurfaceConfig tag payload s
  | .bankSet tag payload => Sys2Proof.Machine.execBankSet tag payload s
  | .surfaceQuery tag payload => Sys2Proof.Machine.execSurfaceQuery tag payload s
  | .calibrate tag payload => Sys2Proof.Machine.execCalibrate tag payload s
  | .latchRelease tag payload => Sys2Proof.Machine.execLatchRelease tag payload s
  | .laneConfig tag payload => Sys2Proof.Machine.execLaneConfig tag payload s
  | .laneQuery tag payload => Sys2Proof.Machine.execLaneQuery tag payload s
  | .stop tag payload => Sys2Proof.Machine.execStop tag payload s
  | .stopClear tag payload => Sys2Proof.Machine.execStopClear tag payload s
  | .stopConfig tag payload => Sys2Proof.Machine.execStopConfig tag payload s
  | .characterReceived char stopBit => Sys2Proof.Machine.execCharacterReceived char stopBit s
  | .gapTimerExpiry => Sys2Proof.Machine.execGapTimerExpiry s
  | .lineBreak => Sys2Proof.Machine.execLineBreak s
  | .transmitEnd => Sys2Proof.Machine.execTransmitEnd s
  | .powerOn resetIn rate stopIn readyA readyB => Sys2Proof.Machine.execPowerOn resetIn rate stopIn readyA readyB s
  | .wallMillisecond => Sys2Proof.Machine.execWallMillisecond s
  | .dividerCount => Sys2Proof.Machine.execDividerCount s
  | .syncInEdge rising => Sys2Proof.Machine.execSyncInEdge rising s
  | .pulseLoss => Sys2Proof.Machine.execPulseLoss s
  | .startEvent slot => Sys2Proof.Machine.execStartEvent slot s
  | .traversalEnd slot => Sys2Proof.Machine.execTraversalEnd slot s
  | .endWatchExpiry => Sys2Proof.Machine.execEndWatchExpiry s
  | .followExpiry => Sys2Proof.Machine.execFollowExpiry s
  | .exchangeStart => Sys2Proof.Machine.execExchangeStart s
  | .goodReply reply => Sys2Proof.Machine.execGoodReply reply s
  | .replyWindowExpiry => Sys2Proof.Machine.execReplyWindowExpiry s
  | .driveTimerExpiry module => Sys2Proof.Machine.execDriveTimerExpiry module s
  | .frameStart => Sys2Proof.Machine.execFrameStart s
  | .frameCompletion lane => Sys2Proof.Machine.execFrameCompletion lane s
  | .laneReadyEdge lane rising => Sys2Proof.Machine.execLaneReadyEdge lane rising s
  | .stopInAsserted => Sys2Proof.Machine.execStopInAsserted s
  | .stopInReleased => Sys2Proof.Machine.execStopInReleased s
  | .lineHighAfterBreak => Sys2Proof.Machine.execLineHighAfterBreak s
  | .resetInReleased => Sys2Proof.Machine.execResetInReleased s

end Sys2Proof.Machine
end

