-- ==== Sys2Proof/Safety.lean ====
section
/-! DEFINITION. What claims are stated in: the frame a request command stands for, an idle link and its
answer, what the work of one block leaves alone, and the laws of the device. -/

namespace Sys2Proof.Machine

/-! ## Safe steps -/

/-- A step is safe when it ends in a next state. The part has no fault and refuses no command. -/
def SafeStep (s : State) : Prop := ∃ t, step s = .next t

/-! ## Requests and answers -/

/-- The frame that a request command stands for; none for an event command. -/
def frameOfCommand : Instr → Option Frame
  | .identify t p => some ⟨0x01, t, p⟩
  | .reset t p => some ⟨0x02, t, p⟩
  | .linkStatus t p => some ⟨0x03, t, p⟩
  | .noticeEnable t p => some ⟨0x04, t, p⟩
  | .badType c t p => some ⟨c, t, p⟩
  | .channelConfig t p => some ⟨0x10, t, p⟩
  | .channelQuery t p => some ⟨0x11, t, p⟩
  | .levelSet t p => some ⟨0x12, t, p⟩
  | .trimSet t p => some ⟨0x13, t, p⟩
  | .muteSet t p => some ⟨0x14, t, p⟩
  | .pairLink t p => some ⟨0x15, t, p⟩
  | .pairUnlink t p => some ⟨0x15, t, p⟩
  | .groupSet t p => some ⟨0x16, t, p⟩
  | .groupMembers t p => some ⟨0x17, t, p⟩
  | .setWrite t p => some ⟨0x18, t, p⟩
  | .setRead t p => some ⟨0x19, t, p⟩
  | .taperWrite t p => some ⟨0x1A, t, p⟩
  | .taperRead t p => some ⟨0x1B, t, p⟩
  | .moveStart t p => some ⟨0x20, t, p⟩
  | .moveCancel t p => some ⟨0x21, t, p⟩
  | .moveQuery t p => some ⟨0x22, t, p⟩
  | .clockSource t p => some ⟨0x28, t, p⟩
  | .clockRate t p => some ⟨0x29, t, p⟩
  | .clockRun t p => some ⟨0x2A, t, p⟩
  | .clockHold t p => some ⟨0x2B, t, p⟩
  | .clockStep t p => some ⟨0x2C, t, p⟩
  | .clockLocate t p => some ⟨0x2D, t, p⟩
  | .clockQuery t p => some ⟨0x2E, t, p⟩
  | .cueWrite t p => some ⟨0x30, t, p⟩
  | .cueRead t p => some ⟨0x31, t, p⟩
  | .cueDelete t p => some ⟨0x32, t, p⟩
  | .cueClear t p => some ⟨0x33, t, p⟩
  | .go t p => some ⟨0x34, t, p⟩
  | .back t p => some ⟨0x35, t, p⟩
  | .jump t p => some ⟨0x36, t, p⟩
  | .playbackQuery t p => some ⟨0x37, t, p⟩
  | .playbackConfig t p => some ⟨0x38, t, p⟩
  | .surfaceConfig t p => some ⟨0x40, t, p⟩
  | .bankSet t p => some ⟨0x41, t, p⟩
  | .surfaceQuery t p => some ⟨0x42, t, p⟩
  | .calibrate t p => some ⟨0x43, t, p⟩
  | .latchRelease t p => some ⟨0x44, t, p⟩
  | .laneConfig t p => some ⟨0x48, t, p⟩
  | .laneQuery t p => some ⟨0x49, t, p⟩
  | .stop t p => some ⟨0x50, t, p⟩
  | .stopClear t p => some ⟨0x51, t, p⟩
  | .stopConfig t p => some ⟨0x52, t, p⟩
  | .characterReceived _ _ => none
  | .gapTimerExpiry => none
  | .lineBreak => none
  | .transmitEnd => none
  | .powerOn _ _ _ _ _ => none
  | .wallMillisecond => none
  | .dividerCount => none
  | .syncInEdge _ => none
  | .pulseLoss => none
  | .startEvent _ => none
  | .traversalEnd _ => none
  | .endWatchExpiry => none
  | .followExpiry => none
  | .exchangeStart => none
  | .goodReply _ => none
  | .replyWindowExpiry => none
  | .driveTimerExpiry _ => none
  | .frameStart => none
  | .frameCompletion _ => none
  | .laneReadyEdge _ _ => none
  | .stopInAsserted => none
  | .stopInReleased => none
  | .lineHighAfterBreak => none
  | .resetInReleased => none

/-- The link holds nothing to send but notices and nothing to dispatch, and RESET IN is released. -/
structure LinkIdle (s : State) : Prop where
  released : s.link.held = false
  queue : s.link.rxQueue = []
  reply : s.link.reply = none
  tx : s.link.tx = none

/-- The count of frames received after one more (R189). -/
def received (s : State) : State := updLink (Link.count fun t => { t with received := bump t.received }) s

/-- The transmitter has begun to send the reply to a frame (R185, R186). -/
def sending (f : Frame) (payload : List Byte) (s : State) : State :=
  updLink (fun k => { k with tx := some (replyTo f payload).wire }) s

/-- The answer to a request on an idle link: the request is carried out on the state that has counted its
frame, and its reply begins to be sent. -/
def answered (f : Frame) (s : State) : State :=
  sending f (serve f (received s)).2 (serve f (received s)).1

/-- The answer to a request that does no work: the frame is counted and the reply is sent. -/
def answeredOnly (f : Frame) (payload : List Byte) (s : State) : State := sending f payload (received s)

/-! ## What work leaves alone -/

/-- A link changed by nothing but queuing notices (R187) and, while the steps of one instant are carried out, by the
retirements that wait for its end (R71; log entry 42). -/
def QueuesOnly (k k' : Link) : Prop :=
  ∃ (ns : List Notice) (waiting : Option (List Notice)), waiting.isSome = k.instant.isSome ∧
    k' = { ns.foldl (fun k n => k.post n) k with instant := waiting }

/-- The settings of a channel: trim, ramp length, group set and the attributes (R24). -/
def Channel.settings (ch : Channel) :
    Int × Nat × BitVec 8 × TaperSel × TakeoverMode × ReleasePolicy × Bool × Bool :=
  (ch.trim, ch.ramp, ch.groups, ch.taper, ch.mode, ch.policy, ch.safe, ch.announce)

/-- What the work of the Move Engine, the Takeover Unit, the Playback Controller, the Show Clock and the
Surface Controller leaves alone: the channels' settings, the pair links, the sets, the taper tables, the
lanes, the stop, the clock's settings and wall time, the back time, the model's queue, and the link but
for the notices it queues. -/
structure Keeps (s t : State) : Prop where
  settings : ∀ c : Chan, t.chans[c].settings = s.chans[c].settings
  pairLinked : t.pairLinked = s.pairLinked
  sets : t.sets = s.sets
  taperA : t.taperA = s.taperA
  taperB : t.taperB = s.taperB
  lanes : t.lanes = s.lanes
  stop : t.stop = s.stop
  wallTime : t.clock.wallTime = s.clock.wallTime
  divisor : t.clock.divisor = s.clock.divisor
  weight : t.clock.weight = s.clock.weight
  rising : t.clock.rising = s.clock.rising
  backTime : t.play.backTime = s.play.backTime
  pending : t.pending = s.pending
  link : QueuesOnly s.link t.link

/-- The playback state but for its timers: the store, standby, the firing counter, the recall stack. -/
def Playback.plan (p : Playback) : List Cue × Option Nat × Nat × List RecallRecord :=
  (p.store, p.standby, p.firing, p.recalls)

/-- What moves and hand-backs leave alone besides: the clock, the surface and the plan. -/
structure KeepsShow (s t : State) : Prop extends Keeps s t where
  clock : t.clock = s.clock
  surf : t.surf = s.surf
  plan : t.play.plan = s.play.plan

/-- What the surface's work leaves alone besides: the clock and the plan. -/
structure KeepsClock (s t : State) : Prop extends Keeps s t where
  clock : t.clock = s.clock
  plan : t.play.plan = s.play.plan

/-- What playback and an advance leave alone besides: the surface. -/
structure KeepsSurface (s t : State) : Prop extends Keeps s t where
  surf : t.surf = s.surf

/-! ## What a request leaves behind -/

/-- The length of a request's payload is the one its TYPE asks for (spec 11, request type codes); a TYPE
that names no request asks for none. -/
def lengthFits (code : Nat) (p : List Byte) : Bool :=
  match code with
  | 0x01 | 0x02 | 0x2A | 0x2B | 0x2E | 0x33 | 0x34 | 0x35 | 0x37 | 0x42 | 0x49 | 0x50 | 0x51 => p.length == 0
  | 0x03 | 0x11 | 0x19 | 0x1B | 0x21 | 0x22 | 0x29 | 0x43 | 0x44 => p.length == 1
  | 0x04 | 0x14 | 0x15 | 0x2C | 0x32 | 0x36 | 0x52 => p.length == 2
  | 0x12 | 0x13 | 0x28 | 0x31 | 0x38 | 0x41 => p.length == 3
  | 0x2D => p.length == 4
  | 0x16 | 0x40 | 0x48 => p.length == 5
  | 0x10 => p.length == 8
  | 0x20 => p.length == 14
  | 0x1A => p.length == 67
  | 0x17 => decide (3 ≤ p.length) && p.length == 3 + ((p[2]?).getD 0).toNat
  | 0x18 => decide (2 ≤ p.length) && p.length == 2 + ((p[1]?).getD 0).toNat
  | 0x30 => decide (10 ≤ p.length) && p.length == 10 + 13 * ((p[9]?).getD 0).toNat
  | _ => true

/-- What a slot holds after the claims of its move on the channels of a list are removed: the count drops
by one for each, and a move left without a claim is gone (R48). -/
def afterRemoval (s : State) (cs : List Chan) (k : Slot) : Option Move :=
  match s.moves[k] with
  | none => none
  | some mv =>
    let n := (cs.filter fun c => claimIs k s.chans[c].claim).length
    if n = 0 then some mv else if mv.claims ≤ n then none else some { mv with claims := mv.claims - n }

/-- The mute attenuation of a channel after the inputs of its mute ramp changed from s to w: where the
change leaves the ramp length in force at 0, its goal; otherwise what it was (R10). -/
def rampAfter (s w : State) (c : Chan) : Int :=
  if (rampGoal s c ≠ rampGoal w c ∨ rampInForce s c ≠ rampInForce w c) ∧ rampInForce w c = 0 then
    rampGoal w c
  else s.chans[c].atten

/-- Whether the operator holds a channel: TOUCHED or LATCHED (R57, R138). -/
def Held (s : State) (c : Chan) : Prop :=
  s.chans[c].ownership = .touched ∨ s.chans[c].ownership = .latched

/-- Whether a move passes over a channel as SAFE (R29). -/
def PassedOver (mv : Move) (s : State) (c : Chan) : Prop :=
  mv.origin.heedsSafe = true ∧ s.chans[c].safe = true

/-- The target of a lane of a move without recorded targets, from the live level v (R20). -/
def targetFrom (mv : Move) (v : Int) : Int :=
  match mv.mode with
  | .abs => mv.value
  | .rel => max (-3072) (min 320 (v + mv.value))

/-- Whether every claim of a channel names a slot that holds a move, as R47 has it. -/
def ClaimsOccupied (s : State) : Prop :=
  (∀ (c : Chan) (cl : Claim), s.chans[c].claim = some cl → s.moves[cl.slot].isSome = true) ∧
    ∀ (g : Grp) (cl : Claim), s.groups[g].claim = some cl → s.moves[cl.slot].isSome = true

/-! ## The laws of claims and of units -/

/-- The slots of the channels and groups whose claim names a slot. -/
def claimCount (s : State) (k : Slot) : Nat :=
  ((allFin 64).filter fun c => claimIs k s.chans[c].claim).length
    + ((allFin 8).filter fun g => claimIs k s.groups[g].claim).length

/-- The law of claims: every claim names a started LEVEL or GROUP move, and every move's claim count is
the number of records whose claim names its slot (R47). -/
structure ClaimLaw (s : State) : Prop where
  chans : ∀ (c : Chan) (cl : Claim), s.chans[c].claim = some cl →
    ∃ mv, s.moves[cl.slot] = some mv ∧ mv.phase ≠ .delayed ∧ mv.kind.isInstant = false
  groups : ∀ (g : Grp) (cl : Claim), s.groups[g].claim = some cl →
    ∃ mv, s.moves[cl.slot] = some mv ∧ mv.phase ≠ .delayed ∧ mv.kind.isInstant = false
  count : ∀ (k : Slot) (mv : Move), s.moves[k] = some mv → mv.claims = claimCount s k

/-- The fields the two channels of a linked pair share (R31). -/
def Channel.shared (ch : Channel) :
    Ownership × Bool × Nat × TaperSel × TakeoverMode × ReleasePolicy × Bool × Bool × BitVec 8 :=
  (ch.ownership, ch.ownMute, ch.ramp, ch.taper, ch.mode, ch.policy, ch.safe, ch.announce, ch.groups)

/-- The law of units: linked channels share the fields of R31, and a channel the operator holds has no
claim (R138). -/
structure UnitLaw (s : State) : Prop where
  pairs : ∀ k : PairId, s.pairLinked[k] = true →
    s.chans[evenOf k].shared = s.chans[oddOf k].shared
  held : ∀ c : Chan, Held s c → s.chans[c].claim = none

/-! ## Fields and frames that statements build -/

/-- An action record's fields fit its 13 bytes and its values may stand together (R46, R74, R193). -/
structure ActionFits (a : Action) : Prop where
  spec : kindAllows a.kind a.spec = true
  value : -32768 ≤ a.value ∧ a.value ≤ 32767
  delay : a.delay < 16777216
  duration : a.duration < 16777216
  count : a.count < 256
  cycle : a.cycle = true → a.duration ≠ 0
  once : a.cycle = false → a.count = 0

/-- A cue that CUE WRITE may carry, its loop counter loaded from the loop count (R92, R94, R95). -/
structure CueFits (c : Cue) : Prop where
  number : 0 < c.number ∧ c.number < 65536
  wait : c.wait < 16777216
  loopCount : c.loopCount < 256 ∧ c.loopCounter = c.loopCount
  loopTarget : c.loopTarget < 65536 ∧ (c.loopCount ≠ 0 → c.loopTarget ≠ 0)
  actions : c.actions.length ≤ 64 ∧ ∀ a ∈ c.actions, ActionFits a

/-- The payload of CUE WRITE: the cue header and the action records (spec 11, section 11.7). -/
def Cue.wire (c : Cue) : List Byte :=
  u16 c.number ++ u8 c.follow.code ++ u24 c.wait ++ u16 c.loopTarget ++ u8 c.loopCount
    ++ u8 c.actions.length ++ c.actions.flatMap Action.bytes

/-- The values of a request's payload, whose length fits, lie in their lists and ranges; where they do not,
the request is refused with BAD_VALUE whatever the state (spec 11, sections 11.3 and 11.7, and each
request's rule). What the state decides as well (CALIBRATE's module against M) is not asked here. -/
def ValuesFit (code : Nat) (p : List Byte) : Prop :=
  match code with
  | 0x03 => ∃ clear : Bool, p = flag clear
  | 0x04 => ∃ m, m < 512 ∧ p = u16 m
  | 0x10 => ∃ (c : Chan) (t : TaperSel) (m : TakeoverMode) (r : ReleasePolicy) (safe announce : Bool) (n : Nat),
      n < 65536 ∧ p = u8 c.val ++ u8 t.code ++ u8 m.code ++ u8 r.code ++ flag safe ++ flag announce ++ u16 n
  | 0x11 => ∃ c : Chan, p = u8 c.val
  | 0x12 | 0x13 => ∃ (c : Chan) (b0 b1 : Byte), p = u8 c.val ++ [b0, b1]
  | 0x14 => ∃ (c : Chan) (on : Bool), p = u8 c.val ++ flag on
  | 0x15 => ∃ (k : PairId) (link : Bool), p = u8 k.val ++ flag link
  | 0x16 => ∃ (g : Grp) (sel : Nat) (b0 b1 : Byte) (on : Bool), sel ≤ 3
      ∧ p = u8 g.val ++ u8 sel ++ [b0, b1] ++ flag on
  | 0x17 => ∃ (g : Grp) (remove : Bool) (cs : List Chan), cs ≠ [] ∧ cs.length ≤ 64
      ∧ p = u8 g.val ++ flag remove ++ u8 cs.length ++ cs.flatMap fun c => u8 c.val
  | 0x18 => ∃ (e : SetId) (cs : List Chan), cs.length ≤ 64
      ∧ p = u8 e.val ++ u8 cs.length ++ cs.flatMap fun c => u8 c.val
  | 0x19 => ∃ e : SetId, p = u8 e.val
  | 0x1A => ∃ (t : TaperSel) (table : Vector Int 33), (∀ k : Fin 33, -3072 ≤ table[k] ∧ table[k] ≤ 320)
      ∧ (∀ j k : Fin 33, j ≤ k → table[j] ≤ table[k]) ∧ p = u8 t.code ++ table.toList.flatMap s16
  | 0x1B => ∃ t : TaperSel, p = u8 t.code
  | 0x20 => ∃ (host : Byte) (a : Action), ActionFits a ∧ p = host :: a.bytes
  | 0x21 => (∃ k : Slot, p = u8 k.val) ∨ p = [255]
  | 0x22 => ∃ k : Slot, p = u8 k.val
  | 0x28 => ∃ (pulse falling : Bool) (w : Byte), p = flag pulse ++ [w] ++ flag falling
  | 0x29 => ∃ d ∈ [1, 2, 4, 8], p = u8 d
  | 0x30 => ∃ c : Cue, CueFits c ∧ p = c.wire
  | 0x31 => ∃ n, n < 65536 ∧ (p = u16 n ++ [1] ∨ (n ≠ 0 ∧ p = u16 n ++ [0]))
  | 0x32 | 0x36 => ∃ n, 0 < n ∧ n < 65536 ∧ p = u16 n
  | 0x40 => ∃ m n d g : Nat, m ≤ 4 ∧ 1 ≤ n ∧ n ≤ 4 ∧ d < 256 ∧ g < 65536 ∧ p = u8 m ++ u8 n ++ u8 d ++ u16 g
  | 0x41 => ∃ a b sp : Nat, a ≤ 63 ∧ b ≤ 63 ∧ sp ≤ 4 ∧ p = u8 a ++ u8 b ++ u8 sp
  | 0x43 => ∃ m : ModuleId, p = u8 m.val
  | 0x44 => (∃ c : Chan, p = u8 c.val) ∨ p = [255]
  | 0x48 => ∃ a : LaneSettings, a.period ∈ [1, 2, 4] ∧ 8 ≤ a.partition ∧ a.partition ≤ 56 ∧ a.partition % 8 = 0
      ∧ p = flag a.splitMode ++ u8 a.partition ++ u8 a.period ++ flag a.enableA ++ flag a.enableB
  | _ => True

/-- One strip's entry in a module reply (spec 11, module reply frame). -/
def StripReport.wire (r : StripReport) : List Byte :=
  u16 r.raw ++ u8 ((if r.touch then 1 else 0) + (if r.key then 2 else 0))

/-- The bytes of a module's reply that its checksum covers (spec 11, module reply frame). -/
def replyCovered (m : ModuleId) (rs : List StripReport) : List Byte :=
  u8 (m.val + 1) ++ rs.flatMap StripReport.wire

/-- A module's reply frame (spec 11, module reply frame). -/
def replyFrame (m : ModuleId) (rs : List StripReport) : List Byte :=
  [0x3C] ++ replyCovered m rs ++ u16 (checksum (replyCovered m rs))

/-- A list of notices queued one after another (R187). -/
def queueAll (ns : List Notice) (k : Link) : Link := ns.foldl (fun k n => k.queue n) k

/-! ## The notices of one instant (R71) -/

/-- A retirement: the slot, the move that leaves it, the reason, and the show time it is reported with
(R71, R72). -/
structure Retirement where
  slot : Slot
  move : Move
  reason : Reason
  instant : Nat
deriving DecidableEq, Repr

/-- The notice of a retirement (R71). -/
def Retirement.notice (r : Retirement) : Notice := .moveRetired r.slot r.move.kind r.move.origin r.reason

/-- The state in which the steps of one instant begin: retirements wait for its end (log entry 42). -/
def opened (s : State) : State := { s with link := { s.link with instant := some (s.link.instant.getD []) } }

/-- The link at the end of an instant: the retirements that waited are queued in the order they waited in. `inHand`
says that an instant stays in hand, as at a firing within an advance. -/
def closed (inHand : Bool) (k : Link) : Link :=
  match k.instant with
  | some ns => { queueAll ns { k with instant := none } with instant := if inHand then some [] else none }
  | none => k

/-- From k to k' the steps of one instant queue their notices: the MOVE RETIRED notices in ascending slot order,
whichever step retired a move, after the notices of other kinds (R71, R152; log entry 42). -/
def QueuesInstant (others : List Notice) (rs : List Retirement) (k k' : Link) : Prop :=
  rs.Pairwise (·.slot ≤ ·.slot) ∧
    (∀ n ∈ others, ∀ slot kind origin reason, n ≠ .moveRetired slot kind origin reason) ∧
    k' = queueAll (others ++ rs.map Retirement.notice) k

/-! ## The codes and the layouts (spec 11, section 11.7)

Each structure below spells out tables of the manual that the model holds in functions; the statements on
the link and on the queries state them. -/

/-- The codes of the enumerated values (spec 11, section 11.7; R34, R71, R80, R82, R86, R87, R92, R113, R119,
R135, R152, R155, R157, R165, R173, R181, R185, R189 and R194, form 6). -/
structure CodeTables : Prop where
  taper : [TaperSel.a, .b].map TaperSel.code = [0, 1]
  takeover : [TakeoverMode.touch, .latch, .pickup].map TakeoverMode.code = [0, 1, 2]
  release : [ReleasePolicy.hold, .glide].map ReleasePolicy.code = [0, 1]
  ownership : [Ownership.auto, .pickup, .touched, .latched].map Ownership.code = [0, 1, 2, 3]
  side : [Side.above, .below].map Side.code = [0, 1]
  kind : [MoveKind.level, .group, .mute, .unmute, .groupMute, .groupUnmute, .release].map MoveKind.code
    = [0, 1, 2, 3, 4, 5, 6]
  mode : [Mode.abs, .rel].map Mode.code = [0, 1]
  law : [Law.db, .taper].map Law.code = [0, 1]
  curve : [Curve.linear, .slowStart, .fastStart, .sCurve].map Curve.code = [0, 1, 2, 3]
  timeBase : [TimeBase.showTime, .wallTime].map TimeBase.code = [0, 1]
  phase : ∀ start : Nat, [MovePhase.delayed, .running start].map MovePhase.code = [1, 2]
  reason : [Reason.completed, .superseded, .cancelled, .empty, .backed, .stopped].map Reason.code
    = [0, 1, 2, 3, 4, 5]
  clockState : [ClockState.stopped, .running, .held, .stepping].map ClockState.code = [0, 1, 2, 3]
  source : [Source.internal, .pulse, .freewheel].map Source.code = [0, 1, 2]
  edge : [true, false].map edgeCode = [0, 1]
  follow : [FollowKind.none, .afterGo, .afterEnd].map FollowKind.code = [0, 1, 2]
  calibration : [CalState.uncalibrated, .calibrated, .failed].map CalState.code = [0, 1, 2]
  calPhase : [CalPhase.none, .driveLow, .sampleLow, .driveHigh, .sampleHigh].map CalPhase.code = [0, 1, 2, 3, 4]
  lane : [LaneId.laneA, .laneB].map laneCode = [0, 1]
  laneState : [LaneState.disabled, .waiting, .sending].map LaneState.code = [0, 1, 2]
  rate : [LineRate.kbit250, .mbit1, .mbit2].map rateCode = [0, 1, 2]
  fireCause : [FireCause.go, .follow].map FireCause.code = [0, 1]
  takeoverCause : [TakeoverCause.touch, .crossing, .release, .latchRelease, .releaseAction].map TakeoverCause.code
    = [0, 1, 2, 3, 4]
  clockCause : [ClockCause.request, .go, .stop, .saturated, .pulseLost, .pulseRegained].map ClockCause.code
    = [0, 1, 2, 3, 4, 5]
  moduleCause : [ModuleCause.reply, .misses, .removed].map ModuleCause.code = [0, 1, 2]
  laneCause : [LaneCause.config, .readyRise, .readyFall].map LaneCause.code = [0, 1, 2]
  stopCause : [StopCause.powerOn, .line, .request, .lineAsserted, .lineReleased, .cleared].map StopCause.code
    = [0, 1, 2, 3, 4, 5]
  status : [Status.ok, .accepted, .badType, .badLength, .badValue, .notFound, .full, .busy, .collision, .empty,
    .state, .locked].map Status.byte = [0, 1, 2, 3, 4, 5, 6, 7, 8, 9, 10, 11]

/-- The forms of the integer fields, each written and read little-endian, the signed ones in two's complement
(R193, R194, forms 5, 7 and 8). -/
structure FieldForms : Prop where
  one : ∀ n, n < 256 → ∃ b : Byte, u8 n = [b] ∧ b.toNat = n
  two : ∀ n, n < 65536 → ∃ b0 b1 : Byte, u16 n = [b0, b1] ∧ b0.toNat + 256 * b1.toNat = n
  three : ∀ n, n < 16777216 → ∃ b0 b1 b2 : Byte, u24 n = [b0, b1, b2] ∧
    b0.toNat + 256 * b1.toNat + 65536 * b2.toNat = n
  four : ∀ n, n < 4294967296 → ∃ b0 b1 b2 b3 : Byte, u32 n = [b0, b1, b2, b3] ∧
    b0.toNat + 256 * b1.toNat + 65536 * b2.toNat + 16777216 * b3.toNat = n
  signed : ∀ x : Int, -32768 ≤ x → x ≤ 32767 → ∃ b0 b1 : Byte, s16 x = [b0, b1] ∧
    ((b0.toNat + 256 * b1.toNat : Nat) : Int) = if x < 0 then x + 65536 else x
  read : ∀ b0 b1 : Byte, le16 b0 b1 = b0.toNat + 256 * b1.toNat
  readSigned : ∀ b0 b1 : Byte, les16 b0 b1 =
    if b0.toNat + 256 * b1.toNat < 32768 then ((b0.toNat + 256 * b1.toNat : Nat) : Int)
    else ((b0.toNat + 256 * b1.toNat : Nat) : Int) - 65536
  onOff : flag true = [1] ∧ flag false = [0]

/-- An origin followed by its detail: firing id and cue number for CUE, move tag for LIVE, firing id for BACK,
channel for REJOIN (R71, R194, form 3). -/
structure OriginLayout : Prop where
  cue : ∀ firing number : Nat, originField (.cue firing number) = [0] ++ u16 firing ++ u16 number
  live : ∀ tag : Byte, originField (.live tag) = [1, tag]
  back : ∀ firing : Nat, originField (.back firing) = [2] ++ u16 firing
  rejoin : ∀ c : Chan, originField (.rejoin c) = [3] ++ u8 c.val

/-- Standby as two bytes, 0 for END (R100). -/
def StandbyLayout : Prop := standbyField none = [0, 0] ∧ ∀ n : Nat, standbyField (some n) = u16 n

/-- The kind bit of each notice, 0 for the TYPE E0h to 8 for E8h, and the fields it carries after its flags byte,
in the order of its rule (R71, R113, R152, R86, R135, R164, R173, R181, R188; section 11.7; log entries 20, 22
and 38). -/
structure NoticeLayouts : Prop where
  moveRetired : ∀ (slot : Slot) (kind : MoveKind) (origin : Origin) (reason : Reason),
    let n : Notice := .moveRetired slot kind origin reason
    n.bit = 0 ∧ n.fields = u8 slot.val ++ u8 kind.code ++ originField origin ++ u8 reason.code
  cueFired : ∀ (cue firing : Nat) (cause : FireCause) (fireTime dropped : Nat) (standby : Option Nat),
    let n : Notice := .cueFired cue firing cause fireTime dropped standby
    n.bit = 1 ∧ n.fields = u16 cue ++ u16 firing ++ u8 cause.code ++ u32 fireTime ++ u8 dropped
      ++ standbyField standby
  followDropped : ∀ cue firing dropped : Nat,
    let n : Notice := .followDropped cue firing dropped
    n.bit = 2 ∧ n.fields = [0] ++ u16 cue ++ u16 firing ++ u8 dropped
  rejoinDropped : ∀ c : Chan,
    let n : Notice := .rejoinDropped c
    n.bit = 2 ∧ n.fields = [1] ++ u8 c.val
  takeover : ∀ (lower : Chan) (linked : Bool) (before after : Ownership) (side : Option Side)
      (cause : TakeoverCause) (base cueLevel : Int),
    let n : Notice := .takeover lower linked before after side cause base cueLevel
    n.bit = 3 ∧ n.fields = u8 lower.val ++ flag linked ++ u8 before.code ++ u8 after.code
      ++ u8 (if side = some .below then 1 else 0) ++ u8 cause.code ++ s16 base ++ s16 cueLevel
  clock : ∀ (cause : ClockCause) (state : ClockState) (source : Source) (showTime : Nat),
    let n : Notice := .clock cause state source showTime
    n.bit = 4 ∧ n.fields = u8 cause.code ++ u8 state.code ++ u8 source.code ++ u32 showTime
  module : ∀ (m : ModuleId) (online : Bool) (cause : ModuleCause) (totalMisses : Nat),
    let n : Notice := .module m online cause totalMisses
    n.bit = 5 ∧ n.fields = u8 m.val ++ flag online ++ u8 cause.code ++ u16 totalMisses
  calibrated : ∀ (m : ModuleId) (strips : List (Bool × Nat × Nat)),
    let n : Notice := .calibrated m strips
    n.bit = 6 ∧ n.fields = u8 m.val ++ [0] ++ strips.flatMap fun (pass, lo, hi) => flag pass ++ u16 lo ++ u16 hi
  aborted : ∀ (m : ModuleId) (cause : ModuleCause) (phase : CalPhase),
    let n : Notice := .calibrationAborted m cause phase
    n.bit = 6 ∧ n.fields = u8 m.val ++ [1] ++ u8 (if cause = .removed then 1 else 0) ++ u8 phase.code
  lane : ∀ (id : LaneId) (before after : LaneState) (cause : LaneCause) (counter losses : Nat),
    let n : Notice := .lane id before after cause counter losses
    n.bit = 7 ∧ n.fields = u8 (laneCode id) ++ u8 before.code ++ u8 after.code ++ u8 cause.code ++ u16 counter
      ++ u16 losses
  stop : ∀ (cause : StopCause) (active line : Bool) (cancelled showTime : Nat) (state : ClockState),
    let n : Notice := .stop cause active line cancelled showTime state
    n.bit = 8 ∧ n.fields = u8 cause.code ++ flag active ++ flag line ++ u8 cancelled ++ u32 showTime
      ++ u8 state.code
  origin : OriginLayout
  standby : StandbyLayout

/-- Whether a notice enters the notice queue as it is queued: any but a MOVE RETIRED notice while the steps of one
instant are carried out (R71; log entry 42). -/
def EntersAtOnce (k : Link) (n : Notice) : Prop :=
  k.instant = none ∨ ∀ slot kind origin reason, n ≠ .moveRetired slot kind origin reason

/-- What queuing a notice does to the link: a kind that is not enabled is left out, an enabled one joins the end of
the queue, and at a queue of 32 it is dropped, with the overflow flag and the count (R187, R188, R189). While the
steps of one instant are carried out, a MOVE RETIRED notice takes its place among those of the instant: after every
one of its own or a lower slot, before every one of a higher slot (R71; log entry 42). -/
structure NoticeQueue (k : Link) : Prop where
  disabled : ∀ n : Notice, EntersAtOnce k n → k.mask.getLsbD n.bit = false → k.queue n = k
  joins : ∀ n : Notice, EntersAtOnce k n → k.mask.getLsbD n.bit = true → k.notices.length < 32 →
    k.queue n = { k with notices := k.notices ++ [n] }
  dropped : ∀ n : Notice, EntersAtOnce k n → k.mask.getLsbD n.bit = true → 32 ≤ k.notices.length →
    k.queue n = { k with
      overflow := true, stats := { k.stats with dropped := min (k.stats.dropped + 1) 65535 } }
  waits : ∀ (r : Retirement) (rs : List Retirement), k.instant = some (rs.map Retirement.notice) →
    k.queue r.notice = { k with
      instant := some ((rs.filter (fun x => x.slot ≤ r.slot) ++ r :: rs.filter fun x => r.slot < x.slot).map
        Retirement.notice) }

/-- The composite fields of the reports: an item that may be absent is a presence byte and its fields, zeros when
absent; a list of channels stands after its count (R35, R50, R77, R91, R100, R115, R134, R172, R194; log entry 11
for a due time beyond four bytes, log entries 22 and 43). -/
structure ReportLayouts : Prop where
  claim : claimField none = [0, 0, 0, 0, 0, 0] ∧
    ∀ cl : Claim, claimField (some cl) = [1] ++ u8 cl.slot.val ++ s16 cl.start ++ s16 cl.target
  strip : stripField none = [0, 0, 0] ∧
    ∀ (m : ModuleId) (j : Fin 8), stripField (some (stripAt m j)) = [1] ++ u8 m.val ++ u8 j.val
  binding : bindingField none = [0, 0] ∧ ∀ c : Chan, bindingField (some c) = [1] ++ u8 c.val
  spec : specField none = [0, 0, 0] ∧ (∀ c : Chan, specField (some (.channel c)) = [1, 0] ++ u8 c.val) ∧
    (∀ e : SetId, specField (some (.set e)) = [1, 1] ++ u8 e.val) ∧
    (∀ g : Grp, specField (some (.members g)) = [1, 2] ++ u8 g.val) ∧
    ∀ g : Grp, specField (some (.group g)) = [1, 3] ++ u8 g.val
  origin : OriginLayout
  standby : StandbyLayout
  due : ∀ t : Nat, (t < 4294967296 → dueField t = u32 t) ∧ (dueField t).length = 4
  start : startField .delayed = [0, 0, 0, 0, 0] ∧ ∀ t : Nat, startField (.running t) = [1] ++ u32 t
  pendingSet : (∀ cs : List Chan, pendingField (.chans cs) = u8 cs.length ++ cs.flatMap fun c => u8 c.val) ∧
    (∀ ls : List (Chan × Int), pendingField (.lanes ls) = u8 ls.length ++ ls.flatMap fun l => u8 l.1.val) ∧
    ∀ (g : Grp) (t : Int), pendingField (.group g) = u8 g.val ∧ pendingField (.groupTo g t) = u8 g.val
  lanes : ∀ (s : State) (k : Slot), laneEntries s k =
    (List.finRange 64).flatMap (fun c =>
      (s.chans[c].claim.toList.filter fun cl => cl.slot = k).flatMap fun cl =>
        u8 c.val ++ s16 cl.start ++ s16 cl.target ++ s16 (liveLevel s c))
    ++ (List.finRange 8).flatMap fun g =>
      (s.groups[g].claim.toList.filter fun cl => cl.slot = k).flatMap fun cl =>
        u8 g.val ++ s16 cl.start ++ s16 cl.target ++ s16 (liveOffset s g)
  follow : followField none = [0, 0, 0, 0, 0] ∧ ∀ t : Nat, followField (some t) = [1] ++ dueField t
  watch : watchField none = [0, 0, 0, 0, 0, 0, 0] ∧
    ∀ w : EndWatch, watchField (some w) = [1] ++ u16 w.firing ++ u8 w.count ++ u24 w.wait
  recalls : recallField [] = [0, 0, 0, 0, 0] ∧
    ∀ (r : RecallRecord) (rs : List RecallRecord),
      recallField (r :: rs) = u8 (rs.length + 1) ++ u16 r.cue ++ u16 r.firing
  settings : ∀ a : LaneSettings, laneSettingsField a =
    flag a.splitMode ++ u8 a.partition ++ u8 a.period ++ flag a.enableA ++ flag a.enableB
  pendingSettings : pendingSettingsField none = [0, 0, 0, 0, 0, 0] ∧
    ∀ a : LaneSettings, pendingSettingsField (some a) = [1] ++ laneSettingsField a
  lane : ∀ l : Lane, laneReport l =
    u8 l.state.code ++ flag l.ready ++ flag l.inFlight.isSome ++ flag l.fallPending ++ u16 l.counter
      ++ u32 l.sent ++ u16 l.losses

/-- What a linked pair, a unit, the members of a group, a channel's strip and the pool's use are (R31, R26, R35,
R93, R126; 00_scope.md section 8). -/
structure UnitWords : Prop where
  pair : ∀ k : PairId, (evenOf k).val = 2 * k.val ∧ (oddOf k).val = 2 * k.val + 1
  pairOf : ∀ c : Chan, (pairOf c).val = c.val / 2
  linked : ∀ (s : State) (c : Chan), isLinked s c = s.pairLinked[Machine.pairOf c]
  unit : ∀ (s : State) (c d : Chan), d ∈ unitChans s c ↔
    d = c ∨ (s.pairLinked[Machine.pairOf c] = true ∧ d.val / 2 = c.val / 2)
  lower : ∀ (s : State) (c : Chan), unitLower s c ∈ unitChans s c ∧ ∀ d ∈ unitChans s c, unitLower s c ≤ d
  member : ∀ (s : State) (g : Grp) (c : Chan), inGroup s g c = s.chans[c].groups.getLsbD g.val
  members : ∀ (s : State) (g : Grp), (membersOf s g).Pairwise (· < ·) ∧
    ∀ c : Chan, c ∈ membersOf s g ↔ s.chans[c].groups.getLsbD g.val = true
  strip : ∀ (s : State) (c : Chan), (∀ i : StripId, stripOf s c = some i ↔
      s.surf.strips[i].binding = some c ∧ ∀ j : StripId, j < i → s.surf.strips[j].binding ≠ some c) ∧
    (stripOf s c = none ↔ ∀ i : StripId, s.surf.strips[i].binding ≠ some c)
  strips : ∀ (m : ModuleId) (j : Fin 8), (stripAt m j).val = 8 * m.val + j.val ∧ moduleOf (stripAt m j) = m ∧
    stripsOf m = (List.finRange 8).map (stripAt m)
  pool : ∀ store : List Cue, poolUsed store = (store.flatMap (·.actions)).length

/-- An action with its value, delay and duration brought into range, and every other field as given (R74). -/
def inRange (a : Action) : Action :=
  { a with
    value := match a.mode with
      | .abs => max (-3072) (min 320 a.value)
      | .rel => max (-3392) (min 3392 a.value)
    delay := min a.delay 600000
    duration := min a.duration 600000 }

/-- The two instants at which a move's time base is read and counted, and what the kinds and the origins decide:
an instant kind claims nothing (R46), a finite move ends by itself (R72), SAFE keeps CUE and BACK away (R29), the
stop cancels all but REJOIN (R176), MOVE CANCEL 255 all LIVE moves (R76). -/
structure MoveWords : Prop where
  now : ∀ s : State, nowIn .showTime s = s.clock.showTime ∧ nowIn .wallTime s = s.clock.wallTime
  since : ∀ t since : Nat, wallSince t since = (t + 4294967296 - since) % 4294967296
  add : ∀ t n : Nat, addTime .showTime t n = t + n ∧ addTime .wallTime t n = (t + n) % 4294967296
  instant : ∀ kind : MoveKind, kind.isInstant = true ↔ kind ≠ .level ∧ kind ≠ .group
  finite : ∀ mv : Move, mv.isFinite = true ↔ mv.kind.isInstant = true ∨ mv.cycle = false ∨ mv.count ≠ 0
  safe : ∀ o : Origin, o.heedsSafe = true ↔ (∃ f n, o = .cue f n) ∨ ∃ f, o = .back f
  stopped : ∀ mv : Move, mv.heedsStop = true ↔ ∀ c, mv.origin ≠ .rejoin c
  live : ∀ mv : Move, mv.isLive = true ↔ ∃ t, mv.origin = .live t
  firing : ∀ (f : Nat) (mv : Move), mv.ofFiring f = true ↔ ∃ n, mv.origin = .cue f n
  recorded : ∀ mv : Move, mv.isRecorded = true ↔
    (∃ ls, mv.pending = .lanes ls) ∨ ∃ g t, mv.pending = .groupTo g t
  slots : ∀ (p : Move → Bool) (s : State), (slotsWhere p s).Pairwise (· < ·) ∧
    ∀ k : Slot, k ∈ slotsWhere p s ↔ ∃ mv, s.moves[k] = some mv ∧ p mv = true

/-- The bindings under the bank settings of a surface, M among them: the candidate of each strip, and the strip it
is given to (R126). -/
structure BindingRule (u : Surface) : Prop where
  bound : ∀ i : StripId,
    let candidate := fun j : StripId =>
      if j.val / 8 < u.split then u.offsetA + 8 * (j.val / 8) + j.val % 8
      else u.offsetB + 8 * (j.val / 8 - u.split) + j.val % 8
    (bindingOf u i).map (·.val) =
      if i.val / 8 < u.expected ∧ candidate i < 64 ∧ ∀ j : StripId, j < i → candidate j ≠ candidate i then
        some (candidate i)
      else none
  once : ∀ (i j : StripId) (c : Chan), bindingOf u i = some c → bindingOf u j = some c → i = j

/-- The position of a raw value through a calibration entry of positive span (R122). -/
structure PositionRule (e : CalEntry) : Prop where
  position : ∀ raw : Nat, (rawToPosition e raw : Int) =
    max 0 (min 1024 (Int.fdiv (((raw : Int) - e.min) * 1024 + Int.fdiv ((e.max : Int) - e.min) 2)
      ((e.max : Int) - e.min)))
  ends : rawToPosition e e.min = 0 ∧ rawToPosition e e.max = 1024
  rising : ∀ a b : Nat, a ≤ b → rawToPosition e a ≤ rawToPosition e b

/-- The bytes of a good reply to a poll of a module: 28 of them, the module's bus address, every raw value within 0 to
1023, and a checksum that brings the sum to zero; each strip's three bytes give its raw value, its touch and its key,
and bits 2 to 7 of the last are not examined (R118, R193, section 11.7). That the start byte must be the layout's 3Ch,
which R118's list does not name, and that the length must be the layout's is the model's reading (log entry 19). -/
structure ReplyRule (m : ModuleId) (bytes : List Byte) : Prop where
  good : (parseReply m bytes).isSome = true ↔
    bytes.length = 28 ∧ bytes.getD 0 0 = 0x3C ∧ (bytes.getD 1 0).toNat = m.val + 1 ∧
    (∀ j : Fin 8, le16 (bytes.getD (2 + 3 * j.val) 0) (bytes.getD (3 + 3 * j.val) 0) ≤ 1023) ∧
    (byteSum ((bytes.drop 1).take 25) + le16 (bytes.getD 26 0) (bytes.getD 27 0)) % 65536 = 0
  reports : ∀ rs : List StripReport, parseReply m bytes = some rs → rs.length = 8 ∧
    ∀ j : Fin 8, rs[j.val]? = some
      { raw := le16 (bytes.getD (2 + 3 * j.val) 0) (bytes.getD (3 + 3 * j.val) 0)
        touch := (bytes.getD (4 + 3 * j.val) 0).getLsbD 0
        key := (bytes.getD (4 + 3 * j.val) 0).getLsbD 1 }

/-- The TYPEs of the first two request frames that stand, or would then stand, in the receive queue, when a
command can bring a dispatch: a request, a character that completes a frame, and TRANSMIT_END (R184 to R186; log
entries 2 and 3). A character's frame has its TYPE in the third of the bytes taken. -/
def typesInReach (s : State) : Instr → List Byte
  | .characterReceived b _ =>
    match s.link.receiver with
    | .assembling taken _ => (s.link.rxQueue.map Frame.type ++ (taken ++ [b])[2]?.toList).take 2
    | .hunting => []
    | .broken => []
  | .transmitEnd => (s.link.rxQueue.map Frame.type).take 2
  | c =>
    match frameOfCommand c with
    | some f => (s.link.rxQueue.map Frame.type ++ [f.type]).take 2
    | none => []

/-- The law of show time, kept by every step: it does not fall but by CLOCK LOCATE (2Dh) or a reset, which are
RESET (02h) and POWER_ON, and it stays within its four bytes (R78). -/
structure ShowTimeKept (s t : State) : Prop where
  bound : s.clock.showTime ≤ 4294967295 → t.clock.showTime ≤ 4294967295
  rising : s.clock.showTime ≤ 4294967295 →
    (∀ c ∈ s.pending.head?, (∀ held rate stop a b, c ≠ .powerOn held rate stop a b) ∧
      ∀ ty ∈ typesInReach s c, ty ≠ 0x02 ∧ ty ≠ 0x2D) →
    s.clock.showTime ≤ t.clock.showTime

/-! ## Retirements and their reports -/

/-- The playback timers after the report of a retirement: where the move is finite, of CUE origin and of the
watched firing, the end watch counts one down, and at 0 it is emptied and the follow slot takes the report's
instant plus the wait; any other retirement leaves them (R72, R108). -/
def afterReport (p : Playback) (r : Retirement) : Playback :=
  match r.move.origin, p.endWatch with
  | .cue firing _, some u =>
    if u.firing = firing ∧ (r.move.kind.isInstant = true ∨ r.move.cycle = false ∨ r.move.count ≠ 0) then
      if u.count ≤ 1 then { p with endWatch := none, follow := some (r.instant + u.wait) }
      else { p with endWatch := some { u with count := u.count - 1 } }
    else p
  | _, _ => p

/-- From s to w the moves of a list retired one after another: their notices are queued and their reports
reach the playback timers, and playback changes in nothing else (R71, R72, R108). -/
structure Reports (rs : List Retirement) (s w : State) : Prop where
  play : w.play = rs.foldl afterReport s.play
  link : w.link = queueAll (rs.map Retirement.notice) s.link

/-- The moves that s holds and w does not, in ascending slot order, retired with a reason at the show time
of s (R71, R72). -/
def goneWith (reason : Reason) (s w : State) : List Retirement :=
  (allFin 48).filterMap fun j =>
    if w.moves[j].isSome then none else s.moves[j].map fun mv => ⟨j, mv, reason, s.clock.showTime⟩

/-- The retirements of the start of a move in slot k, in ascending slot order: the start's own where it took
no claim (EMPTY) or was over at once (COMPLETED, with its start as the instant in the SHOW base), and the
moves that lost their last claim to it (R48, R60, R66, R71, R72). -/
def startRetirements (k : Slot) (mv : Move) (start : Nat) (tookNone : Bool) (s w : State) : List Retirement :=
  (allFin 48).filterMap fun j =>
    if w.moves[j].isSome then none
    else if j = k then
      if tookNone then some ⟨k, mv, .empty, s.clock.showTime⟩
      else some ⟨k, mv, .completed, match mv.timeBase with
        | .showTime => start
        | .wallTime => s.clock.showTime⟩
    else s.moves[j].map fun old => ⟨j, old, .superseded, s.clock.showTime⟩

/-! ## What cancelling and starting moves leave behind -/

/-- Whether a slot holds a move that satisfies a condition. -/
def holds (q : Move → Bool) (s : State) (k : Slot) : Bool := s.moves[k].any q

/-- A channel after every claim that names a slot of p was frozen: B becomes V, the claim is gone (R69). -/
def frozen (s : State) (p : Slot → Bool) (c : Chan) : Channel :=
  match s.chans[c].claim with
  | some cl => if p cl.slot then { s.chans[c] with base := liveLevel s c, claim := none } else s.chans[c]
  | none => s.chans[c]

/-- A group after every claim that names a slot of p was frozen (R69). -/
def frozenGroup (s : State) (p : Slot → Bool) (g : Grp) : Group :=
  match s.groups[g].claim with
  | some cl => if p cl.slot then { s.groups[g] with offset := liveOffset s g, claim := none } else s.groups[g]
  | none => s.groups[g]

/-- A channel after the claims of SAFE turning on were removed, read through the new taper table
(R29; log entry 21). -/
def unclaimedThrough (s : State) (t : TaperSel) (c : Chan) : Option Claim → Int
  | some cl => claimValue s (tableOf s t) cl s.chans[c].base
  | none => s.chans[c].base

/-- What the start of a LEVEL move in slot k leaves in a channel of its pending set, given the lane's target:
passed over, the cue level written, or claimed from its live level (R57); a move of duration 0 and ONCE
jumps to its target and holds no claim (R66). -/
def startedLane (s : State) (k : Slot) (mv : Move) (target : Int) (c : Chan) : Channel :=
  if mv.origin.heedsSafe && s.chans[c].safe then s.chans[c]
  else if isHeld s c then { s.chans[c] with cueLevel := target }
  else if mv.duration = 0 ∧ mv.cycle = false then
    { s.chans[c] with base := target, cueLevel := target, claim := none }
  else
    { s.chans[c] with
      base := liveLevel s c, cueLevel := target, claim := some ⟨k, liveLevel s c, target⟩ }

/-- The channels of a list that the start of a move claims (R57). -/
def claimedBy (s : State) (mv : Move) (cs : List Chan) : List Chan :=
  cs.filter fun c => !(mv.origin.heedsSafe && s.chans[c].safe) && !isHeld s c

/-- What the start of a LEVEL move leaves in its own slot k, when it started at the given time and claimed
the channels of a list: nothing when it claimed none (R60) or was over at once (R66). -/
def startedMove (mv : Move) (start : Nat) (claimed : List Chan) : Option Move :=
  if claimed = [] ∨ (mv.duration = 0 ∧ mv.cycle = false) then none
  else
    some { mv with
      phase := .running start
      remaining := if mv.cycle then mv.count else 1
      due := addTime mv.timeBase start mv.duration
      claims := claimed.length }

/-- The state w follows from s by the start of a LEVEL move in slot k on the channels of a list, each toward
its goal. -/
structure StartsLevel (s w : State) (k : Slot) (mv : Move) (goal : Chan → Int) (start : Nat) (cs : List Chan) :
    Prop where
  own : w.moves[k] = startedMove mv start (claimedBy s mv cs)
  others : ∀ j : Slot, j ≠ k → w.moves[j] = afterRemoval s (claimedBy s mv cs) j
  named : ∀ c ∈ cs, w.chans[c] = startedLane s k mv (goal c) c
  unnamed : ∀ c : Chan, c ∉ cs → w.chans[c] = s.chans[c]
  groups : w.groups = s.groups
  reports : Reports (startRetirements k mv start (claimedBy s mv cs).isEmpty s w) s w
  frame : KeepsShow s w

/-- The goal of each channel of a move without recorded targets (R20, R57). -/
def goalFrom (mv : Move) (s : State) (c : Chan) : Int := targetFrom mv (liveLevel s c)

/-- The recorded target of a channel among the lanes of a move that carries them (R45). -/
def goalIn (ls : List (Chan × Int)) (c : Chan) : Int := ((ls.find? fun l => l.1 == c).map (·.2)).getD 0

/-- The state w follows from s by the start of a GROUP move in slot k toward a target: its group is claimed
from the live offset, whatever claimed it before, or with duration 0 and ONCE jumps to the target (R59,
R66). -/
structure StartsGroup (s w : State) (k : Slot) (mv : Move) (start : Nat) (g : Grp) (target : Int) : Prop where
  named : w.groups[g] =
    if mv.duration = 0 ∧ mv.cycle = false then { s.groups[g] with offset := target, claim := none }
    else { s.groups[g] with offset := liveOffset s g, claim := some ⟨k, liveOffset s g, target⟩ }
  unnamed : ∀ h : Grp, h ≠ g → w.groups[h] = s.groups[h]
  own : w.moves[k] =
    if mv.duration = 0 ∧ mv.cycle = false then none
    else some { mv with
      phase := .running start
      remaining := if mv.cycle then mv.count else 1
      due := addTime mv.timeBase start mv.duration
      claims := 1 }
  others : ∀ j : Slot, j ≠ k → w.moves[j] =
    if claimIs j s.groups[g].claim = true then
      match s.moves[j] with
      | some old => if old.claims ≤ 1 then none else some { old with claims := old.claims - 1 }
      | none => none
    else s.moves[j]
  chans : w.chans = s.chans
  reports : Reports (startRetirements k mv start false s w) s w
  frame : KeepsShow s w

/-- A RELEASE acts on the channels of a list one after another: a LATCHED unit is handed back (R52, R147). -/
def releaseAll : List Chan → State → State
  | [], s => s
  | c :: cs, s =>
    releaseAll cs (if s.chans[c].ownership = .latched then (handBackGlide c .releaseAction s).1 else s)

/-- Whether a DELAYED move retires at its own start: an instant kind does by its act (R58), a move of duration 0
and ONCE by its end (R66), and a LEVEL move that every channel keeps from a claim is EMPTY (R60). -/
def RetiresAtStart (s : State) (mv : Move) : Prop :=
  mv.kind.isInstant = true ∨ (mv.duration = 0 ∧ mv.cycle = false)
    ∨ ∃ cs, mv.pending = .chans cs ∧ claimedBy s mv cs = []

/-- Whether no record of a pending set is claimed, so that a start on it supersedes no move (R48). -/
def Unclaimed (s : State) : Pending → Prop
  | .chans cs => ∀ c ∈ cs, s.chans[c].claim = none
  | .lanes ls => ∀ l ∈ ls, s.chans[l.1].claim = none
  | .group g => s.groups[g].claim = none
  | .groupTo g _ => s.groups[g].claim = none

/-- Slot j is the lowest slot whose move retires when a move's due item is taken (R71). -/
def LowestRetired (s : State) (i : DueItem) (j : Slot) : Prop :=
  i ≠ .follow ∧ s.moves[j] ≠ none ∧ (takeItem i s).moves[j] = none ∧
    ∀ l : Slot, l < j → s.moves[l] ≠ none → (takeItem i s).moves[l] ≠ none

/-- The own mutes of the units of a list of channels take a value, and the mute ramps respond (R10, R31,
R52). -/
def OwnMutesBecome (cs : List Chan) (on : Bool) (s w : State) : Prop :=
  ∀ d : Chan, w.chans[d] =
    { s.chans[d] with
      ownMute := if d ∈ cs.flatMap (unitChans s) then on else s.chans[d].ownMute
      atten := rampAfter s w d }

/-- A group's mute takes a value, and its members' mute ramps respond (R10, R27, R52). -/
def GroupMuteBecomes (g : Grp) (on : Bool) (s w : State) : Prop :=
  w.groups = s.groups.set g { s.groups[g] with mute := on } ∧
    ∀ d : Chan, w.chans[d] = { s.chans[d] with atten := rampAfter s w d }

/-- The channels of a list that a move does not pass over as SAFE (R29, R52). -/
def heededBy (s : State) (o : Origin) (cs : List Chan) : List Chan :=
  cs.filter fun c => !(o.heedsSafe && s.chans[c].safe)

/-- The state w follows from s by the start of the DELAYED move of slot k: a LEVEL or GROUP move starts with its
due time as start time (R56); an instant kind acts on what it does not pass over and retires COMPLETED
(R58). The first two hold in the states that keep the law of claims, the last in those that also keep the laws
of units. -/
structure StartsDelayed (k : Slot) (mv : Move) (s w : State) : Prop where
  level : ∀ cs : List Chan, ClaimLaw s → mv.kind = .level → mv.pending = .chans cs → cs.Nodup →
    StartsLevel s w k mv (goalFrom mv s) mv.due cs
  group : ∀ g : Grp, ClaimLaw s → mv.kind = .group → mv.pending = .group g →
    StartsGroup s w k mv mv.due g (targetFrom mv (liveOffset s g))
  mutes : ∀ (cs : List Chan) (on : Bool), mv.kind = (if on then .mute else .unmute) → mv.pending = .chans cs →
    (∀ c : Chan, s.pairLinked[pairOf c] = true →
      s.chans[evenOf (pairOf c)].safe = s.chans[oddOf (pairOf c)].safe) →
    w.moves = s.moves.set k none ∧ w.groups = s.groups ∧
    OwnMutesBecome (heededBy s mv.origin cs) on s w ∧
    Reports [⟨k, mv, .completed, s.clock.showTime⟩] s w ∧ KeepsShow s w
  groupMutes : ∀ (g : Grp) (on : Bool), mv.kind = (if on then .groupMute else .groupUnmute) →
    mv.pending = .group g →
    w.moves = s.moves.set k none ∧ GroupMuteBecomes g on s w ∧
    Reports [⟨k, mv, .completed, s.clock.showTime⟩] s w ∧ KeepsShow s w
  release : ∀ cs : List Chan, ClaimLaw s → UnitLaw s → mv.kind = .release → mv.pending = .chans cs →
    let u := releaseAll (heededBy s mv.origin cs) s
    w.moves = u.moves.set k none ∧ w.chans = u.chans ∧ w.groups = u.groups ∧
    Reports [⟨k, mv, .completed, s.clock.showTime⟩] u w ∧
    (∀ d : Chan, w.chans[d].ownership =
      if s.chans[d].ownership = .latched ∧ ∃ c ∈ heededBy s mv.origin cs, d ∈ unitChans s c then .auto
      else s.chans[d].ownership) ∧
    KeepsShow s w

/-- The state w follows from s by the end of a traversal of the RUNNING move of slot k, begun at the given time:
at the last one every record it claims takes its lane target and is released and the move retires COMPLETED,
reported with its due time in the SHOW base (R64, R72); before that it turns round (R65). -/
structure EndsTraversal (k : Slot) (mv : Move) (start : Nat) (s w : State) : Prop where
  last : mv.cycle = false ∨ mv.remaining = 1 →
    w.moves = s.moves.set k none ∧
    (∀ c : Chan, w.chans[c] =
      match s.chans[c].claim with
      | some cl =>
        if cl.slot = k then { s.chans[c] with base := cl.target, claim := none } else s.chans[c]
      | none => s.chans[c]) ∧
    (∀ g : Grp, w.groups[g] =
      match s.groups[g].claim with
      | some cl =>
        if cl.slot = k then { s.groups[g] with offset := cl.target, claim := none } else s.groups[g]
      | none => s.groups[g]) ∧
    Reports [⟨k, mv, .completed, match mv.timeBase with
      | .showTime => mv.due
      | .wallTime => s.clock.showTime⟩] s w ∧
    KeepsShow s w
  turn : mv.cycle = true → mv.remaining ≠ 1 →
    w.moves = s.moves.set k (some { mv with
      remaining := if mv.count = 0 then 0 else mv.remaining - 1
      phase := .running (addTime mv.timeBase start mv.duration)
      due := addTime mv.timeBase (addTime mv.timeBase start mv.duration) mv.duration }) ∧
    (∀ c : Chan, w.chans[c] =
      match s.chans[c].claim with
      | some cl =>
        if cl.slot = k then { s.chans[c] with claim := some ⟨k, cl.target, cl.start⟩ } else s.chans[c]
      | none => s.chans[c]) ∧
    (∀ g : Grp, w.groups[g] =
      match s.groups[g].claim with
      | some cl =>
        if cl.slot = k then { s.groups[g] with claim := some ⟨k, cl.target, cl.start⟩ } else s.groups[g]
      | none => s.groups[g]) ∧
    { w with moves := s.moves, chans := s.chans, groups := s.groups } = s

/-- Moves that carry recorded targets are created one after another; the creations without a free slot are
counted (R53, R54). -/
def recordedMoves : List Move → State → State × Nat
  | [], s => (s, 0)
  | mv :: mvs, s =>
    let made := createRecorded mv s
    let rest := recordedMoves mvs made.1
    (rest.1, rest.2 + if made.2 = .noSlot then 1 else 0)

/-- A move record with recorded targets as R111 and R146 give it, before it takes its slot. -/
def recordedMove (kind : MoveKind) (origin : Origin) (pending : Pending) (law : Law) (curve : Curve)
    (timeBase : TimeBase) (duration : Nat) : Move :=
  { kind := kind, origin := origin, spec := none, pending := pending, mode := .abs, value := 0, law := law
    curve := curve, timeBase := timeBase, delay := 0, duration := duration, cycle := false, count := 0
    remaining := 1, due := 0, phase := .delayed, claims := 0, seq := 0 }

/-! ## What firings, BACK and hand-backs leave behind -/

/-- The channels that a target spec names (R50, step 1). -/
def Names (s : State) : TargetSpec → Chan → Prop
  | .channel c, d => d = c
  | .set e, d => d ∈ s.sets[e]
  | .members g, d => inGroup s g d = true
  | .group _, _ => False

/-- The resolution of a target spec for a move of an origin: the channels it names and their linked partners,
each once and in ascending order, and for CUE origin (BACK alike) none that is SAFE (R29, R50). -/
structure Resolves (s : State) (o : Origin) (spec : TargetSpec) (cs : List Chan) : Prop where
  order : cs.Pairwise (· < ·)
  mem : ∀ c : Chan, c ∈ cs ↔
    (∃ d, Names s spec d ∧ (c = d ∨ (s.pairLinked[pairOf d] = true ∧ pairOf c = pairOf d))) ∧
    ¬ (s.chans[c].safe = true ∧ ((∃ f n, o = .cue f n) ∨ ∃ f, o = .back f))

/-- The move record that an action gives, before it is placed: its fields are the action's, and its pending set
is the group of its spec or the resolution of it (R45, R50). -/
def actionMove (s : State) (o : Origin) (a : Action) : Move :=
  { kind := a.kind, origin := o, spec := some a.spec
    pending := match a.spec with
      | .group g => .group g
      | .channel c => .chans (resolveChans s o (.channel c))
      | .set e => .chans (resolveChans s o (.set e))
      | .members g => .chans (resolveChans s o (.members g))
    mode := a.mode, value := a.value, law := a.law, curve := a.curve, timeBase := a.timeBase
    delay := a.delay, duration := a.duration, cycle := a.cycle, count := a.count
    remaining := 0, due := 0, phase := .delayed, claims := 0, seq := 0 }

/-- The creation of a move of any origin from an action, with the fire time as creation time in the SHOW base
and wall time in the WALL base (R49): nothing for an empty pending set (R51), the act of an instant kind
without delay (R52, R53), nothing without a free slot (R53), else the lowest free slot, DELAYED until the
creation time plus the delay (R55) or started at the creation time (R56). The start of a LEVEL move is that of
the states that keep the law of claims, that of a GROUP move of those whose claims name occupied slots. -/
structure Creates (o : Origin) (a : Action) (fireTime : Nat) (s w : State) (made : Creation) : Prop where
  empty : (actionMove s o a).pending = .chans [] → w = s ∧ made = .empty
  acts : (actionMove s o a).pending ≠ .chans [] → a.kind.isInstant = true → a.delay = 0 →
    made = .acted ∧ KeepsShow s w ∧
    (∀ (cs : List Chan) (on : Bool), a.kind = (if on then .mute else .unmute) →
      (actionMove s o a).pending = .chans cs →
      OwnMutesBecome cs on s w ∧ { w with chans := s.chans } = s) ∧
    (∀ (g : Grp) (on : Bool), a.kind = (if on then .groupMute else .groupUnmute) →
      (actionMove s o a).pending = .group g →
      GroupMuteBecomes g on s w ∧ { w with chans := s.chans, groups := s.groups } = s) ∧
    (∀ cs : List Chan, a.kind = .release → (actionMove s o a).pending = .chans cs → w = releaseAll cs s)
  noSlot : (actionMove s o a).pending ≠ .chans [] → ¬ (a.kind.isInstant = true ∧ a.delay = 0) →
    (∀ k : Slot, s.moves[k] ≠ none) → w = s ∧ made = .noSlot
  delayed : ∀ k : Slot, (actionMove s o a).pending ≠ .chans [] → 0 < a.delay →
    s.moves[k] = none → (∀ j : Slot, j < k → s.moves[j] ≠ none) →
    made = .placed k ∧
    w = { s with
      moves := s.moves.set k (some { actionMove s o a with
        due := match a.timeBase with
          | .showTime => fireTime + a.delay
          | .wallTime => (s.clock.wallTime + a.delay) % 4294967296
        remaining := if a.cycle then a.count else 1
        seq := s.moveSeq })
      moveSeq := s.moveSeq + 1 }
  level : ∀ (k : Slot) (cs : List Chan), (actionMove s o a).pending = .chans cs → cs ≠ [] → a.kind = .level →
    a.delay = 0 → s.moves[k] = none → (∀ j : Slot, j < k → s.moves[j] ≠ none) → ClaimLaw s →
    let mv : Move := { actionMove s o a with seq := s.moveSeq }
    StartsLevel s w k mv (goalFrom mv s)
      (match a.timeBase with
        | .showTime => fireTime
        | .wallTime => s.clock.wallTime) cs ∧
    made = if w.moves[k] = none then .retiredAtCreation k else .placed k
  group : ∀ (k : Slot) (g : Grp), (actionMove s o a).pending = .group g → a.kind = .group →
    a.delay = 0 → s.moves[k] = none → (∀ j : Slot, j < k → s.moves[j] ≠ none) → ClaimsOccupied s →
    let mv : Move := { actionMove s o a with seq := s.moveSeq }
    StartsGroup s w k mv
      (match a.timeBase with
        | .showTime => fireTime
        | .wallTime => s.clock.wallTime) g (targetFrom mv (liveOffset s g)) ∧
    made = if w.moves[k] = none then .retiredAtCreation k else .placed k

/-- The actions of a cue become creations one after another, SHOW-base ones at the fire time; the creations
without a free slot are counted (R104). -/
def creations (o : Origin) (fireTime : Nat) : List Action → State → State × Nat
  | [], s => (s, 0)
  | a :: as, s =>
    let made := createMove o a fireTime s
    let rest := creations o fireTime as made.1
    (rest.1, rest.2 + if made.2 = .noSlot then 1 else 0)

/-- The last of the recall record's entries that are not SAFE and whose unit holds a channel gives the
channel its own mute (R31, R111, step 4). -/
def recalledMute (s : State) (es : List (Chan × Int × Bool)) (c : Chan) : Bool :=
  match (es.filter fun e => !s.chans[e.1].safe && (unitChans s e.1).contains c).getLast? with
  | some e => e.2.2
  | none => s.chans[c].ownMute

/-- The last of the recall record's group entries that names a group gives it its mute (R111, step 4). -/
def recalledGroupMute (s : State) (es : List (Grp × Int × Bool)) (g : Grp) : Bool :=
  match (es.filter fun e => e.1 == g).getLast? with
  | some e => e.2.2
  | none => s.groups[g].mute

/-- The state b follows from s by steps 1 to 4 of BACK: the record is popped, the follow slot and the end
watch are emptied, the firing's moves are cancelled with reason BACKED, and the recorded mutes return
(R111). -/
structure RecallsMutes (r : RecallRecord) (rest : List RecallRecord) (s b : State) : Prop where
  play : b.play = { s.play with recalls := rest, follow := none, endWatch := none }
  moves : ∀ k : Slot, b.moves[k] = if holds (Move.ofFiring r.firing) s k then none else s.moves[k]
  chans : ∀ c : Chan, b.chans[c] =
    { frozen s (holds (Move.ofFiring r.firing) s) c with
      ownMute := recalledMute s r.chans c, atten := b.chans[c].atten }
  unsnapped : ∀ c : Chan, rampInForce s c ≠ 0 → b.chans[c].atten = s.chans[c].atten
  snapped : ∀ c : Chan, rampInForce s c = 0 →
    b.chans[c].atten = rampGoal b c ∨ (rampGoal b c = rampGoal s c ∧ b.chans[c].atten = s.chans[c].atten)
  groups : ∀ g : Grp, b.groups[g] =
    { frozenGroup s (holds (Move.ofFiring r.firing) s) g with mute := recalledGroupMute s r.groups g }
  link : b.link = queueAll
    ((slotsWhere (Move.ofFiring r.firing) s).filterMap fun k =>
      s.moves[k].map fun mv => .moveRetired k mv.kind mv.origin .backed) s.link
  rest : { b with
    play := s.play, moves := s.moves, chans := s.chans, groups := s.groups, link := s.link } = s

/-- The moves that BACK creates: the LEVEL move toward the recorded levels of the channels that are not
SAFE, where there are any, then one GROUP move for each recorded offset (R111, steps 5 and 6). -/
def backMoves (s : State) (r : RecallRecord) : List Move :=
  let lanes := (r.chans.filter fun e => !s.chans[e.1].safe).map fun e => (e.1, e.2.1)
  let move := fun kind pending =>
    recordedMove kind (.back r.firing) pending .db .linear .showTime s.play.backTime
  (if lanes = [] then [] else [move .level (.lanes lanes)])
    ++ r.groups.map fun e => move .group (.groupTo e.1 e.2.1)

/-- A unit's ownership state takes a value other than PICKUP, with its TAKEOVER notice (R137, R152). -/
def ownershipTo (o : Ownership) (c : Chan) (cause : TakeoverCause) (s : State) : State :=
  { s with
    chans := Vector.ofFn fun d =>
      if d ∈ unitChans s c then
        { s.chans[d] with ownership := o, side := none, pickupStrip := none, balance := none }
      else s.chans[d]
    link := s.link.queue (.takeover (unitLower s c) (isLinked s c) s.chans[c].ownership o none cause
      s.chans[unitLower s c].base s.chans[unitLower s c].cueLevel) }

/-- The lanes of a unit's rejoin glide: its channels whose B differs from their cue level (R146). -/
def rejoinLanes (s : State) (c : Chan) : List (Chan × Int) :=
  ((unitChans s c).filter fun d => s.chans[d].base ≠ s.chans[d].cueLevel).map
    fun d => (d, s.chans[d].cueLevel)

/-- The rejoin glide of a unit (R146). -/
def rejoinGlide (s : State) (c : Chan) : Move :=
  recordedMove .level (.rejoin (unitLower s c)) (.lanes (rejoinLanes s c)) .taper .sCurve .wallTime s.surf.glide

/-- The units of a list are handed back by LATCH RELEASE one after another; the glides created and the
glides not made for want of a slot are counted (R148). -/
def handBacks : List Chan → State → State × Nat × Nat
  | [], s => (s, 0, 0)
  | c :: cs, s =>
    let back := handBackGlide c .latchRelease s
    let rest := handBacks cs back.1
    (rest.1, rest.2.1 + (if back.2 = .made then 1 else 0), rest.2.2 + (if back.2 = .dropped then 1 else 0))

/-- A unit goes to TOUCHED: its TAKEOVER notice is queued first, its claims are removed with V written into
B, and a linked pair's balance is taken (R139, R141, R147; log entry 13). -/
structure GoesTouched (cause : TakeoverCause) (c : Chan) (s w : State) : Prop where
  unit : ∀ d ∈ unitChans s c, w.chans[d] =
    { s.chans[d] with
      ownership := .touched, side := none, pickupStrip := none, claim := none, base := liveLevel s d
      balance := if isLinked s c then
          some (liveLevel s (oddOf (pairOf c)) - liveLevel s (evenOf (pairOf c)))
        else none }
  others : ∀ d : Chan, d ∉ unitChans s c → w.chans[d] = s.chans[d]
  moves : ∀ k : Slot, w.moves[k] = afterRemoval s (unitChans s c) k
  groups : w.groups = s.groups
  reports : Reports (goneWith .superseded s w)
    { s with
      link := s.link.queue
        (.takeover (unitLower s c) (isLinked s c) s.chans[c].ownership .touched none cause
          (liveLevel s (unitLower s c)) s.chans[unitLower s c].cueLevel) } w
  frame : KeepsShow s w

/-- The fader level of a channel's strip is written into B, and the partner of a linked pair follows by the
pair balance (R143; log entry 40). -/
structure WritesFader (fader : Int) (c : Chan) (s w : State) : Prop where
  single : isLinked s c = false → w = { s with chans := s.chans.set c { s.chans[c] with base := fader } }
  linked : isLinked s c = true →
    (∀ d : Chan, w.chans[d] =
      if d = c then { s.chans[d] with base := fader }
      else if d = oddOf (pairOf c) then
        { s.chans[d] with base := max (-3072) (min 320 (fader + (s.chans[c].balance).getD 0)) }
      else if d = evenOf (pairOf c) then
        { s.chans[d] with base := max (-3072) (min 320 (fader - (s.chans[c].balance).getD 0)) }
      else s.chans[d]) ∧
    { w with chans := s.chans } = s

/-- The state w follows from b by the entry of the show stop with a cause (R176). -/
structure EntersStop (cause : StopCause) (b w : State) : Prop where
  stop : w.stop = { b.stop with active := true }
  clock : w.clock =
    if b.clock.state = .running ∨ b.clock.state = .stepping then
      { b.clock with
        state := .held
        lossTimer := none
        source := if b.clock.source = .freewheel then .pulse else b.clock.source }
    else b.clock
  play : w.play = { b.play with follow := none, endWatch := none }
  moves : ∀ k : Slot, w.moves[k] = if holds Move.heedsStop b k then none else b.moves[k]
  chans : ∀ c : Chan, w.chans[c] = { frozen b (holds Move.heedsStop b) c with atten := rampAfter b w c }
  groups : ∀ g : Grp, w.groups[g] = frozenGroup b (holds Move.heedsStop b) g
  rest : { w with stop := b.stop, clock := b.clock, play := b.play, moves := b.moves, chans := b.chans
                  groups := b.groups, link := b.link } = b
  link : w.link = queueAll
    ((if b.clock.state = .running ∨ b.clock.state = .stepping then
        [.clock .stop .held w.clock.source b.clock.showTime] else [])
      ++ (slotsWhere Move.heedsStop b).filterMap (fun k =>
          b.moves[k].map fun mv => .moveRetired k mv.kind mv.origin .stopped)
      ++ [.stop cause true b.stop.line (slotsWhere Move.heedsStop b).length b.clock.showTime
            w.clock.state]) b.link

/-- The state w follows from s by standby's advance and the push of a firing of cue c: the firing counter,
the recall stack, standby and the loop counter (R101, R103, R110). A record holds the channels that the cue's
LEVEL, MUTE and UNMUTE actions reach, resolved with CUE origin, and the groups that its GROUP kinds name. -/
structure Fires (s w : State) (c : Cue) : Prop where
  firing : w.play.firing = (s.play.firing + 1) % 65536
  recalls : ∃ r : RecallRecord, r.cue = c.number ∧ r.firing = w.play.firing
    ∧ w.play.recalls = (r :: s.play.recalls).take 16
    ∧ r.chans = (reachedChans s w.play.firing c).map (fun ch => (ch, liveLevel s ch, s.chans[ch].ownMute))
    ∧ r.groups.map (·.1) = (allFin 8).filter (fun g => c.actions.any (namesGroup g))
    ∧ ∀ e ∈ r.groups, e.2.1 = liveOffset s e.1 ∧ e.2.2 = s.groups[e.1].mute
  reached : (reachedChans s w.play.firing c).Pairwise (· < ·) ∧
    ∀ ch : Chan, ch ∈ reachedChans s w.play.firing c ↔
      ∃ a ∈ c.actions, (a.kind = .level ∨ a.kind = .mute ∨ a.kind = .unmute)
        ∧ ch ∈ resolveChans s (.cue w.play.firing c.number) a.spec
  named : ∀ (g : Grp) (a : Action), namesGroup g a = true ↔
    (a.kind = .group ∨ a.kind = .groupMute ∨ a.kind = .groupUnmute) ∧ a.spec = .group g
  standby : w.play.standby =
    if 1 < c.loopCounter ∧ c.loopCount ≠ 0 then
      if ∃ d ∈ s.play.store, d.number = c.loopTarget then some c.loopTarget
      else nextNumber c.number s.play.store
    else nextNumber c.number s.play.store
  store : w.play.store =
    if c.loopCount = 0 then s.play.store
    else s.play.store.map fun d =>
      if d.number = c.number then
        { d with loopCounter := if 1 < c.loopCounter then c.loopCounter - 1 else c.loopCount }
      else d

/-- The state w follows from s by the actions and the notices of a firing of cue c: the creations are made on
the state in which the clock has been started and the firing is pushed, each as its rules give it with the
firing's origin and fire time, and nothing but playback and the notices follows (R103, R104, R113). The moves that
the creations retire queue their notices in ascending slot order, before CUE FIRED (R71, R113; log entry 42). -/
structure FiresActions (cause : FireCause) (fireTime : Nat) (s w : State) (c : Cue) (dropped : Nat) : Prop where
  made : ∃ u : State,
    creations (.cue w.play.firing c.number) fireTime c.actions
      (opened { startForGo s with
        play := { s.play with
          firing := w.play.firing, follow := none, endWatch := none, recalls := w.play.recalls } })
      = (u, dropped) ∧
    { w with play := u.play, link := u.link } = u ∧
    w.link = queueAll
      ([.cueFired c.number w.play.firing cause fireTime dropped w.play.standby]
        ++ (if cause = .follow ∧ 0 < dropped then [.followDropped c.number w.play.firing dropped] else []))
      (closed s.link.instant.isSome u.link) ∧
    (s.link.instant = none → ∃ (others : List Notice) (rs : List Retirement),
      QueuesInstant others rs (startForGo s).link (closed false u.link))
  each : ∀ a ∈ c.actions, ∀ u : State,
    Creates (.cue w.play.firing c.number) a fireTime u
      (createMove (.cue w.play.firing c.number) a fireTime u).1
      (createMove (.cue w.play.firing c.number) a fireTime u).2

/-- The follow timer that the firing of cue c leaves armed, from its fire time (R105). -/
structure ArmsFollow (fireTime : Nat) (w : State) (c : Cue) : Prop where
  none : c.follow = .none → w.play.follow = .none ∧ w.play.endWatch = .none
  afterGo : c.follow = .afterGo → w.play.follow = some (fireTime + c.wait) ∧ w.play.endWatch = .none
  afterEnd : c.follow = .afterEnd →
    let k := (slotsWhere (fun mv => mv.ofFiring w.play.firing && mv.isFinite) w).length
    if 0 < k then w.play.endWatch = some ⟨w.play.firing, k, c.wait⟩ ∧ w.play.follow = .none
    else w.play.follow = some (fireTime + c.wait) ∧ w.play.endWatch = .none

/-- Whether the follow slot is armed for a due time that show time has reached (R107). -/
def followIsDue (s : State) : Prop := ∃ due, s.play.follow = some due ∧ due ≤ s.clock.showTime

/-! ## What an advance of show time leaves behind -/

/-- A due item of show time and its due time: a DELAYED or RUNNING SHOW-base move, or the follow slot (R81). -/
def DueAt (s : State) (i : DueItem) (d : Nat) : Prop :=
  match i with
  | .start k => ∃ mv, s.moves[k] = some mv ∧ mv.timeBase = .showTime ∧ mv.phase = .delayed ∧ mv.due = d
  | .finish k => ∃ mv start, s.moves[k] = some mv ∧ mv.timeBase = .showTime ∧ mv.phase = .running start
      ∧ mv.due = d
  | .follow => s.play.follow = some d

/-- The state u follows from s by the next due item of an advance from t0 to t1: one of the earliest due
time, that no start of its firing precedes (R61) and no retirement of a lower slot (R71; where the two rules
leave no item first, R61 alone decides, log entry 12), taken at its own due time (R81). The free value of
log entry 8 is read where several may be next. At a later due time than the one before, the retirements that waited
for the end of that instant are queued, lowest slot first (R71; log entry 42). -/
def TakesNext (t0 t1 : Nat) (s u : State) : Prop :=
  ∃ (i : DueItem) (d n : Nat),
    DueAt s i d ∧ t0 < d ∧ d ≤ t1 ∧ (∀ j e, DueAt s j e → t0 < e → d ≤ e) ∧
    (∀ j, DueAt s j d → startsBefore s j i = false) ∧
    ((∀ j, DueAt s j d → retiresBefore s j i = false)
      ∨ ∀ x, DueAt s x d → ∃ y, DueAt s y d ∧ comesBefore s y x = true) ∧
    (n = s.freeCount ∨ n = s.freeCount + 1) ∧
    let now : State := { s with
      freeCount := n, clock := { s.clock with showTime := max s.clock.showTime d }
      link := if s.clock.showTime < d then closed true s.link else s.link }
    u = settleItem i now (takeItem i now)

/-- The state w follows from s by the taking of n due items of an advance from t0 to t1, one after another. -/
inductive TakesItems (t0 t1 : Nat) : Nat → State → State → Prop where
  | none (s : State) : TakesItems t0 t1 0 s s
  | next (n : Nat) (s u w : State) : TakesNext t0 t1 s u → TakesItems t0 t1 n u w → TakesItems t0 t1 (n + 1) s w

/-- The state w follows from s by an advance of show time by n ms: every due item on the way is taken in
order (log entry 26 for the model's bound on their number), show time ends n ms later or at the last show
time, and there the clock is held with its notice (R81, R85). The retirements of the last instant are queued before
it (R71; log entry 42). -/
structure Advances (n : Nat) (s w : State) : Prop where
  items : ∃ (m : Nat) (v : State),
    TakesItems s.clock.showTime (min (s.clock.showTime + n) 4294967295) m (opened s) v ∧
    (m = Config.chainFuel ∨
      ∀ i d, DueAt v i d → s.clock.showTime < d → min (s.clock.showTime + n) 4294967295 < d) ∧
    { w with clock := v.clock, link := v.link } = v ∧
    w.link =
      if 4294967295 ≤ s.clock.showTime + n then
        (closed s.link.instant.isSome v.link).queue (.clock .saturated .held w.clock.source 4294967295)
      else closed s.link.instant.isSome v.link
  clock : w.clock =
    if 4294967295 ≤ s.clock.showTime + n then
      { s.clock with
        showTime := 4294967295, state := .held, lossTimer := none
        source := if s.clock.source = .freewheel then .pulse else s.clock.source }
    else { s.clock with showTime := s.clock.showTime + n }

/-- The state w follows from s by one ramp step of every channel (R9). -/
structure RampsOnce (s w : State) : Prop where
  chans : ∀ c : Chan, w.chans[c] =
    { s.chans[c] with atten := rampToward (rampInForce s c) (rampGoal s c) s.chans[c].atten }
  rest : { w with chans := s.chans } = s

/-! ## What a good reply leaves behind -/

/-- The state w is s with one strip record changed. -/
def StripBecomes (i : StripId) (t : Strip) (s w : State) : Prop :=
  w = { s with surf := { s.surf with strips := s.surf.strips.set i t } }

/-- Arming and the N-fold qualification of a strip's touch; a qualified touch or release that is its unit's
first or last is delivered to the unit (R123, R124, R125). -/
structure QualifiesTouch (i : StripId) (touch : Bool) (s w : State) : Prop where
  disarmed : s.surf.strips[i].armed = false → touch = true → w = s
  arms : s.surf.strips[i].armed = false → touch = false →
    StripBecomes i { s.surf.strips[i] with armed := true } s w
  agrees : s.surf.strips[i].armed = true → touch = s.surf.strips[i].touch →
    StripBecomes i { s.surf.strips[i] with counter := 0 } s w
  counts : s.surf.strips[i].armed = true → touch ≠ s.surf.strips[i].touch →
    s.surf.strips[i].counter + 1 < s.surf.qualify →
    StripBecomes i { s.surf.strips[i] with counter := s.surf.strips[i].counter + 1 } s w
  qualifies : s.surf.strips[i].armed = true → touch ≠ s.surf.strips[i].touch →
    s.surf.qualify ≤ s.surf.strips[i].counter + 1 →
    ∃ u : State, StripBecomes i { s.surf.strips[i] with touch := touch, counter := 0 } s u ∧
      (s.surf.strips[i].binding = none → w = u) ∧
      ∀ c : Chan, s.surf.strips[i].binding = some c →
        w = if touch then (if unitTouched s c then u else deliverTouch c i u)
          else (if unitTouched u c then u else deliverRelease c u)

/-- A strip's qualified touch turns off, and where it was its unit's last the release is delivered to the unit
(R120, R125, R127, R149). -/
structure DropsTouch (i : StripId) (s w : State) : Prop where
  idle : s.surf.strips[i].touch = false → StripBecomes i { s.surf.strips[i] with counter := 0 } s w
  touched : s.surf.strips[i].touch = true →
    ∃ u : State, StripBecomes i { s.surf.strips[i] with touch := false, counter := 0 } s u ∧
      (s.surf.strips[i].binding = none → w = u) ∧
      ∀ c : Chan, s.surf.strips[i].binding = some c → w = if unitTouched u c then u else deliverRelease c u

/-- The touches of the strips of a list turn off one after another (log entry 39). -/
def DropsTouches : List StripId → State → State → Prop
  | [], s, w => w = s
  | i :: is, s, w => ∃ u, DropsTouch i s u ∧ DropsTouches is u w

/-- From s to w the touches of the strips of a list turned off, with their units' releases, and besides the
surface nothing else changed; where none of them was touched, nothing besides the surface did (R125, R149). -/
structure ReleasesTouches (is : List StripId) (s w : State) : Prop where
  released : ∃ u : State, DropsTouches is s u ∧ { w with surf := u.surf } = u
  untouched : (∀ i ∈ is, s.surf.strips[i].touch = false) → { w with surf := s.surf } = s

/-- A strip that is disarmed, its touch off and its counter 0 (R123). -/
def disarmed (t : Strip) : Strip := { t with touch := false, counter := 0, armed := false }

/-- A module record as its module goes OFFLINE, with its calibration, if any, ended (R120, R163). -/
def offlineRecord (r : SurfaceModule) : SurfaceModule :=
  { r with
    online := false, misses := 0, phase := .none
    driveTimer := if r.phase = .none then r.driveTimer else none
    candMin := if r.phase = .none then r.candMin else none
    candMax := if r.phase = .none then r.candMax else none }

/-- The state w follows from s by a module's going OFFLINE: its record, the MODULE notice and, where it was
calibrating, the CALIBRATION notice, then the releases of its touched strips, every strip disarmed (R120, R135,
R163). -/
structure GoesOffline (m : ModuleId) (cause : ModuleCause) (s w : State) : Prop where
  modules : w.surf.modules = s.surf.modules.set m (offlineRecord s.surf.modules[m])
  strips : ∀ i : StripId, w.surf.strips[i] =
    if moduleOf i = m then disarmed s.surf.strips[i] else s.surf.strips[i]
  surf : { w.surf with modules := s.surf.modules, strips := s.surf.strips } = s.surf
  released : ReleasesTouches (stripsOf m)
    { s with
      surf := { s.surf with modules := w.surf.modules }
      link := queueAll
        (.module m false cause s.surf.modules[m].totalMisses ::
          if s.surf.modules[m].phase = .none then []
          else [.calibrationAborted m cause s.surf.modules[m].phase]) s.link } w

/-- The modules of a list go OFFLINE one after another (R133; log entry 39). -/
def GoOffline (cause : ModuleCause) : List ModuleId → State → State → Prop
  | [], s, w => w = s
  | m :: ms, s, w => ∃ u, GoesOffline m cause s u ∧ GoOffline cause ms u w

/-- A strip that supplies its unit reports its position (R125). -/
structure ReportsPosition (i : StripId) (s w : State) : Prop where
  blank : s.surf.strips[i].binding = none → w = s
  bound : ∀ c : Chan, s.surf.strips[i].binding = some c →
    w = if supplyingStrip s c = some i then deliverPosition c i s else s

/-- Whether a strip heeds touches and keys: its module is not calibrating and it is not FAILED (R121, R131). -/
def Heeds (s : State) (i : StripId) : Prop :=
  s.surf.modules[moduleOf i].phase = .none ∧ s.surf.strips[i].cal.state ≠ .failed

/-- A mute key pressed on a bound strip toggles the own mute of its unit, once in a reply for a linked pair,
unless the stop is ACTIVE or the strip does not heed keys; the list holds the pairs toggled so far (R131). -/
structure TakesKey (i : StripId) (key : Bool) (a b : State × List PairId) : Prop where
  pressed : ∀ c : Chan, a.1.surf.strips[i].binding = some c → key = true → Heeds a.1 i →
    a.1.stop.active = false → ¬ (isLinked a.1 c = true ∧ pairOf c ∈ a.2) →
    b.2 = (if isLinked a.1 c then pairOf c :: a.2 else a.2) ∧
    (∀ d : Chan, b.1.chans[d] =
      { a.1.chans[d] with
        ownMute := if d ∈ unitChans a.1 c then !a.1.chans[c].ownMute else a.1.chans[d].ownMute
        atten := rampAfter a.1 b.1 d }) ∧
    { b.1 with chans := a.1.chans } = a.1
  idle : (∀ c : Chan, a.1.surf.strips[i].binding = some c → key = false ∨ ¬ Heeds a.1 i
      ∨ a.1.stop.active = true ∨ (isLinked a.1 c = true ∧ pairOf c ∈ a.2)) → b = a

/-- One strip of a good reply is taken: its readings are recorded, then its touch, its position and its key
(R121, R122). -/
def StripTaken (i : StripId) (r : StripReport) (a b : State × List PairId) : Prop :=
  ∃ s1 s2 s3 : State,
    StripBecomes i { a.1.surf.strips[i] with
      lastRaw := r.raw, lastPos := rawToPosition a.1.surf.strips[i].cal r.raw, reported := r.touch } a.1 s1 ∧
    (Heeds s1 i → QualifiesTouch i r.touch s1 s2 ∧ ReportsPosition i s2 s3) ∧
    (¬ Heeds s1 i → s3 = s1) ∧
    TakesKey i r.key (s3, a.2) b

/-- The strips of a good reply are taken one after another (R121). -/
def StripsTaken : List (StripId × StripReport) → State × List PairId → State × List PairId → Prop
  | [], a, b => b = a
  | x :: xs, a, b => ∃ m, StripTaken x.1 x.2 a m ∧ StripsTaken xs m b

/-- The entry that the evaluation writes for a strip from its two raw values, and whether it passed (R160). -/
def evaluated (lo hi : Nat) : Bool × CalEntry :=
  if lo ≤ 100 ∧ 900 ≤ hi ∧ lo + 800 ≤ hi then (true, ⟨lo, hi, .calibrated⟩) else (false, ⟨0, 1023, .failed⟩)

/-- A module's evaluation from its candidates: every strip takes its entry and its last position through it,
the calibration ends, and the CALIBRATION notice is queued (R160, R164). -/
structure Evaluates (m : ModuleId) (lows highs : List Nat) (s w : State) : Prop where
  strips : ∀ j : Fin 8, w.surf.strips[stripAt m j] =
    { s.surf.strips[stripAt m j] with
      cal := (evaluated (lows.getD j.val 0) (highs.getD j.val 0)).2
      lastPos := rawToPosition (evaluated (lows.getD j.val 0) (highs.getD j.val 0)).2
        s.surf.strips[stripAt m j].lastRaw }
  others : ∀ i : StripId, moduleOf i ≠ m → w.surf.strips[i] = s.surf.strips[i]
  surf : { w.surf with strips := s.surf.strips } =
    { s.surf with modules := s.surf.modules.set m { s.surf.modules[m] with
        phase := .none, driveTimer := none, candMin := none, candMax := none } }
  link : w.link = s.link.queue (.calibrated m ((lows.zip highs).map fun x =>
    ((evaluated x.1 x.2).1, (evaluated x.1 x.2).2.min, (evaluated x.1 x.2).2.max)))
  rest : { w with surf := s.surf, link := s.link } = s

/-- The sampling reply of a module: a good reply to an exchange that started in the SAMPLE phase the module
is in; any other reply leaves the calibration alone (R157, R158). -/
structure TakesSample (m : ModuleId) (startedIn : CalPhase) (raws : List Nat) (s w : State) : Prop where
  low : s.surf.modules[m].phase = .sampleLow → startedIn = .sampleLow →
    w = { s with surf := { s.surf with modules := s.surf.modules.set m { s.surf.modules[m] with
      candMin := some raws, phase := .driveHigh, driveTimer := some s.clock.wallTime } } }
  high : ∀ lows : List Nat, s.surf.modules[m].phase = .sampleHigh → startedIn = .sampleHigh →
    s.surf.modules[m].candMin = some lows → lows.length = 8 → raws.length = 8 → Evaluates m lows raws s w
  other : (s.surf.modules[m].phase = .sampleLow ∨ s.surf.modules[m].phase = .sampleHigh →
      startedIn ≠ s.surf.modules[m].phase) → w = s

/-! ## The laws of the device -/

/-- A level lies within the scale (R1). -/
def InScale (x : Int) : Prop := -3072 ≤ x ∧ x ≤ 320

/-- The lane start and the lane target of a claim lie within the scale (R1). -/
def ClaimInScale (cl : Option Claim) : Prop := ∀ k ∈ cl, InScale k.start ∧ InScale k.target

/-- A level or a delta lies within the range of its mode (R45). -/
def ValueInRange (mode : Mode) (v : Int) : Prop :=
  match mode with
  | .abs => InScale v
  | .rel => -3392 ≤ v ∧ v ≤ 3392

/-- The recorded targets of a pending set lie within the scale (R1, R45). -/
def PendingInScale : Pending → Prop
  | .chans _ => True
  | .lanes ls => ∀ l ∈ ls, InScale l.2
  | .group _ => True
  | .groupTo _ t => InScale t

/-- A taper table: every entry within the scale, none below the entry before it (R12). -/
def TableLaw (t : Vector Int 33) : Prop :=
  (∀ k : Fin 33, InScale t[k]) ∧ ∀ j k : Fin 33, j ≤ k → t[j] ≤ t[k]

/-- The law of levels: every level, trim and attenuation the part keeps lies within its range (R1). -/
structure LevelLaw (s : State) : Prop where
  chans : ∀ c : Chan, InScale s.chans[c].base ∧ InScale s.chans[c].cueLevel
    ∧ (-768 ≤ s.chans[c].trim ∧ s.chans[c].trim ≤ 768)
    ∧ (-3072 ≤ s.chans[c].atten ∧ s.chans[c].atten ≤ 0) ∧ ClaimInScale s.chans[c].claim
  groups : ∀ g : Grp, InScale s.groups[g].offset ∧ ClaimInScale s.groups[g].claim
  tables : TableLaw s.taperA ∧ TableLaw s.taperB
  moves : ∀ (k : Slot) (mv : Move), s.moves[k] = some mv →
    ValueInRange mv.mode mv.value ∧ PendingInScale mv.pending
  store : ∀ c ∈ s.play.store, ∀ a ∈ c.actions, ValueInRange a.mode a.value
  recalls : ∀ r ∈ s.play.recalls,
    (∀ e ∈ r.chans, InScale e.2.1) ∧ ∀ e ∈ r.groups, InScale e.2.1

/-- The law of the cue store and the standby pointer (R93, R100). -/
structure StoreLaw (p : Playback) : Prop where
  ascending : p.store.Pairwise fun a b => a.number < b.number
  cues : p.store.length ≤ 400
  pool : poolUsed p.store ≤ 2048
  standby : ∀ n, p.standby = some n → ∃ c ∈ p.store, c.number = n

/-- The law of the show stop (R177, R178): while it is ACTIVE every move has origin REJOIN, the clock is
not RUNNING or STEPPING, every channel without ANNOUNCE has its composed mute on, and no follow and no
end watch is pending; while STOP IN is asserted it is ACTIVE. -/
structure StopLaw (s : State) : Prop where
  moves : s.stop.active = true → ∀ (k : Slot) (mv : Move), s.moves[k] = some mv → ∃ c, mv.origin = .rejoin c
  clock : s.stop.active = true → s.clock.state ≠ .running ∧ s.clock.state ≠ .stepping
  muted : s.stop.active = true → ∀ c : Chan, s.chans[c].announce = false → composedMute s c = true
  follow : s.stop.active = true → s.play.follow = none ∧ s.play.endWatch = none
  line : s.stop.line = true → s.stop.active = true

/-- The law of the control link: the bounds of the queues and of the statistics (R184, R187, R189), and
that nothing waits for an idle transmitter (R185, R186); no instant is in hand between two commands (log entry 42). -/
structure LinkLaw (k : Link) : Prop where
  queue : k.rxQueue.length ≤ 4
  notices : k.notices.length ≤ 32
  mask : k.mask.toNat < 512
  stats : k.stats.received ≤ 65535 ∧ k.stats.checksum ≤ 65535 ∧ k.stats.length ≤ 65535
    ∧ k.stats.timeouts ≤ 65535 ∧ k.stats.framing ≤ 65535 ∧ k.stats.breaks ≤ 65535
    ∧ k.stats.overruns ≤ 65535 ∧ k.stats.dropped ≤ 65535
  dispatched : k.rxQueue ≠ [] → k.reply.isSome = true
  replying : k.reply.isSome = true → k.tx.isSome = true
  sending : k.notices ≠ [] → k.tx.isSome = true ∨ k.held = true
  held : k.held = true → k.rxQueue = [] ∧ k.reply = none ∧ k.tx = none
  instant : k.instant = none

end Sys2Proof.Machine
end

