-- ==== Sys2Proof/WellFormed.lean ====
section
/-! DEFINITION. Which commands can reach the part: the checks that the operands' types do not make. -/

namespace Sys2Proof

/-- The TYPE codes of the requests (spec 11, section 11.7). -/
def requestCodes : List Nat :=
  [0x01, 0x02, 0x03, 0x04,
   0x10, 0x11, 0x12, 0x13, 0x14, 0x15, 0x16, 0x17, 0x18, 0x19, 0x1A, 0x1B,
   0x20, 0x21, 0x22,
   0x28, 0x29, 0x2A, 0x2B, 0x2C, 0x2D, 0x2E,
   0x30, 0x31, 0x32, 0x33, 0x34, 0x35, 0x36, 0x37, 0x38,
   0x40, 0x41, 0x42, 0x43, 0x44, 0x48, 0x49,
   0x50, 0x51, 0x52]

/-- A frame's payload has 0 to 1024 bytes (R182). -/
def fitsFrame (payload : List Byte) : Bool := decide (payload.length ≤ 1024)

/-- The payload of an unlink: a pair number and operation 0 (R40). -/
def isUnlinkPayload : List Byte → Bool
  | [_, op] => op == 0
  | _ => false

/-- The check of one command. -/
def wellFormed : Instr → Bool
  | .identify _ p => fitsFrame p
  | .reset _ p => fitsFrame p
  | .linkStatus _ p => fitsFrame p
  | .noticeEnable _ p => fitsFrame p
  | .badType code _ p => fitsFrame p && !requestCodes.contains code.toNat
  | .channelConfig _ p => fitsFrame p
  | .channelQuery _ p => fitsFrame p
  | .levelSet _ p => fitsFrame p
  | .trimSet _ p => fitsFrame p
  | .muteSet _ p => fitsFrame p
  | .pairLink _ p => fitsFrame p && !isUnlinkPayload p
  | .pairUnlink _ p => fitsFrame p && isUnlinkPayload p
  | .groupSet _ p => fitsFrame p
  | .groupMembers _ p => fitsFrame p
  | .setWrite _ p => fitsFrame p
  | .setRead _ p => fitsFrame p
  | .taperWrite _ p => fitsFrame p
  | .taperRead _ p => fitsFrame p
  | .moveStart _ p => fitsFrame p
  | .moveCancel _ p => fitsFrame p
  | .moveQuery _ p => fitsFrame p
  | .clockSource _ p => fitsFrame p
  | .clockRate _ p => fitsFrame p
  | .clockRun _ p => fitsFrame p
  | .clockHold _ p => fitsFrame p
  | .clockStep _ p => fitsFrame p
  | .clockLocate _ p => fitsFrame p
  | .clockQuery _ p => fitsFrame p
  | .cueWrite _ p => fitsFrame p
  | .cueRead _ p => fitsFrame p
  | .cueDelete _ p => fitsFrame p
  | .cueClear _ p => fitsFrame p
  | .go _ p => fitsFrame p
  | .back _ p => fitsFrame p
  | .jump _ p => fitsFrame p
  | .playbackQuery _ p => fitsFrame p
  | .playbackConfig _ p => fitsFrame p
  | .surfaceConfig _ p => fitsFrame p
  | .bankSet _ p => fitsFrame p
  | .surfaceQuery _ p => fitsFrame p
  | .calibrate _ p => fitsFrame p
  | .latchRelease _ p => fitsFrame p
  | .laneConfig _ p => fitsFrame p
  | .laneQuery _ p => fitsFrame p
  | .stop _ p => fitsFrame p
  | .stopClear _ p => fitsFrame p
  | .stopConfig _ p => fitsFrame p
  | .characterReceived _ _ => true
  | .gapTimerExpiry => true
  | .lineBreak => true
  | .transmitEnd => true
  | .powerOn _ _ _ _ _ => true
  | .wallMillisecond => true
  | .dividerCount => true
  | .syncInEdge _ => true
  | .pulseLoss => true
  | .startEvent _ => true
  | .traversalEnd _ => true
  | .endWatchExpiry => true
  | .followExpiry => true
  | .exchangeStart => true
  | .goodReply r => decide (r.length = 28)
  | .replyWindowExpiry => true
  | .driveTimerExpiry _ => true
  | .frameStart => true
  | .frameCompletion _ => true
  | .laneReadyEdge _ _ => true
  | .stopInAsserted => true
  | .stopInReleased => true
  | .lineHighAfterBreak => true
  | .resetInReleased => true

end Sys2Proof
end

