-- ==== Sys2Proof/Certificates/Slice0/Obligations.lean ====
section
/-! DEFINITION. The statements for the provers. Each says in its docstring which rules of spec/ it is about,
and which log entry a clause rests on where the model chose. -/

open Sys2Proof Sys2Proof.Machine

/-! ## The step, requests and their answers -/

/-- The step takes the command at the front of the queue and runs it on the state with the queue's rest; on
an empty queue the block idles (log entry 1: the queue is the model's). -/
def Obligations.StepRunsFront : Prop :=
  (∀ (c : Instr) (rest : List Instr) (s : State),
    step { s with pending := c :: rest } = exec c { s with pending := rest }) ∧
  ∀ s : State, s.pending = [] → step s = .next s

/-- Every step ends in a next state, whatever command is in front, and takes one command from the queue: the
part answers every request, counts every discard and takes or ignores every event (log entry 1). -/
def Obligations.EveryStepGoesOn : Prop :=
  ∀ s : State, ∃ t, step s = .next t ∧ t.pending = s.pending.tail

/-- Each request that reaches an idle link is answered: its frame is counted, a reply with its TYPE plus 80h
and its TAG begins to be sent, and the reply of a refused request carries the status byte alone and leaves
the state as the counting of the frame left it (chapter 11, section 11.3; log entry 2). -/
def Obligations.RequestAnswered : Prop :=
  ∀ (c : Instr) (f : Frame) (s : State), frameOfCommand c = some f → LinkIdle s →
    f.payload.length ≤ 1024 →
    ∃ (st : Status) (fields : List Byte) (w : State),
      exec c s = .next (sending f (st.byte :: fields) w) ∧
      (st ≠ .ok → st ≠ .accepted → fields = [] ∧ w = received s)

/-- What happens to a request frame when the link is not idle: RESET IN held takes nothing from the line; a
frame that completes while a reply waits joins the receive queue, or is discarded and counted as an
overrun when the queue holds four; with no reply waiting it is carried out at once and its reply waits
for the transmitter (chapter 11, sections 11.2, 11.3 and 11.6; log entries 2 and 3). A payload that no LENGTH can
count is a length error (log entry 17). -/
def Obligations.RequestQueued : Prop :=
  ∀ (c : Instr) (f : Frame) (s : State), frameOfCommand c = some f →
    (s.link.held = true → exec c s = .next s) ∧
    (s.link.held = false → 1024 < f.payload.length →
      exec c s = .next (updLink (Link.count fun t => { t with length := bump t.length }) s)) ∧
    (s.link.held = false → f.payload.length ≤ 1024 → s.link.tx.isSome = true → s.link.reply.isSome = true →
      s.link.rxQueue.length < 4 →
      exec c s = .next (updLink (fun k => { k with rxQueue := k.rxQueue ++ [f] }) (received s))) ∧
    (s.link.held = false → f.payload.length ≤ 1024 → s.link.tx.isSome = true → s.link.reply.isSome = true →
      4 ≤ s.link.rxQueue.length →
      exec c s = .next (updLink (Link.count fun t => { t with overruns := bump t.overruns }) (received s))) ∧
    (s.link.held = false → f.payload.length ≤ 1024 → s.link.tx.isSome = true → s.link.reply = none →
      s.link.rxQueue = [] →
      exec c s = .next (updLink (fun k => { k with reply := some (replyTo f (serve f (received s)).2) })
        (serve f (received s)).1))

/-- A TYPE that names no request (the command `badType`) is answered with BAD_TYPE, a payload whose length is
not the one its request asks for with BAD_LENGTH, and a payload of that length with a value outside its list
or its range with BAD_VALUE; none of them does any work. BAD_LENGTH is the first check of every request, and
the values are the second (chapter 11, sections 11.3 and 11.7; chapter 2, sections 2.6 and 2.7). -/
def Obligations.RefusedByFrame : Prop :=
  ∀ (c : Instr) (f : Frame) (s : State), frameOfCommand c = some f → LinkIdle s →
    f.payload.length ≤ 1024 →
    (f.type.toNat ∉ requestCodes → exec c s = .next (answeredOnly f [0x02] s)) ∧
    (f.type.toNat ∈ requestCodes → lengthFits f.type.toNat f.payload = false →
      exec c s = .next (answeredOnly f [0x03] s)) ∧
    (f.type.toNat ∈ requestCodes → lengthFits f.type.toNat f.payload = true →
      ¬ ValuesFit f.type.toNat f.payload → exec c s = .next (answeredOnly f [0x04] s))

/-! ## The level arithmetic (spec 01) -/

/-- R13: the forward mapping, from a fader position to a level, with what R13 says of it for a table that
meets R12. -/
def Obligations.ForwardMapping : Prop :=
  (∀ (t : Vector Int 33) (x : Nat) (h : x < 1024), taperForward t x =
    t[x / 32] + Int.tdiv ((t[x / 32 + 1] - t[x / 32]) * ((x % 32 : Nat) : Int)) 32) ∧
  (∀ t : Vector Int 33, taperForward t 1024 = t[32]) ∧
  ∀ t : Vector Int 33, TableLaw t →
    (∀ (x : Nat) (h : x < 1024), 0 ≤ (t[x / 32 + 1] - t[x / 32]) * ((x % 32 : Nat) : Int)) ∧
    (∀ x y : Nat, x ≤ y → y ≤ 1024 → taperForward t x ≤ taperForward t y) ∧
    (∀ k : Fin 33, taperForward t (32 * k.val) = t[k]) ∧
    ∀ x : Nat, x ≤ 1024 → t[0] ≤ taperForward t x ∧ taperForward t x ≤ t[32]

/-- R14: the inverse mapping, from a level to a fader position, with what R14 says of it for a table that
meets R12. The last clause is stated for a level at or below T[32], which is where the mapping back can
reach it; R14 names no upper end (DEDUCED, log entry 32). -/
def Obligations.InverseMapping : Prop :=
  (∀ (t : Vector Int 33) (v : Int), v ≤ t[0] → taperInverse t v = 0) ∧
  (∀ (t : Vector Int 33) (v : Int), t[0] < v → t[32] ≤ v → taperInverse t v = 1024) ∧
  ∀ t : Vector Int 33, TableLaw t →
    (∀ (v : Int) (k : Fin 32), t[0] < v → v < t[32] → v ≤ t[k.val + 1] → (∀ j : Fin 32, v ≤ t[j.val + 1] → k ≤ j) →
      t[k.val] < v ∧ 0 < t[k.val + 1] - t[k.val] ∧
      ∃ q : Nat, taperInverse t v = 32 * k.val + q ∧
        (v - t[k.val]) * 32 ≤ q * (t[k.val + 1] - t[k.val]) ∧
        (q - 1) * (t[k.val + 1] - t[k.val]) < (v - t[k.val]) * 32) ∧
    (∀ v w : Int, v ≤ w → taperInverse t v ≤ taperInverse t w) ∧
    (∀ j : Fin 33, j.val < 32 → (∀ i : Fin 33, i < j → t[i] < t[j]) → taperInverse t t[j] = 32 * j.val ∨ t[j] = t[32]) ∧
    ∀ v : Int, t[0] < v → v ≤ t[32] → v ≤ taperForward t (taperInverse t v) ∧
      ∀ j : Fin 33, v ≤ t[j] → taperForward t (taperInverse t v) ≤ t[j]

/-- R18 and R19: the progress of a running move from 0 to 4096 and what the four curves make of it. -/
def Obligations.ProgressCurves : Prop :=
  (∀ e : Nat, progress e 0 = 4096) ∧
  (∀ e d : Nat, 0 < d → progress e d = min e d * 4096 / d) ∧
  (∀ e d : Nat, progress e d ≤ 4096) ∧
  (∀ e e' d : Nat, e ≤ e' → progress e d ≤ progress e' d) ∧
  (∀ e d : Nat, d ≤ e → progress e d = 4096) ∧
  (∀ e d : Nat, d ≤ 600000 → min e d * 4096 ≤ 2457600000) ∧
  (∀ p : Nat, p ≤ 4096 → shape .linear p = p ∧ shape .slowStart p = p * p / 4096
    ∧ shape .fastStart p = p * (8192 - p) / 4096
    ∧ shape .sCurve p =
        if p ≤ 2048 then p * p / 2048 else 4096 - (4096 - p) * (4096 - p) / 2048) ∧
  (∀ u : Curve, shape u 0 = 0 ∧ shape u 4096 = 4096) ∧
  (∀ (u : Curve) (p q : Nat), p ≤ q → q ≤ 4096 → shape u p ≤ shape u q ∧ shape u q ≤ 4096) ∧
  shape .sCurve 2048 = 2048

/-- R21, R22 and R23: the lane value under the two laws through a given table, its ends and its bounds. -/
def Obligations.LaneValue : Prop :=
  (∀ (t : Vector Int 33) (a b : Int) (c : Nat),
    laneValue .db t a b c = a + Int.tdiv ((b - a) * c) 4096) ∧
  (∀ (t : Vector Int 33) (a b : Int) (c : Nat), 0 < c → c < 4096 →
    laneValue .taper t a b c =
      max (min a b) (min (max a b) (taperForward t
        ((taperInverse t a : Int)
          + Int.tdiv (((taperInverse t b : Int) - taperInverse t a) * c) 4096).toNat))) ∧
  (∀ (t : Vector Int 33) (a b : Int) (c : Nat), |laneValue .db t a b c - a| * 4096 ≤ |(b - a) * c|) ∧
  (∀ (a b : Int) (c : Nat), InScale a → InScale b → c ≤ 4096 → |(b - a) * c| ≤ 3392 * 4096) ∧
  (∀ (law : Law) (t : Vector Int 33) (a b : Int), laneValue law t a b 0 = a ∧ laneValue law t a b 4096 = b) ∧
  ∀ (law : Law) (t : Vector Int 33) (a b : Int) (c : Nat), c ≤ 4096 →
    min a b ≤ laneValue law t a b c ∧ laneValue law t a b c ≤ max a b

/-- R2, R3, R5, R6, R7 and R8: the live level V of a channel, read through the channel's own taper table, and
the live offset G of a group, read through table A, from their claims at the reader's instant; the composed
level with its ceiling flag, the effective level, the composed mute and the ramp length in force, each from the
channel's record, its groups and the stop. A claim's value through any given table is spelled out too, for the
removals that read it through a new one (R62; log entry 21). -/
def Obligations.Composition : Prop :=
  (∀ (s : State) (c : Chan), s.chans[c].claim = none → liveLevel s c = s.chans[c].base) ∧
  (∀ (s : State) (g : Grp), s.groups[g].claim = none → liveOffset s g = s.groups[g].offset) ∧
  (∀ (s : State) (k : Slot) (mv : Move) (start : Nat), s.moves[k] = some mv → mv.phase = .running start →
    let elapsed := match mv.timeBase with
      | .showTime => s.clock.showTime - start
      | .wallTime => (s.clock.wallTime + 4294967296 - start) % 4294967296
    let curve := shape mv.curve (progress elapsed mv.duration)
    (∀ (t : Vector Int 33) (cl : Claim) (free : Int), cl.slot = k →
      claimValue s t cl free = laneValue mv.law t cl.start cl.target curve) ∧
    (∀ (c : Chan) (cl : Claim), s.chans[c].claim = some cl → cl.slot = k →
      liveLevel s c = laneValue mv.law (if s.chans[c].taper = .a then s.taperA else s.taperB)
        cl.start cl.target curve) ∧
    ∀ (g : Grp) (cl : Claim), s.groups[g].claim = some cl → cl.slot = k →
      liveOffset s g = laneValue mv.law s.taperA cl.start cl.target curve) ∧
  ∀ (s : State) (c : Chan),
    let raw := liveLevel s c + s.chans[c].trim
      + ∑ g ∈ (Finset.univ : Finset Grp).filter (fun g => inGroup s g c = true), liveOffset s g
    let silent := liveLevel s c = -3072 ∨ ∃ g : Grp, inGroup s g c = true ∧ liveOffset s g = -3072
    (silent → composedLevel s c = -3072 ∧ ceilingFlag s c = false) ∧
    (¬ silent → composedLevel s c = max (-3072) (min 320 raw) ∧ (ceilingFlag s c = true ↔ 320 < raw)) ∧
    (composedLevel s c = -3072 ∨ s.chans[c].atten = -3072 → effectiveLevel s c = -3072) ∧
    (composedLevel s c ≠ -3072 → s.chans[c].atten ≠ -3072 →
      effectiveLevel s c = max (-3072) (composedLevel s c + s.chans[c].atten)) ∧
    (s.chans[c].atten ≤ 0 → -3072 ≤ effectiveLevel s c ∧ effectiveLevel s c ≤ 320) ∧
    (composedMute s c = true ↔
      s.chans[c].ownMute = true ∨ (∃ g : Grp, inGroup s g c = true ∧ s.groups[g].mute = true)
        ∨ (s.stop.active = true ∧ s.chans[c].announce = false)) ∧
    rampInForce s c =
      if s.stop.active = true ∧ s.chans[c].announce = false then s.stop.ramp else s.chans[c].ramp

/-- R9: one ramp step moves m toward its goal by ceil(3072 / L) and stops there, and a full ramp completes
within L steps; each wall millisecond takes one step of every channel (see WallMillisecond). The goal is -3072 q
under the composed mute and 0 q otherwise. -/
def Obligations.MuteRamp : Prop :=
  (∀ (s : State) (c : Chan), rampGoal s c = if composedMute s c = true then -3072 else 0) ∧
  (∀ (len : Nat) (goal m : Int), 0 < len → (goal = -3072 ∨ goal = 0) → -3072 ≤ m → m ≤ 0 →
    let n : Nat := (3072 + len - 1) / len
    rampToward len goal m = (if goal = -3072 then max (-3072) (m - n) else min 0 (m + n)) ∧
    -3072 ≤ rampToward len goal m ∧ rampToward len goal m ≤ 0) ∧
  (∀ (len : Nat) (goal : Int), rampToward len goal goal = goal) ∧
  (∀ (len : Nat) (goal m : Int), 0 < len → (goal = -3072 ∨ goal = 0) → -3072 ≤ m → m ≤ 0 →
    (rampToward len goal)^[len] m = goal) ∧
  ∀ len : Nat, 0 < len →
    (3072 + ((3072 + len - 1) / len) - 1) / ((3072 + len - 1) / len) ≤ len

/-! ## Requests on channels, pairs, groups, sets and tapers (spec 02, spec 01) -/

/-- CHANNEL CONFIG writes the six attributes of a channel and of its linked partner, and nothing else but what
they bring: SAFE turning on removes claims of CUE and BACK origin, and a ramp length left at 0 sends m to its
goal (chapter 2, sections 2.3 and 2.6; log entry 21 for the table V is read through). The state it leaves is
settled: the follows armed at or before show time then expire (R107; log entry 7). The moves left without a
claim retire SUPERSEDED in slot order and are reported to the end watch (R71, R72, R108). The moves left without
a claim retire SUPERSEDED in slot order and are reported to the end watch (R71, R72, R108). The moves left
without a claim retire SUPERSEDED in slot order and are reported to the end watch (R71, R72, R108). The moves
left without a claim retire SUPERSEDED in slot order and are reported to the end watch (R71, R72, R108). -/
def Obligations.ChannelConfig : Prop :=
  ∀ (tag : Byte) (s : State) (c : Chan) (a : Attributes) (r : Nat), LinkIdle s → r < 65536 →
    let p := u8 c.val ++ u8 a.taper.code ++ u8 a.mode.code ++ u8 a.policy.code ++ flag a.safe
      ++ flag a.announce ++ u16 r
    let gone := (unitChans s c).filter fun d => a.safe && !s.chans[d].safe && claimedByShow s d
    ∃ w, exec (.channelConfig tag p) s
        = .next (sending ⟨0x10, tag, p⟩ ([0x00] ++ flag (decide (250 < r)) ++ u8 c.val) (settle w)) ∧
      (∀ d : Chan, d ∉ unitChans s c → w.chans[d] = s.chans[d]) ∧
      (∀ d ∈ unitChans s c, w.chans[d] =
        { s.chans[d] with
          taper := a.taper, mode := a.mode, policy := a.policy, safe := a.safe, announce := a.announce
          ramp := min r 250
          atten := rampAfter s w d
          base := if d ∈ gone then unclaimedThrough s a.taper d s.chans[d].claim else s.chans[d].base
          claim := if d ∈ gone then none else s.chans[d].claim }) ∧
      (∀ k : Slot, w.moves[k] = afterRemoval s gone k) ∧
      w.groups = s.groups ∧ Reports (goneWith .superseded s w) (received s) w ∧
      KeepsShow { received s with chans := w.chans } w

/-- LEVEL SET: refused with COLLISION while the operator holds the channel's unit; otherwise the claims of the
unit are removed and B and the cue level of each of its channels take the clamped level (chapter 2, section
2.6). The state it leaves is settled: the follows armed at or before show time then expire (R107; log entry 7).
The moves left without a claim retire SUPERSEDED in slot order and are reported to the end watch (R71, R72,
R108). The moves left without a claim retire SUPERSEDED in slot order and are reported to the end watch (R71,
R72, R108). The moves left without a claim retire SUPERSEDED in slot order and are reported to the end watch
(R71, R72, R108). The moves left without a claim retire SUPERSEDED in slot order and are reported to the end
watch (R71, R72, R108). -/
def Obligations.LevelSet : Prop :=
  ∀ (tag : Byte) (s : State) (c : Chan) (l0 l1 : Byte), LinkIdle s →
    let p := u8 c.val ++ [l0, l1]
    let level := max (-3072) (min 320 (les16 l0 l1))
    ((∃ d ∈ unitChans s c, Held s d) →
      exec (.levelSet tag p) s = .next (answeredOnly ⟨0x12, tag, p⟩ [0x08] s)) ∧
    ((∀ d ∈ unitChans s c, ¬ Held s d) →
      ∃ w, exec (.levelSet tag p) s
          = .next (sending ⟨0x12, tag, p⟩
              ([0x00] ++ flag (decide (level ≠ les16 l0 l1)) ++ u8 c.val ++ s16 level) (settle w)) ∧
        (∀ d ∈ unitChans s c,
          w.chans[d] = { s.chans[d] with base := level, cueLevel := level, claim := none }) ∧
        (∀ d : Chan, d ∉ unitChans s c → w.chans[d] = s.chans[d]) ∧
        (∀ k : Slot, w.moves[k] = afterRemoval s (unitChans s c) k) ∧
        w.groups = s.groups ∧ Reports (goneWith .superseded s w) (received s) w ∧ KeepsShow (received s) w)

/-- TRIM SET writes the clamped trim of one channel and nothing else; MUTE SET writes the own mute of a
channel and of its linked partner, and m only where the ramp length in force is 0 (chapter 2, section 2.6;
chapter 1, section 1.4). -/
def Obligations.TrimAndMute : Prop :=
  (∀ (tag : Byte) (s : State) (c : Chan) (t0 t1 : Byte), LinkIdle s →
    let p := u8 c.val ++ [t0, t1]
    let trim := max (-768) (min 768 (les16 t0 t1))
    exec (.trimSet tag p) s
      = .next (sending ⟨0x13, tag, p⟩
          ([0x00] ++ flag (decide (trim ≠ les16 t0 t1)) ++ u8 c.val ++ s16 trim)
          { received s with chans := s.chans.set c { s.chans[c] with trim := trim } })) ∧
  ∀ (tag : Byte) (s : State) (c : Chan) (on : Bool), LinkIdle s →
    let p := u8 c.val ++ flag on
    ∃ w, exec (.muteSet tag p) s = .next (sending ⟨0x14, tag, p⟩ ([0x00] ++ u8 c.val) w) ∧
      (∀ d : Chan, w.chans[d] =
        { s.chans[d] with
          ownMute := if d ∈ unitChans s c then on else s.chans[d].ownMute
          atten := rampAfter s w d }) ∧
      { w with chans := s.chans } = received s

/-- PAIR LINK: refused with COLLISION unless both channels are in AUTO; unlinking changes the link alone;
linking a pair already linked changes nothing; linking copies the even channel's shared fields onto the odd one,
with the effects their rules give, and turns the link on (chapter 2, section 2.6; log entry 27; log entry 21 for
the copied taper through which the odd channel's V is read into B). The state each leaves is settled: the
follows armed at or before show time then expire (R107; log entry 7). The moves left without a claim retire
SUPERSEDED in slot order and are reported to the end watch (R71, R72, R108). The moves left without a claim
retire SUPERSEDED in slot order and are reported to the end watch (R71, R72, R108). The moves left without a
claim retire SUPERSEDED in slot order and are reported to the end watch (R71, R72, R108). The moves left without
a claim retire SUPERSEDED in slot order and are reported to the end watch (R71, R72, R108). -/
def Obligations.PairLink : Prop :=
  ∀ (tag : Byte) (s : State) (k : PairId), LinkIdle s →
    let even := evenOf k
    let odd := oddOf k
    let auto := s.chans[even].ownership = .auto ∧ s.chans[odd].ownership = .auto
    let gone := [odd].filter fun d => s.chans[even].safe && !s.chans[d].safe && claimedByShow s d
    (¬ auto →
      exec (.pairLink tag (u8 k.val ++ [1])) s = .next (answeredOnly ⟨0x15, tag, u8 k.val ++ [1]⟩ [0x08] s) ∧
      exec (.pairUnlink tag (u8 k.val ++ [0])) s
        = .next (answeredOnly ⟨0x15, tag, u8 k.val ++ [0]⟩ [0x08] s)) ∧
    (auto → exec (.pairUnlink tag (u8 k.val ++ [0])) s
        = .next (sending ⟨0x15, tag, u8 k.val ++ [0]⟩ ([0x00] ++ u8 k.val ++ [0])
            (settle { received s with pairLinked := s.pairLinked.set k false }))) ∧
    (auto → s.pairLinked[k] = true → exec (.pairLink tag (u8 k.val ++ [1])) s
        = .next (sending ⟨0x15, tag, u8 k.val ++ [1]⟩ ([0x00] ++ u8 k.val ++ [1]) (settle (received s)))) ∧
    (auto → s.pairLinked[k] = false →
      ∃ w, exec (.pairLink tag (u8 k.val ++ [1])) s
          = .next (sending ⟨0x15, tag, u8 k.val ++ [1]⟩ ([0x00] ++ u8 k.val ++ [1]) (settle w)) ∧
        w.pairLinked = s.pairLinked.set k true ∧
        (∀ d : Chan, d ≠ odd → w.chans[d] = s.chans[d]) ∧
        w.chans[odd] =
          { s.chans[odd] with
            taper := s.chans[even].taper, mode := s.chans[even].mode, policy := s.chans[even].policy
            safe := s.chans[even].safe, announce := s.chans[even].announce, groups := s.chans[even].groups
            ramp := s.chans[even].ramp, ownMute := s.chans[even].ownMute
            atten := rampAfter s w odd
            base := if odd ∈ gone then unclaimedThrough s s.chans[even].taper odd s.chans[odd].claim
              else s.chans[odd].base
            claim := if odd ∈ gone then none else s.chans[odd].claim } ∧
        (∀ j : Slot, w.moves[j] = afterRemoval s gone j) ∧
        w.groups = s.groups ∧ Reports (goneWith .superseded s w) (received s) w ∧
        KeepsShow { received s with chans := w.chans, pairLinked := w.pairLinked } w)

/-- GROUP SET: the offset when selected, after the group's claim is removed; the mute when selected, with its
effect on every member; the reply reports the group as it then stands (chapter 2, section 2.7). A selection
above 3 is refused with BAD_VALUE. The state it leaves is settled: the follows armed at or before show time then
expire (R107; log entry 7). The moves left without a claim retire SUPERSEDED in slot order and are reported to
the end watch (R71, R72, R108). The moves left without a claim retire SUPERSEDED in slot order and are reported
to the end watch (R71, R72, R108). The moves left without a claim retire SUPERSEDED in slot order and are
reported to the end watch (R71, R72, R108). The moves left without a claim retire SUPERSEDED in slot order and
are reported to the end watch (R71, R72, R108). -/
def Obligations.GroupSet : Prop :=
  ∀ (tag : Byte) (s : State) (g : Grp) (sel : Nat) (o0 o1 : Byte) (on : Bool), LinkIdle s → sel < 256 →
    let p := u8 g.val ++ u8 sel ++ [o0, o1] ++ flag on
    let level := max (-3072) (min 320 (les16 o0 o1))
    let offsetToo := sel = 1 ∨ sel = 3
    let muteToo := sel = 2 ∨ sel = 3
    (3 < sel → exec (.groupSet tag p) s = .next (answeredOnly ⟨0x16, tag, p⟩ [0x04] s)) ∧
    (sel ≤ 3 →
      ∃ w, exec (.groupSet tag p) s
          = .next (sending ⟨0x16, tag, p⟩
              ([0x00] ++ flag (decide (offsetToo ∧ level ≠ les16 o0 o1)) ++ u8 g.val
                ++ s16 w.groups[g].offset ++ s16 (liveOffset w g) ++ flag w.groups[g].mute
                ++ claimField w.groups[g].claim ++ u8 (membersOf s g).length
                ++ (membersOf s g).flatMap fun d => u8 d.val) (settle w)) ∧
        w.groups[g] =
          { offset := if offsetToo then level else s.groups[g].offset
            mute := if muteToo then on else s.groups[g].mute
            claim := if offsetToo then none else s.groups[g].claim } ∧
        (∀ h : Grp, h ≠ g → w.groups[h] = s.groups[h]) ∧
        (∀ d : Chan, w.chans[d] = { s.chans[d] with atten := rampAfter s w d }) ∧
        (∀ k : Slot, w.moves[k] =
          if offsetToo ∧ claimIs k s.groups[g].claim = true then
            match s.moves[k] with
            | some mv => if mv.claims ≤ 1 then none else some { mv with claims := mv.claims - 1 }
            | none => none
          else s.moves[k]) ∧
        Reports (goneWith .superseded s w) (received s) w ∧
        KeepsShow (received s) w)

/-- GROUP MEMBERS: the named channels and their linked partners enter or leave the group at one instant, with
the ramp's response; the reply lists the members that then belong to it (chapter 2, section 2.7). -/
def Obligations.GroupMembers : Prop :=
  ∀ (tag : Byte) (s : State) (g : Grp) (add : Bool) (cs : List Chan), LinkIdle s → cs ≠ [] →
    cs.length ≤ 64 →
    let p := u8 g.val ++ flag (!add) ++ u8 cs.length ++ cs.flatMap fun c => u8 c.val
    ∃ w, exec (.groupMembers tag p) s
        = .next (sending ⟨0x17, tag, p⟩
            ([0x00] ++ u8 g.val ++ u8 (membersOf w g).length ++ (membersOf w g).flatMap fun d => u8 d.val)
            w) ∧
      (∀ (h : Grp) (d : Chan), inGroup w h d =
        if h = g ∧ d ∈ cs.flatMap (unitChans s) then add else inGroup s h d) ∧
      (∀ d : Chan, w.chans[d] = { s.chans[d] with groups := w.chans[d].groups, atten := rampAfter s w d }) ∧
      { w with chans := s.chans } = received s

/-- SET WRITE makes an entry hold the distinct channels named, and SET READ reports it; TAPER WRITE replaces
a table whole when every entry lies in the scale and none falls, and refuses it otherwise, and TAPER READ
reports it (chapter 2, section 2.7; chapter 1, section 1.5). -/
def Obligations.SetsAndTapers : Prop :=
  (∀ (tag : Byte) (s : State) (e : SetId) (cs : List Chan), LinkIdle s → cs.length ≤ 64 →
    let p := u8 e.val ++ u8 cs.length ++ cs.flatMap fun c => u8 c.val
    let kept := (List.finRange 64).filter fun c => c ∈ cs
    exec (.setWrite tag p) s
      = .next (sending ⟨0x18, tag, p⟩ ([0x00] ++ u8 e.val ++ u8 kept.length)
          { received s with sets := s.sets.set e kept })) ∧
  (∀ (tag : Byte) (s : State) (e : SetId), LinkIdle s →
    exec (.setRead tag (u8 e.val)) s
      = .next (sending ⟨0x19, tag, u8 e.val⟩
          ([0x00] ++ u8 e.val ++ u8 s.sets[e].length ++ s.sets[e].flatMap fun c => u8 c.val)
          (received s))) ∧
  (∀ (tag : Byte) (s : State) (t : TaperSel) (table : Vector Int 33), LinkIdle s →
    (∀ k : Fin 33, -32768 ≤ table[k] ∧ table[k] ≤ 32767) →
    let p := u8 t.code ++ table.toList.flatMap s16
    (TableLaw table → exec (.taperWrite tag p) s
      = .next (sending ⟨0x1A, tag, p⟩ [0x00]
          { received s with
            taperA := if t = .a then table else s.taperA
            taperB := if t = .b then table else s.taperB })) ∧
    (¬ TableLaw table → exec (.taperWrite tag p) s = .next (answeredOnly ⟨0x1A, tag, p⟩ [0x04] s))) ∧
  ∀ (tag : Byte) (s : State) (t : TaperSel), LinkIdle s →
    exec (.taperRead tag (u8 t.code)) s
      = .next (sending ⟨0x1B, tag, u8 t.code⟩
          ([0x00] ++ u8 t.code ++ (tableOf s t).toList.flatMap s16) (received s))

/-! ## The Move Table (spec 03) -/

/-- The action record of 13 bytes and the action it carries determine each other: every action that fits is read
back from its bytes, and every record that MOVE START or CUE WRITE accepts is the bytes of the action read from
it (chapter 11, section 11.7; chapter 3, section 3.8). The places of the fields are spelled out, and which
target specs a kind may have (R46). -/
def Obligations.ActionRecord : Prop :=
  (∀ a : Action, a.bytes = u8 a.kind.code
    ++ (match a.spec with
      | .channel c => [0] ++ u8 c.val
      | .set e => [1] ++ u8 e.val
      | .members g => [2] ++ u8 g.val
      | .group g => [3] ++ u8 g.val)
    ++ u8 (a.mode.code + 2 * a.law.code + 4 * a.curve.code + 16 * a.timeBase.code + (if a.cycle then 32 else 0))
    ++ s16 a.value ++ u24 a.delay ++ u24 a.duration ++ u8 a.count) ∧
  (∀ (kind : MoveKind) (spec : TargetSpec), kindAllows kind spec = true ↔
    ((kind = .group ∨ kind = .groupMute ∨ kind = .groupUnmute) ↔ ∃ g, spec = .group g)) ∧
  (∀ a : Action, ActionFits a → parseAction a.bytes = some a) ∧
  ∀ (r : List Byte) (a : Action), parseAction r = some a → ActionFits a ∧ a.bytes = r

/-- MOVE START without a start at once: LOCKED in a show stop, EMPTY for an empty pending set, FULL without a
free slot; a delayed move waits in the lowest free slot; an instant kind with delay 0 acts and takes no slot, a
RELEASE by handing back each LATCHED unit it names (chapter 3, sections 3.3 and 3.8; log entry 23 for the order
of creation, log entry 24 for the traversal count of a DELAYED move). The state it leaves is settled: the
follows armed at or before show time then expire (R107; log entry 7). The resolution of a target spec is spelled
out (R29, R50), and so is the move record that an action gives (R45). The resolution of a target spec is spelled
out (R29, R50), and so is the move record that an action gives (R45). So are the ranges that values are brought
into, every other field as given (`inRange`, R74), and the words of the moves: instant and finite kinds,
origins, time bases, slot lists (`MoveWords`). -/
def Obligations.MoveStart : Prop :=
  MoveWords ∧ (∀ a : Action, clampAction a = inRange a) ∧
  (∀ (s : State) (o : Origin) (spec : TargetSpec), Resolves s o spec (resolveChans s o spec)) ∧
  (∀ (s : State) (o : Origin) (a : Action), moveOf s o a = actionMove s o a) ∧
  ∀ (tag host : Byte) (s : State) (a : Action), LinkIdle s → ActionFits a →
    let p := host :: a.bytes
    let f : Frame := ⟨0x20, tag, p⟩
    let b := clampAction a
    let mv := moveOf s (.live host) b
    let noSlotNeeded := b.kind.isInstant = true ∧ b.delay = 0
    (s.stop.active = true → exec (.moveStart tag p) s = .next (answeredOnly f [0x0B] s)) ∧
    (s.stop.active = false → mv.pending = .chans [] →
      exec (.moveStart tag p) s = .next (answeredOnly f [0x09] s)) ∧
    (s.stop.active = false → mv.pending ≠ .chans [] → ¬ noSlotNeeded → (∀ k : Slot, s.moves[k] ≠ none) →
      exec (.moveStart tag p) s = .next (answeredOnly f [0x06] s)) ∧
    (∀ k : Slot, s.stop.active = false → mv.pending ≠ .chans [] → 0 < b.delay → s.moves[k] = none →
      (∀ j : Slot, j < k → s.moves[j] ≠ none) →
      exec (.moveStart tag p) s
        = .next (sending f ([0x00] ++ flag (decide (b ≠ a)) ++ u8 k.val ++ [host])
            (settle { received s with
              moves := s.moves.set k (some { mv with
                phase := .delayed
                due := addTime b.timeBase (nowIn b.timeBase s) b.delay
                remaining := if b.cycle then b.count else 1
                claims := 0
                seq := s.moveSeq })
              moveSeq := s.moveSeq + 1 }))) ∧
    (s.stop.active = false → mv.pending ≠ .chans [] → noSlotNeeded →
      ∃ w, exec (.moveStart tag p) s
          = .next (sending f ([0x00] ++ flag (decide (b ≠ a)) ++ u8 255 ++ [host]) (settle w)) ∧
        KeepsShow (received s) w ∧
        (b.kind ≠ .release →
          { w with chans := s.chans, groups := s.groups } = received s ∧
          (∀ d : Chan, w.chans[d] =
            { s.chans[d] with
              ownMute := if (b.kind = .mute ∨ b.kind = .unmute) ∧ d ∈ mv.pending.channels.flatMap (unitChans s)
                then decide (b.kind = .mute) else s.chans[d].ownMute
              atten := rampAfter s w d }) ∧
          ∀ g : Grp, w.groups[g] =
            { s.groups[g] with
              mute := if (b.kind = .groupMute ∨ b.kind = .groupUnmute) ∧ mv.pending = .group g
                then decide (b.kind = .groupMute) else s.groups[g].mute }) ∧
        (b.kind = .release →
          w = releaseAll mv.pending.channels (received s) ∧
          (UnitLaw s → ∀ d : Chan, w.chans[d].ownership =
            if s.chans[d].ownership = .latched ∧ ∃ c ∈ mv.pending.channels, d ∈ unitChans s c then .auto
            else s.chans[d].ownership)))

/-- MOVE START of a LEVEL move with delay 0: the move takes the lowest free slot and starts at once, claiming
each channel the operator does not hold from its live level, and writing the cue level of each it names (chapter
3, sections 3.3, 3.4 and 3.8). The state it leaves is settled: the follows armed at or before show time then
expire (R107; log entry 7). A LEVEL move with recorded targets (BACK, REJOIN) takes the lowest free slot and
starts the same way toward them; without a free slot nothing is created. The states are those that keep the law
of claims. The moves that retire at the start, its own among them, queue their notices in slot order and are
reported to the end watch (R60, R66, R71, R72, R108). -/
def Obligations.LevelMoveStart : Prop :=
  (∀ (tag host : Byte) (s : State) (a : Action) (k : Slot), LinkIdle s → ActionFits a →
    a.kind = .level → a.delay = 0 → s.stop.active = false → resolveChans s (.live host) a.spec ≠ [] →
    s.moves[k] = none → (∀ j : Slot, j < k → s.moves[j] ≠ none) → ClaimLaw s →
    let p := host :: a.bytes
    let b := clampAction a
    let mv : Move := { moveOf s (.live host) b with seq := s.moveSeq }
    ∃ w, exec (.moveStart tag p) s
        = .next (sending ⟨0x20, tag, p⟩ ([0x00] ++ flag (decide (b ≠ a)) ++ u8 k.val ++ [host]) (settle w)) ∧
      StartsLevel (received s) w k mv (goalFrom mv s) (nowIn b.timeBase s)
        (resolveChans s (.live host) a.spec)) ∧
  ∀ (s : State) (mv : Move) (ls : List (Chan × Int)), mv.pending = .lanes ls → (ls.map (·.1)).Nodup → ClaimLaw s →
    ((∀ k : Slot, s.moves[k] ≠ none) → createRecorded mv s = (s, .noSlot)) ∧
    ∀ k : Slot, s.moves[k] = none → (∀ j : Slot, j < k → s.moves[j] ≠ none) →
      ∃ (w : State) (o : Creation), createRecorded mv s = (w, o) ∧ o ≠ .noSlot ∧
        StartsLevel s w k { mv with seq := s.moveSeq } (goalIn ls) (nowIn mv.timeBase s) (ls.map (·.1))

/-- MOVE START of a GROUP move with delay 0: the move takes the lowest free slot and claims its group from the
live offset, whatever claimed it before; with duration 0 and ONCE the offset jumps to the target (chapter 3,
sections 3.4, 3.5 and 3.8). The state it leaves is settled: the follows armed at or before show time then expire
(R107; log entry 7). A GROUP move with a recorded target (BACK) takes the lowest free slot and starts the same
way toward it; without a free slot nothing is created. The moves that retire at the start are reported to the
end watch (R71, R72, R108). -/
def Obligations.GroupMoveStart : Prop :=
  (∀ (tag host : Byte) (s : State) (a : Action) (g : Grp) (k : Slot), LinkIdle s → ActionFits a →
    a.kind = .group → a.spec = .group g → a.delay = 0 → s.stop.active = false →
    s.moves[k] = none → (∀ j : Slot, j < k → s.moves[j] ≠ none) → ClaimsOccupied s →
    let p := host :: a.bytes
    let b := clampAction a
    let mv : Move := { moveOf s (.live host) b with seq := s.moveSeq }
    ∃ w, exec (.moveStart tag p) s
        = .next (sending ⟨0x20, tag, p⟩ ([0x00] ++ flag (decide (b ≠ a)) ++ u8 k.val ++ [host]) (settle w)) ∧
      StartsGroup (received s) w k mv (nowIn b.timeBase s) g (targetFrom mv (liveOffset s g))) ∧
  ∀ (s : State) (mv : Move) (g : Grp) (target : Int), mv.pending = .groupTo g target → ClaimsOccupied s →
    ((∀ k : Slot, s.moves[k] ≠ none) → createRecorded mv s = (s, .noSlot)) ∧
    ∀ k : Slot, s.moves[k] = none → (∀ j : Slot, j < k → s.moves[j] ≠ none) →
      ∃ (w : State) (o : Creation), createRecorded mv s = (w, o) ∧ o ≠ .noSlot ∧
        StartsGroup s w k { mv with seq := s.moveSeq } (nowIn mv.timeBase s) g target

/-- MOVE CANCEL: a slot's move, or every move of LIVE origin, is cancelled; each record such a move claims takes
its live value and is released, and one MOVE RETIRED notice a move is queued in slot order (chapter 3, sections
3.7 and 3.8). The state it leaves is settled: the follows armed at or before show time then expire (R107; log
entry 7). Each retirement is reported to the end watch: a finite move of the watched firing counts it down, and
at 0 it is emptied and the follow slot armed (R72, R108). -/
def Obligations.MoveCancel : Prop :=
  ∀ (tag : Byte) (s : State), LinkIdle s →
    (∀ b : Byte, 48 ≤ b.toNat → b.toNat ≤ 254 →
      exec (.moveCancel tag [b]) s = .next (answeredOnly ⟨0x21, tag, [b]⟩ [0x04] s)) ∧
    (∀ k : Slot, s.moves[k] = none →
      exec (.moveCancel tag (u8 k.val)) s = .next (answeredOnly ⟨0x21, tag, u8 k.val⟩ [0x05] s)) ∧
    (∀ (k : Slot) (mv : Move), s.moves[k] = some mv →
      ∃ w, exec (.moveCancel tag (u8 k.val)) s
          = .next (sending ⟨0x21, tag, u8 k.val⟩ [0x00, 0x01] (settle w)) ∧
        w.moves = s.moves.set k none ∧
        (∀ c : Chan, w.chans[c] = frozen s (fun j => j == k) c) ∧
        (∀ g : Grp, w.groups[g] = frozenGroup s (fun j => j == k) g) ∧
        w.link = (received s).link.queue (.moveRetired k mv.kind mv.origin .cancelled) ∧
        w.play = afterReport s.play ⟨k, mv, .cancelled, s.clock.showTime⟩ ∧
        KeepsShow (received s) w) ∧
    ∃ w, exec (.moveCancel tag [255]) s
        = .next (sending ⟨0x21, tag, [255]⟩ ([0x00] ++ u8 (slotsWhere Move.isLive s).length) (settle w)) ∧
      (∀ k : Slot, w.moves[k] = if holds Move.isLive s k then none else s.moves[k]) ∧
      (∀ c : Chan, w.chans[c] = frozen s (holds Move.isLive s) c) ∧
      (∀ g : Grp, w.groups[g] = frozenGroup s (holds Move.isLive s) g) ∧
      w.link = queueAll ((slotsWhere Move.isLive s).filterMap fun k =>
        s.moves[k].map fun mv => .moveRetired k mv.kind mv.origin .cancelled) (received s).link ∧
      Reports (goneWith .cancelled s w) (received s) w ∧
      KeepsShow (received s) w

/-- START_EVENT on a DELAYED move that is due and in its turn: a LEVEL or GROUP move starts with its due time as
start time; a mute kind acts on the channels it does not pass over or on its group, a RELEASE hands back each
LATCHED unit it names, and each of these retires COMPLETED; every retirement is reported to the end watch (R72,
R108). The same effect is that of the due item an advance takes (`takeItem`, R81). The state it leaves is
settled: the follows armed at or before show time then expire (R107; log entry 7). A slot without a DELAYED move
that is due and in its turn is left alone (log entry 4). A SHOW-base move is due when show time has reached its
due time, a WALL-base one when wall time has advanced by its delay from the instant the delay was counted from
(R55, R79). The only due move of its time base is in its turn; of two starts of one firing with one due time the
later created is not, until the earlier is taken (R61); of two moves that retire at their starts at one instant
(instant kinds, duration 0 and ONCE, EMPTY) the one in the higher slot is not, unless R61 has them the other way
round or its own start retires a move of a lower slot (R71; log entry 12). What comes before what at one instant
is spelled out: starts of one firing in the order of their creation, and other items by the lowest slot that
each retires (chapter 3, sections 3.3, 3.4 and 3.7). The states of the LEVEL and GROUP clauses and of the
clauses on retirements keep the law of claims, those of the RELEASE clause and of the lowest slot retired also
the laws of units. An IDLE transmitter chooses once, after the whole event (log entry 41). -/
def Obligations.StartEvent : Prop :=
  (∀ (s : State) (k : Slot),
    (∀ mv, s.moves[k] = some mv →
      mv.phase ≠ .delayed ∨ isDue mv s = false ∨ mayTake mv.timeBase (.start k) s = false) →
    exec (.startEvent k) s = .next (choose s)) ∧
  (∀ (s : State) (k : Slot) (mv : Move), s.moves[k] = some mv → mv.phase = .delayed → isDue mv s = true →
    (∀ (j : Slot) (other : Move), j ≠ k → s.moves[j] = some other → other.timeBase = mv.timeBase →
      isDue other s = false) → mayTake mv.timeBase (.start k) s = true) ∧
  (∀ (s : State) (j k : Slot) (a b : Move) (firing n m : Nat), s.moves[j] = some a → s.moves[k] = some b →
    a.phase = .delayed → b.phase = .delayed → a.origin = .cue firing n → b.origin = .cue firing m →
    a.timeBase = b.timeBase → a.due = b.due → a.delay = b.delay → a.seq < b.seq →
    exec (.startEvent k) s = .next (choose s)) ∧
  (∀ (s : State) (j k : Slot) (a b : Move), j < k → s.moves[j] = some a → s.moves[k] = some b →
    a.phase = .delayed → b.phase = .delayed → a.kind.isInstant = true → b.kind.isInstant = true →
    a.timeBase = b.timeBase → isDue a s = true → lateness a s = lateness b s → earlierOfFiring s k j = false →
    (∀ (l : Slot) (mv : Move), l ≠ j → l ≠ k → s.moves[l] = some mv → mv.timeBase = b.timeBase →
      isDue mv s = false) →
    exec (.startEvent k) s = .next (choose s)) ∧
  (∀ (s : State) (j k : Slot) (a b : Move), ClaimLaw s → j < k → s.moves[j] = some a → s.moves[k] = some b →
    a.phase = .delayed → b.phase = .delayed → RetiresAtStart s a → RetiresAtStart s b →
    (b.kind.isInstant = true ∨ Unclaimed s b.pending) →
    a.timeBase = b.timeBase → isDue a s = true → lateness a s = lateness b s → earlierOfFiring s k j = false →
    (∀ (l : Slot) (mv : Move), l ≠ j → l ≠ k → s.moves[l] = some mv → mv.timeBase = b.timeBase →
      isDue mv s = false) →
    exec (.startEvent k) s = .next (choose s)) ∧
  (∀ (s : State) (x y : DueItem), ClaimLaw s → UnitLaw s →
    (retiresBefore s x y = true ↔
      ∃ j k : Slot, LowestRetired s x j ∧ LowestRetired s y k ∧ j < k ∧ startsBefore s y x = false)) ∧
  (∀ (s : State) (x y : DueItem), startsBefore s x y = true ↔
    ∃ (j k : Slot) (a b : Move) (firing n m : Nat), x = .start j ∧ y = .start k ∧ s.moves[j] = some a ∧
      s.moves[k] = some b ∧ a.origin = .cue firing n ∧ b.origin = .cue firing m ∧ a.seq < b.seq) ∧
  (∀ (s : State) (mv : Move), mv.phase = .delayed →
    let begun := (mv.due + 4294967296 - mv.delay) % 4294967296
    let waited := (s.clock.wallTime + 4294967296 - begun) % 4294967296
    (isDue mv s = true ↔ match mv.timeBase with
      | .showTime => mv.due ≤ s.clock.showTime
      | .wallTime => mv.delay ≤ waited) ∧
    lateness mv s = match mv.timeBase with
      | .showTime => s.clock.showTime - mv.due
      | .wallTime => waited - mv.delay) ∧
  (∀ (s : State) (k : Slot) (mv : Move), s.moves[k] = some mv → mv.phase = .delayed → isDue mv s = true →
    mayTake mv.timeBase (.start k) s = true →
    exec (.startEvent k) s = .next (choose (settle (takeItem (.start k) s)))) ∧
  ∀ (s : State) (k : Slot) (mv : Move), s.moves[k] = some mv → mv.phase = .delayed →
    StartsDelayed k mv s (takeItem (.start k) s)

/-- TRAVERSAL_END on a RUNNING move that is due and in its turn: at its last traversal every record it claims
takes its lane target and is released, and the move retires COMPLETED; before that a CYCLE move turns round,
exchanging start and target in every claim and running on from its old due time. The state it leaves is settled:
the follows armed at or before show time then expire (R107; log entry 7). The same effect is that of the due
item an advance takes (`takeItem`, R81), and the retirement is reported to the end watch with the due time as
instant in the SHOW base (R72, R108). Any other slot is left alone (log entry 4). A SHOW-base traversal is due
when show time has reached the due time, a WALL-base one when wall time has advanced by the duration from its
start (R64, R79). The only due move of its time base is in its turn; of two moves that end at one instant the
one in the higher slot is not, until the other is taken (R71; log entry 12) (chapter 3, sections 3.6 and 3.7).
An IDLE transmitter chooses once, after the whole event (log entry 41). -/
def Obligations.TraversalEnd : Prop :=
  (∀ (s : State) (k : Slot),
    (∀ mv, s.moves[k] = some mv →
      mv.phase = .delayed ∨ isDue mv s = false ∨ mayTake mv.timeBase (.finish k) s = false) →
    exec (.traversalEnd k) s = .next (choose s)) ∧
  (∀ (s : State) (k : Slot) (mv : Move) (start : Nat), s.moves[k] = some mv → mv.phase = .running start →
    isDue mv s = true → (∀ (j : Slot) (other : Move), j ≠ k → s.moves[j] = some other →
      other.timeBase = mv.timeBase → isDue other s = false) → mayTake mv.timeBase (.finish k) s = true) ∧
  (∀ (s : State) (j k : Slot) (a b : Move) (i m : Nat), j < k → s.moves[j] = some a → s.moves[k] = some b →
    a.phase = .running i → b.phase = .running m → (a.cycle = false ∨ a.remaining = 1) →
    (b.cycle = false ∨ b.remaining = 1) → a.timeBase = b.timeBase → isDue a s = true →
    lateness a s = lateness b s →
    (∀ (l : Slot) (mv : Move), s.moves[l] = some mv → mv.timeBase = b.timeBase → isDue mv s = true →
      mv.phase ≠ .delayed) →
    exec (.traversalEnd k) s = .next (choose s)) ∧
  (∀ (s : State) (mv : Move) (start : Nat), mv.phase = .running start →
    let run := (s.clock.wallTime + 4294967296 - start) % 4294967296
    (isDue mv s = true ↔ match mv.timeBase with
      | .showTime => mv.due ≤ s.clock.showTime
      | .wallTime => mv.duration ≤ run) ∧
    lateness mv s = match mv.timeBase with
      | .showTime => s.clock.showTime - mv.due
      | .wallTime => run - mv.duration) ∧
  (∀ (s : State) (k : Slot) (mv : Move) (start : Nat), s.moves[k] = some mv → mv.phase = .running start →
    isDue mv s = true → mayTake mv.timeBase (.finish k) s = true →
    exec (.traversalEnd k) s = .next (choose (settle (takeItem (.finish k) s)))) ∧
  ∀ (s : State) (k : Slot) (mv : Move) (start : Nat), s.moves[k] = some mv → mv.phase = .running start →
    EndsTraversal k mv start s (takeItem (.finish k) s)

/-! ## The Show Clock (spec 04) -/

/-- CLOCK SOURCE, CLOCK RATE and CLOCK LOCATE write the clock's settings and show time as their rules say,
with one CLOCK notice where the source changes (chapter 4, sections 4.4 and 4.7; log entry 15 for the
divider count when INTERNAL is asked for, log entry 36 for the loss timer where PULSE is asked for and in
force, log entry 37 for an
expiry that the request finds due, reduced W or not). -/
def Obligations.ClockSettings : Prop :=
  ∀ (tag : Byte) (s : State), LinkIdle s →
    (∀ (w0 : Byte) (falling : Bool),
      let p := [0x00, w0] ++ flag falling
      let weight := max 1 (min w0.toNat 100)
      exec (.clockSource tag p) s
        = .next (sending ⟨0x28, tag, p⟩
            ([0x00] ++ flag (decide (weight ≠ w0.toNat)) ++ u8 0 ++ u8 weight ++ flag falling)
            { received s with
              clock := { s.clock with
                source := .internal, weight := weight, rising := !falling, lossTimer := none, divCount := 0 }
              link := if s.clock.source = .internal then (received s).link
                else (received s).link.queue (.clock .request s.clock.state .internal s.clock.showTime) })) ∧
    (∀ (w0 : Byte) (falling : Bool), s.clock.source ≠ .pulse →
      let p := [0x01, w0] ++ flag falling
      let weight := max 1 (min w0.toNat 100)
      exec (.clockSource tag p) s
        = .next (sending ⟨0x28, tag, p⟩
            ([0x00] ++ flag (decide (weight ≠ w0.toNat)) ++ u8 1 ++ u8 weight ++ flag falling)
            { received s with
              clock := { s.clock with
                source := .pulse, weight := weight, rising := !falling
                lossTimer := if s.clock.state = .running then some s.clock.wallTime else none }
              link := (received s).link.queue (.clock .request s.clock.state .pulse s.clock.showTime) })) ∧
    (∀ (w0 : Byte) (falling : Bool), s.clock.source = .pulse →
      let p := [0x01, w0] ++ flag falling
      let weight := max 1 (min w0.toNat 100)
      let lost := ∃ t, s.clock.lossTimer = some t ∧ 4 * weight ≤ wallSince s.clock.wallTime t
      (¬ lost → exec (.clockSource tag p) s
        = .next (sending ⟨0x28, tag, p⟩
            ([0x00] ++ flag (decide (weight ≠ w0.toNat)) ++ u8 1 ++ u8 weight ++ flag falling)
            { received s with clock := { s.clock with weight := weight, rising := !falling } })) ∧
      (lost → exec (.clockSource tag p) s
        = .next (sending ⟨0x28, tag, p⟩
            ([0x00] ++ flag (decide (weight ≠ w0.toNat)) ++ u8 2 ++ u8 weight ++ flag falling)
            { received s with
              clock := { s.clock with
                source := .freewheel, weight := weight, rising := !falling, lossTimer := none }
              link := (received s).link.queue
                (.clock .pulseLost s.clock.state .freewheel s.clock.showTime) }))) ∧
    (∀ d : Byte,
      (d.toNat ∈ [1, 2, 4, 8] → exec (.clockRate tag [d]) s
        = .next (sending ⟨0x29, tag, [d]⟩ [0x00, d]
            { received s with
              clock := if s.clock.divisor = d.toNat then s.clock
                else { s.clock with divisor := d.toNat, divCount := 0 } })) ∧
      (d.toNat ∉ [1, 2, 4, 8] → exec (.clockRate tag [d]) s
        = .next (answeredOnly ⟨0x29, tag, [d]⟩ [0x04] s))) ∧
    ∀ t : Nat, t < 4294967296 →
      let free := (s.clock.state = .stopped ∨ s.clock.state = .held)
        ∧ (∀ (k : Slot) (mv : Move), s.moves[k] = some mv → mv.timeBase = .wallTime)
        ∧ s.play.follow = none ∧ s.play.endWatch = none
      (free → exec (.clockLocate tag (u32 t)) s
        = .next (sending ⟨0x2D, tag, u32 t⟩ ([0x00] ++ u8 s.clock.state.code ++ u32 t)
            { received s with clock := { s.clock with showTime := t, divCount := 0 } })) ∧
      (¬ free → exec (.clockLocate tag (u32 t)) s = .next (answeredOnly ⟨0x2D, tag, u32 t⟩ [0x0A] s))

/-- CLOCK RUN and CLOCK HOLD: the transitions of the clock state with their notices and entry and exit
actions; at the last show time a clock that enters RUNNING is held at once (chapter 4, sections 4.2, 4.5
and 4.7). -/
def Obligations.ClockRunHold : Prop :=
  ∀ (tag : Byte) (s : State), LinkIdle s →
    let fields : List Byte := [0x00] ++ u8 1 ++ u32 s.clock.showTime
    let held : Clock := { s.clock with
      state := .held, lossTimer := none
      source := if s.clock.source = .freewheel then .pulse else s.clock.source }
    (s.stop.active = true → exec (.clockRun tag []) s = .next (answeredOnly ⟨0x2A, tag, []⟩ [0x0B] s)) ∧
    (s.stop.active = false → s.clock.state = .running →
      exec (.clockRun tag []) s = .next (sending ⟨0x2A, tag, []⟩ fields (received s))) ∧
    (s.stop.active = false → s.clock.state ≠ .running → s.clock.showTime ≠ 4294967295 →
      exec (.clockRun tag []) s = .next (sending ⟨0x2A, tag, []⟩ fields
        { received s with
          clock := { s.clock with
            state := .running, divCount := 0
            lossTimer := if s.clock.source = .pulse then some s.clock.wallTime else none }
          link := (received s).link.queue
            (.clock .request .running s.clock.source s.clock.showTime) })) ∧
    (s.stop.active = false → s.clock.state ≠ .running → s.clock.showTime = 4294967295 →
      exec (.clockRun tag []) s
        = .next (sending ⟨0x2A, tag, []⟩ ([0x00] ++ u8 2 ++ u32 4294967295)
            { received s with
              clock := { held with divCount := 0 }
              link := queueAll [.clock .request .running s.clock.source 4294967295,
                .clock .saturated .held held.source 4294967295] (received s).link })) ∧
    (s.clock.state = .stopped →
      exec (.clockHold tag []) s = .next (answeredOnly ⟨0x2B, tag, []⟩ [0x0A] s)) ∧
    (s.clock.state = .held →
      exec (.clockHold tag []) s
        = .next (sending ⟨0x2B, tag, []⟩ ([0x00] ++ u8 2 ++ u32 s.clock.showTime) (received s))) ∧
    (s.clock.state = .running ∨ s.clock.state = .stepping →
      exec (.clockHold tag []) s
        = .next (sending ⟨0x2B, tag, []⟩ ([0x00] ++ u8 2 ++ u32 s.clock.showTime)
            { received s with
              clock := held
              link := (received s).link.queue (.clock .request .held held.source s.clock.showTime) }))

/-- CLOCK STEP: LOCKED in a show stop, STATE in STOPPED and RUNNING; otherwise a clock in HELD enters STEPPING
with a CLOCK notice, and one advance of the clamped length takes every due item on the way at its own due time,
in order; it ends at the last show time and there holds the clock. The moves that the items of one due time retire
queue their notices in ascending slot order (R71; log entry 42). At the last show time it advances by 0 and
changes nothing (chapter 4, sections 4.3, 4.5 and 4.7; log entries 8 and 12 for items of one due time, 7 for the
follows that an item arms, 26 for the model's bound on a chain). A due item is taken as START_EVENT,
TRAVERSAL_END and FOLLOW_EXPIRY take it (see StartEvent, TraversalEnd and FollowTimers). -/
def Obligations.ClockStep : Prop :=
  ∀ (tag : Byte) (s : State) (n : Nat), LinkIdle s → n < 65536 →
    let p := u16 n
    let len := max 1 (min n 10000)
    let t1 := min (s.clock.showTime + len) 4294967295
    let clamped : Bool := decide (len ≠ n)
    (s.stop.active = true → exec (.clockStep tag p) s = .next (answeredOnly ⟨0x2C, tag, p⟩ [0x0B] s)) ∧
    (s.stop.active = false → s.clock.state = .stopped ∨ s.clock.state = .running →
      exec (.clockStep tag p) s = .next (answeredOnly ⟨0x2C, tag, p⟩ [0x0A] s)) ∧
    (s.stop.active = false → s.clock.state = .held ∨ s.clock.state = .stepping →
      s.clock.showTime = 4294967295 →
      exec (.clockStep tag p) s
        = .next (sending ⟨0x2C, tag, p⟩
            ([0x00] ++ flag clamped ++ u8 s.clock.state.code ++ u16 0 ++ u32 4294967295) (received s))) ∧
    (s.stop.active = false → s.clock.state = .held ∨ s.clock.state = .stepping →
      s.clock.showTime < 4294967295 →
      ∃ w, exec (.clockStep tag p) s
          = .next (sending ⟨0x2C, tag, p⟩
              ([0x00] ++ flag clamped ++ u8 w.clock.state.code ++ u16 (t1 - s.clock.showTime) ++ u32 t1) w) ∧
        w.clock.showTime = t1 ∧
        w.clock.state = (if t1 = 4294967295 then .held else .stepping) ∧
        Advances len
          (if s.clock.state = .stepping then received s
          else { received s with
            clock := { s.clock with state := .stepping }
            link := (received s).link.queue (.clock .request .stepping s.clock.source s.clock.showTime) }) w ∧
        KeepsSurface (received s) w)

/-- WALL_MILLISECOND: wall time rises by 1 modulo 2^32, and the new millisecond has seen no exchange begin
(log entry 25). Away from a running FREEWHEEL, every mute ramp takes one step, the divider count of a RUNNING
clock on INTERNAL rises (up to D, log entry 5), and nothing else happens. In FREEWHEEL show time also
advances by 1, with the due items that brings, before or after the ramp steps as a free value says (log entry
9); the follows armed at or before show time then expire (R107; log entry 7) (chapter 1, section 1.4; chapter
4, sections 4.1, 4.3 and 4.4). The model's own are: the order and the grouping of the due items of one due time (log
entries 8, 12 and 42), the bound on a chain (log entry 26), the one choice of an IDLE transmitter after the event
(log entry 41), and that the ramp steps come before every event that is a command of its own and becomes due at this
millisecond, where R10 allows either order (log entry 44). -/
def Obligations.WallMillisecond : Prop :=
  (∀ s : State, ¬ (s.clock.state = .running ∧ s.clock.source = .freewheel) →
    ∃ w, exec .wallMillisecond s = .next (choose w) ∧
      (∀ c : Chan, w.chans[c] =
        { s.chans[c] with atten := rampToward (rampInForce s c) (rampGoal s c) s.chans[c].atten }) ∧
      w.clock =
        { s.clock with
          wallTime := (s.clock.wallTime + 1) % 4294967296
          divCount := if s.clock.state = .running ∧ s.clock.source = .internal
            then min s.clock.divisor (s.clock.divCount + 1) else s.clock.divCount } ∧
      { w with chans := s.chans, clock := s.clock } = { s with surf := { s.surf with begun := false } }) ∧
  ∀ s : State, s.clock.state = .running → s.clock.source = .freewheel → s.clock.showTime < 4294967295 →
    let tick : State := { s with
      clock := { s.clock with wallTime := (s.clock.wallTime + 1) % 4294967296 }
      surf := { s.surf with begun := false }
      freeCount := s.freeCount + 1 }
    ∃ w, exec .wallMillisecond s = .next (choose w) ∧
      ((∃ u v : State, RampsOnce tick u ∧ Advances 1 u v ∧ w = settle v) ∨
        ∃ v : State, Advances 1 tick v ∧ RampsOnce (settle v) w) ∧
      w.clock.wallTime = (s.clock.wallTime + 1) % 4294967296 ∧
      w.clock.showTime = s.clock.showTime + 1 ∧
      w.lanes = s.lanes ∧ w.surf = { s.surf with begun := false } ∧ w.stop = s.stop ∧ w.sets = s.sets
        ∧ w.pairLinked = s.pairLinked ∧ w.pending = s.pending

/-- DIVIDER_COUNT, SYNC_IN_EDGE and PULSE_LOSS: the count that reaches D advances show time by 1, a
qualifying edge on PULSE advances it by W and re-arms the timer, an edge in FREEWHEEL also brings PULSE
back, with its notice after the advance (log entry 14), and the timer's expiry begins a freewheel; where its
condition fails an event changes nothing (log entry 4). Each advance takes its due items, the earliest due time
first, and ends at the last show time, where the clock is held; the follows armed at or before show time then expire
(R107; log entry 7) (chapter 4, sections 4.3, 4.4 and 4.5). The model's own are: the order of the due items of one
due time and the grouping of their notices (log entries 8, 12 and 42), the bound on a chain (log entry 26), the one
choice of an IDLE transmitter after the event (log entry 41), and that the INTERNAL advance of a millisecond comes
after its ramp steps (log entry 44). -/
def Obligations.ClockEvents : Prop :=
  (∀ s : State, ¬ (s.clock.state = .running ∧ s.clock.source = .internal ∧ s.clock.divisor ≤ s.clock.divCount) →
    exec .dividerCount s = .next (choose s)) ∧
  (∀ s : State, s.clock.state = .running → s.clock.source = .internal → s.clock.divisor ≤ s.clock.divCount →
    s.clock.showTime < 4294967295 →
    ∃ w, exec .dividerCount s = .next (choose w) ∧ w.clock.showTime = s.clock.showTime + 1 ∧
      w.clock.divCount = 0 ∧ KeepsSurface s w) ∧
  (∀ s : State, s.clock.state = .running → s.clock.source = .internal → s.clock.divisor ≤ s.clock.divCount →
    s.clock.showTime ≤ 4294967295 →
    ∃ v, exec .dividerCount s = .next (choose (settle v)) ∧
      Advances 1 { s with clock := { s.clock with divCount := 0 } } v) ∧
  (∀ (s : State) (rising : Bool),
    (rising ≠ s.clock.rising ∨ s.clock.state ≠ .running ∨ s.clock.source = .internal) →
    exec (.syncInEdge rising) s = .next (choose s)) ∧
  (∀ s : State, s.clock.state = .running → s.clock.source ≠ .internal →
    s.clock.showTime + s.clock.weight < 4294967295 →
    ∃ w, exec (.syncInEdge s.clock.rising) s = .next (choose w) ∧
      w.clock.showTime = s.clock.showTime + s.clock.weight ∧ w.clock.source = .pulse ∧
      w.clock.state = .running ∧ w.clock.lossTimer = some s.clock.wallTime ∧ KeepsSurface s w) ∧
  (∀ s : State, s.clock.state = .running → s.clock.source ≠ .internal → s.clock.showTime ≤ 4294967295 →
    ∃ v, Advances s.clock.weight
        { s with clock := { s.clock with source := .pulse, lossTimer := some s.clock.wallTime } } v ∧
      exec (.syncInEdge s.clock.rising) s
        = .next (choose (settle
            (if s.clock.source = .freewheel then
              { v with
                link := v.link.queue (.clock .pulseRegained v.clock.state v.clock.source v.clock.showTime) }
            else v)))) ∧
  (∀ (s : State) (t : Nat), s.clock.state = .running → s.clock.source = .pulse →
    s.clock.lossTimer = some t → 4 * s.clock.weight ≤ wallSince s.clock.wallTime t →
    exec .pulseLoss s = .next (choose { s with
      clock := { s.clock with lossTimer := none, source := .freewheel }
      link := s.link.queue (.clock .pulseLost .running .freewheel s.clock.showTime) })) ∧
  ∀ s : State, ¬ (s.clock.state = .running ∧ s.clock.source = .pulse ∧
      ∃ t, s.clock.lossTimer = some t ∧ 4 * s.clock.weight ≤ wallSince s.clock.wallTime t) →
    exec .pulseLoss s = .next (choose s)

/-! ## The cue list and playback (spec 05) -/

/-- CUE WRITE stores a cue at its place in number order, in place of one of its number, with its wait and action
values brought into range, or is refused with FULL; nothing but the store changes (chapter 5, sections 5.1 and
5.2). Brought into range, a cue has its wait capped at 600000 ms, each action's values in the ranges of R74, and
every other field as given (R94). -/
def Obligations.CueWrite : Prop :=
  (∀ c : Cue, clampCue c = { c with wait := min c.wait 600000, actions := c.actions.map inRange }) ∧
  ∀ (tag : Byte) (s : State) (c : Cue), LinkIdle s → StoreLaw s.play → CueFits c →
    let p := c.wire
    let kept := clampCue c
    let others := s.play.store.filter fun d => d.number != c.number
    let full := ((∀ d ∈ s.play.store, d.number ≠ c.number) ∧ 400 ≤ s.play.store.length)
      ∨ 2048 < poolUsed others + c.actions.length
    (full → exec (.cueWrite tag p) s = .next (answeredOnly ⟨0x30, tag, p⟩ [0x06] s)) ∧
    (¬ full →
      ∃ store : List Cue,
        exec (.cueWrite tag p) s
          = .next (sending ⟨0x30, tag, p⟩
              ([0x00] ++ flag (decide (kept ≠ c)) ++ u16 c.number
                ++ flag (decide (∀ d ∈ s.play.store, d.number ≠ c.number)) ++ u16 (others.length + 1)
                ++ u16 (poolUsed others + c.actions.length))
              { received s with play := { s.play with store := store } }) ∧
        (∀ d : Cue, d ∈ store ↔ d = kept ∨ d ∈ others) ∧
        store.Pairwise fun a b => a.number < b.number)

/-- CUE READ, CUE DELETE, CUE CLEAR, JUMP and PLAYBACK CONFIG: what each reports and what each changes of the
store, standby, the follow slot, the end watch, the loop counters and the back time (chapter 5, sections 5.2,
5.5 and 5.7). In a store in order, the next cue after a number is the stored one of least number above it, END
when there is none (R93). -/
def Obligations.CueEdits : Prop :=
  (∀ (p : Playback) (n : Nat), StoreLaw p →
    (∀ k : Nat, nextNumber n p.store = some k ↔
      (∃ d ∈ p.store, d.number = k) ∧ n < k ∧ ∀ d ∈ p.store, n < d.number → k ≤ d.number) ∧
    (nextNumber n p.store = none ↔ ∀ d ∈ p.store, d.number ≤ n)) ∧
  ∀ (tag : Byte) (s : State), LinkIdle s → StoreLaw s.play →
    (∀ c ∈ s.play.store, 0 < c.number → c.number < 65536 →
      let rest := s.play.store.filter fun d => d.number != c.number
      let standby := if s.play.standby = some c.number then nextNumber c.number s.play.store
        else s.play.standby
      exec (.cueRead tag (u16 c.number ++ [0])) s
        = .next (sending ⟨0x31, tag, u16 c.number ++ [0]⟩
            ([0x00] ++ u16 c.number ++ u8 c.follow.code ++ u24 c.wait ++ u16 c.loopTarget ++ u8 c.loopCount
              ++ u8 c.actions.length ++ u8 c.loopCounter ++ c.actions.flatMap Action.bytes) (received s)) ∧
      exec (.cueDelete tag (u16 c.number)) s
        = .next (sending ⟨0x32, tag, u16 c.number⟩
            ([0x00] ++ standbyField standby ++ u16 rest.length ++ u16 (poolUsed rest))
            { received s with play := { s.play with store := rest, standby := standby } }) ∧
      exec (.jump tag (u16 c.number)) s
        = .next (sending ⟨0x36, tag, u16 c.number⟩ ([0x00] ++ u16 c.number)
            { received s with
              play := { s.play with
                standby := some c.number, follow := none, endWatch := none
                store := s.play.store.map fun d => { d with loopCounter := d.loopCount } } })) ∧
    (∀ n : Nat, n < 65536 →
      (∀ d ∈ s.play.store, (∀ e ∈ s.play.store, n < e.number → d.number ≤ e.number) → n < d.number →
        exec (.cueRead tag (u16 n ++ [1])) s
          = .next (sending ⟨0x31, tag, u16 n ++ [1]⟩
              ([0x00] ++ u16 d.number ++ u8 d.follow.code ++ u24 d.wait ++ u16 d.loopTarget
                ++ u8 d.loopCount ++ u8 d.actions.length ++ u8 d.loopCounter
                ++ d.actions.flatMap Action.bytes) (received s))) ∧
      ((∀ d ∈ s.play.store, d.number ≤ n) →
        exec (.cueRead tag (u16 n ++ [1])) s = .next (answeredOnly ⟨0x31, tag, u16 n ++ [1]⟩ [0x05] s)) ∧
      (n ≠ 0 → (∀ d ∈ s.play.store, d.number ≠ n) →
        exec (.cueRead tag (u16 n ++ [0])) s = .next (answeredOnly ⟨0x31, tag, u16 n ++ [0]⟩ [0x05] s) ∧
        exec (.cueDelete tag (u16 n)) s = .next (answeredOnly ⟨0x32, tag, u16 n⟩ [0x05] s) ∧
        exec (.jump tag (u16 n)) s = .next (answeredOnly ⟨0x36, tag, u16 n⟩ [0x05] s)) ∧
      (n = 0 →
        exec (.cueRead tag (u16 n ++ [0])) s = .next (answeredOnly ⟨0x31, tag, u16 n ++ [0]⟩ [0x04] s) ∧
        exec (.cueDelete tag (u16 n)) s = .next (answeredOnly ⟨0x32, tag, u16 n⟩ [0x04] s) ∧
        exec (.jump tag (u16 n)) s = .next (answeredOnly ⟨0x36, tag, u16 n⟩ [0x04] s))) ∧
    exec (.cueClear tag []) s
      = .next (sending ⟨0x33, tag, []⟩ [0x00]
          { received s with
            play := { s.play with store := [], standby := none, follow := none, endWatch := none } }) ∧
    ∀ t : Nat, t < 16777216 →
      exec (.playbackConfig tag (u24 t)) s
        = .next (sending ⟨0x38, tag, u24 t⟩ ([0x00] ++ flag (decide (600000 < t)) ++ u24 (min t 600000))
            { received s with play := { s.play with backTime := min t 600000 } })

/-- GO: LOCKED in a show stop, EMPTY with standby END; otherwise the standby cue fires: a STOPPED clock starts,
the firing id and the recall record are made, each action in order becomes a creation at the current show time,
those without a free slot are counted as dropped, standby advances or loops, the cue's follow is armed from the
current show time, and the CUE FIRED notice is queued (chapter 5, sections 5.4, 5.5 and 5.6). The state it
leaves is settled: the follows armed at or before show time then expire (R107; log entry 7). A creation of any
origin and fire time is spelled out: nothing for an empty pending set, the act of an instant kind without delay,
nothing without a free slot, and else the lowest free slot, with due or start time counted from the fire time in
the SHOW base and from wall time in the WALL base, SAFE channels passed over (R29, R49 to R56). The traversals that a
DELAYED creation holds are the model's reading (log entry 24), and its sequence number is the model's own (log entry
23). The recall
record holds the channels that the cue's LEVEL, MUTE and UNMUTE actions resolve to with CUE origin, and the
groups that its GROUP kinds name (R110); the next cue in order is the one CueEdits spells out (R93). In a store
in order the standby cue is the stored one whose number standby holds (R100). The moves that the creations retire
queue their notices in ascending slot order, whichever action retires them, before CUE FIRED (R71, R113; log entry
42). -/
def Obligations.GoFiresStandby : Prop :=
  (∀ s : State, StoreLaw s.play → ∀ c : Cue,
    standbyCue s = some c ↔ c ∈ s.play.store ∧ s.play.standby = some c.number) ∧
  (∀ (tag : Byte) (s : State), LinkIdle s →
    (s.stop.active = true → exec (.go tag []) s = .next (answeredOnly ⟨0x34, tag, []⟩ [0x0B] s)) ∧
    (s.stop.active = false → s.play.standby = none →
      exec (.go tag []) s = .next (answeredOnly ⟨0x34, tag, []⟩ [0x09] s)) ∧
    (∀ c : Cue, s.stop.active = false → standbyCue s = some c →
      ∃ (w : State) (dropped : Nat),
        exec (.go tag []) s
          = .next (sending ⟨0x34, tag, []⟩
              ([0x00] ++ u16 c.number ++ u16 w.play.firing ++ u8 dropped ++ standbyField w.play.standby)
              (settle w)) ∧
        dropped ≤ c.actions.length ∧ Fires s w c ∧
        FiresActions .go s.clock.showTime (received s) w c dropped ∧
        w.clock.showTime = s.clock.showTime ∧
        (s.clock.state ≠ .stopped → w.clock = s.clock) ∧
        (s.clock.state = .stopped →
          w.clock.state = if s.clock.showTime = 4294967295 then .held else .running) ∧
        ArmsFollow s.clock.showTime w c ∧
        KeepsSurface (received s) w)) ∧
  (∀ (o : Origin) (a : Action) (fireTime : Nat) (s : State),
    Creates o a fireTime s (createMove o a fireTime s).1 (createMove o a fireTime s).2) ∧
  ∀ s : State,
    let started : Clock := { s.clock with
      state := .running, divCount := 0
      lossTimer := if s.clock.source = .pulse then some s.clock.wallTime else none }
    let held : Clock := { s.clock with
      state := .held, divCount := 0, lossTimer := none
      source := if s.clock.source = .freewheel then .pulse else s.clock.source }
    startForGo s =
      if s.clock.state ≠ .stopped then s
      else if s.clock.showTime = 4294967295 then
        { s with
          clock := held
          link := queueAll [.clock .go .running s.clock.source 4294967295,
            .clock .saturated .held held.source 4294967295] s.link }
      else
        { s with clock := started, link := s.link.queue (.clock .go .running s.clock.source s.clock.showTime) }

/-- FOLLOW_EXPIRY and END_WATCH_EXPIRY: a due follow empties its slot and fires the standby cue with its due
time as fire time, creations, follow and notices (MOVES DROPPED where a creation found no slot) as a GO's are,
or nothing with standby END; an end watch at 0 empties itself and arms the follow slot its wait after the
current show time (chapter 5, sections 5.4 and 5.5; log entry 4 where nothing is due). The state each leaves is
settled: while the follow slot is armed for a due time that show time has reached, it expires (R107; log entries
7 and 26). The same effect is that of the follow an advance takes (`takeItem`, R81), and each action's creation
is the one GoFiresStandby spells out, with the follow's due time as fire time (R49, R104; log entry 24 for the
traversals that a DELAYED creation holds, log entry 23 for its sequence number). An IDLE transmitter chooses once,
after the whole event (log entry 41). The
notices of the moves that the creations retire, and of those that waited for the end of an advance's instant, are
queued in ascending slot order before CUE FIRED (R71, R113; log entry 42). -/
def Obligations.FollowTimers : Prop :=
  (∀ s : State, (∀ due, s.play.follow = some due → s.clock.showTime < due) →
    exec .followExpiry s = .next (choose s)) ∧
  (∀ (s : State) (due : Nat), s.play.follow = some due → due ≤ s.clock.showTime → s.play.standby = none →
    exec .followExpiry s = .next (choose { s with play := { s.play with follow := none } })) ∧
  (∀ (s : State) (due : Nat) (c : Cue), s.play.follow = some due → due ≤ s.clock.showTime →
    standbyCue s = some c → s.play.endWatch = none →
    ∃ (w : State) (dropped : Nat), exec .followExpiry s = .next (choose (settle w)) ∧ Fires s w c ∧
      FiresActions .follow due s w c dropped ∧
      w.clock.showTime = s.clock.showTime ∧
      ArmsFollow due w c ∧
      KeepsSurface s w) ∧
  (∀ (s : State) (due : Nat), s.play.follow = some due →
    (due ≤ s.clock.showTime → exec .followExpiry s = .next (choose (settle (takeItem .follow s)))) ∧
    (s.play.standby = none → takeItem .follow s = { s with play := { s.play with follow := none } }) ∧
    ∀ c : Cue, standbyCue s = some c → s.play.endWatch = none →
      ∃ dropped : Nat, Fires s (takeItem .follow s) c ∧
        FiresActions .follow due s (takeItem .follow s) c dropped ∧ ArmsFollow due (takeItem .follow s) c ∧
        KeepsSurface s (takeItem .follow s)) ∧
  (∀ (s : State) (u : EndWatch), s.play.endWatch = some u → u.count = 0 →
    exec .endWatchExpiry s = .next (choose (settle { s with
      play := { s.play with endWatch := none, follow := some (s.clock.showTime + u.wait) } }))) ∧
  (∀ s : State, (∀ u, s.play.endWatch = some u → u.count ≠ 0) →
    exec .endWatchExpiry s = .next (choose (settle s))) ∧
  ∀ s : State, ∃ n : Nat, n ≤ Config.chainFuel ∧ settle s = expireFollow^[n] s ∧
    (∀ i : Nat, i < n → followIsDue (expireFollow^[i] s)) ∧ (n < Config.chainFuel → ¬ followIsDue (settle s))

/-- BACK: LOCKED in a show stop, EMPTY with an empty recall stack; otherwise the top record is popped, the
follow slot and the end watch are emptied, no move of the record's firing is left, the recorded mutes return on
each channel that is not SAFE and its linked partner, one LEVEL move of BACK origin leads those channels to
their recorded levels and one GROUP move each recorded group to its offset (law DB, curve LINEAR, SHOW base, the
back time), those without a free slot are counted as dropped, and standby becomes the record's cue or the next
in order (chapter 5, section 5.6). The state it leaves is settled: the follows armed at or before show time then
expire (R107; log entry 7). The next cue in order is the one CueEdits spells out (R93). The moves that BACK retires,
the cancelled ones of the firing among them with reason BACKED, queue their notices in ascending slot order whichever
step retires them (R71; log entry 42). -/
def Obligations.BackUndoesFiring : Prop :=
  ∀ (tag : Byte) (s : State), LinkIdle s →
    (s.stop.active = true → exec (.back tag []) s = .next (answeredOnly ⟨0x35, tag, []⟩ [0x0B] s)) ∧
    (s.stop.active = false → s.play.recalls = [] →
      exec (.back tag []) s = .next (answeredOnly ⟨0x35, tag, []⟩ [0x09] s)) ∧
    ∀ (r : RecallRecord) (rest : List RecallRecord), s.stop.active = false → s.play.recalls = r :: rest →
      ∃ (w b u : State) (dropped : Nat),
        exec (.back tag []) s
          = .next (sending ⟨0x35, tag, []⟩
              ([0x00] ++ u16 r.cue ++ u16 r.firing ++ u8 dropped ++ standbyField w.play.standby)
              (settle w)) ∧
        dropped ≤ r.groups.length + 1 ∧
        RecallsMutes r rest (opened (received s)) b ∧ recordedMoves (backMoves s r) b = (u, dropped) ∧
        { w with play := u.play, link := u.link } = u ∧
        w.link = closed s.link.instant.isSome u.link ∧
        (s.link.instant = none → ∃ rs : List Retirement, QueuesInstant [] rs (received s).link w.link ∧
          ∀ (k : Slot) (mv : Move), s.moves[k] = some mv → mv.ofFiring r.firing = true →
            ⟨k, mv, .backed, s.clock.showTime⟩ ∈ rs) ∧
        w.play = { s.play with
          recalls := rest, follow := none, endWatch := none
          standby := if ∃ d ∈ s.play.store, d.number = r.cue then some r.cue
            else nextNumber r.cue s.play.store } ∧
        (∀ (k : Slot) (mv : Move), w.moves[k] = some mv → mv.ofFiring r.firing = false) ∧
        (∀ (c : Chan) (v : Int) (m : Bool), (c, v, m) ∈ r.chans → (r.chans.map (·.1)).Nodup →
          s.chans[c].safe = false → s.pairLinked[pairOf c] = false → w.chans[c].ownMute = m) ∧
        (∀ c : Chan, (∀ e ∈ r.chans, c ∉ unitChans s e.1) → w.chans[c].ownMute = s.chans[c].ownMute) ∧
        (∀ (g : Grp) (v : Int) (m : Bool), (g, v, m) ∈ r.groups → (r.groups.map (·.1)).Nodup →
          w.groups[g].mute = m) ∧
        w.clock = s.clock ∧ KeepsSurface (received s) w

/-! ## Queries (specs 02 to 06, 09, 11) -/

/-- IDENTIFY, CHANNEL QUERY, MOVE QUERY, CLOCK QUERY, PLAYBACK QUERY, SURFACE QUERY and LANE QUERY report the
part as it stands, field by field, and change nothing (the rules of each chapter's query; chapter 11, section
11.7). The mode and the value that MOVE QUERY reports for a move with recorded targets are free (log entry 10),
and so are the four bytes of a due time that they do not hold (log entry 11); SURFACE QUERY's modules and strips
stand without a count (log entry 22). The composite fields of the reports are spelled out, and with them what a
unit, a member, a channel's strip and the pool's use are (`ReportLayouts`, `UnitWords`); the codes and the
integer forms are in Transmitter. The states of the pulse-loss timer, the follow slot and the end watch are
their presence bytes (log entry 43). -/
def Obligations.StateQueries : Prop :=
  ReportLayouts ∧ UnitWords ∧
  ∀ (tag : Byte) (s : State), LinkIdle s →
    exec (.identify tag []) s
      = .next (sending ⟨0x01, tag, []⟩
          ([0x00, 0x7A, 0x4E, 0x40, 0x0B, 0x01, 64, 0, 8, 0, 32, 0, 48, 0, 0x90, 0x01, 0x00, 0x08, 16, 0, 4, 0])
          (received s)) ∧
    (∀ c : Chan, exec (.channelQuery tag (u8 c.val)) s
      = .next (sending ⟨0x11, tag, u8 c.val⟩
          ([0x00] ++ (u8 c.val ++ flag (isLinked s c) ++ s16 s.chans[c].base ++ s16 s.chans[c].trim
            ++ s16 s.chans[c].cueLevel ++ claimField s.chans[c].claim ++ s16 (liveLevel s c)
            ++ s16 (composedLevel s c) ++ s16 (effectiveLevel s c) ++ flag (ceilingFlag s c)
            ++ flag s.chans[c].ownMute ++ flag (composedMute s c) ++ s16 s.chans[c].atten
            ++ u16 (rampInForce s c) ++ u16 s.chans[c].ramp ++ u8 s.chans[c].groups.toNat
            ++ u8 s.chans[c].taper.code ++ u8 s.chans[c].mode.code ++ u8 s.chans[c].policy.code
            ++ flag s.chans[c].safe ++ flag s.chans[c].announce ++ u8 s.chans[c].ownership.code
            ++ u8 (if s.chans[c].side = some .below then 1 else 0) ++ stripField (stripOf s c)))
          (received s))) ∧
    (∀ k : Slot, s.moves[k] = none → exec (.moveQuery tag (u8 k.val)) s
      = .next (sending ⟨0x22, tag, u8 k.val⟩ ([0x00] ++ u8 k.val ++ [0x00]) (received s))) ∧
    (∀ (k : Slot) (mv : Move), s.moves[k] = some mv →
      ∃ mode value : List Byte, mode.length = 1 ∧ value.length = 2 ∧
        (mv.isRecorded = false → mode = u8 mv.mode.code ∧ value = s16 mv.value) ∧
        exec (.moveQuery tag (u8 k.val)) s
          = .next (sending ⟨0x22, tag, u8 k.val⟩
              ([0x00] ++ (u8 k.val ++ u8 mv.phase.code ++ u8 mv.kind.code ++ originField mv.origin
                ++ specField mv.spec ++ (mode ++ value) ++ u8 mv.law.code ++ u8 mv.curve.code
                ++ u8 mv.timeBase.code ++ u24 mv.delay ++ u24 mv.duration ++ flag mv.cycle
                ++ u8 mv.remaining ++ dueField mv.due ++ startField mv.phase ++ u8 mv.claims
                ++ pendingField mv.pending ++ laneEntries s k))
              (if mv.isRecorded then tickFree (received s) else received s))) ∧
    exec (.clockQuery tag []) s
      = .next (sending ⟨0x2E, tag, []⟩
          ([0x00] ++ (u8 s.clock.state.code ++ u8 s.clock.source.code ++ u32 s.clock.showTime
            ++ u32 s.clock.wallTime ++ u8 s.clock.divisor ++ u8 s.clock.weight ++ flag (!s.clock.rising)
            ++ flag s.clock.lossTimer.isSome ++ u32 (s.clock.lossTimer.getD 0))) (received s)) ∧
    exec (.playbackQuery tag []) s
      = .next (sending ⟨0x37, tag, []⟩
          ([0x00] ++ (standbyField s.play.standby ++ followField s.play.follow ++ watchField s.play.endWatch
            ++ recallField s.play.recalls ++ u16 s.play.firing ++ u24 s.play.backTime
            ++ u16 s.play.store.length ++ u16 (poolUsed s.play.store))) (received s)) ∧
    exec (.surfaceQuery tag []) s
      = .next (sending ⟨0x42, tag, []⟩
          ([0x00] ++ (u8 s.surf.expected ++ u8 s.surf.qualify ++ u8 s.surf.deadBand ++ u16 s.surf.glide
            ++ (u8 s.surf.offsetA ++ u8 s.surf.offsetB ++ u8 s.surf.split)
            ++ s.surf.modules.toList.flatMap (fun m =>
                flag m.online ++ u8 m.misses ++ u16 m.totalMisses ++ u8 m.phase.code)
            ++ s.surf.strips.toList.flatMap (fun t =>
                bindingField t.binding ++ u16 t.cal.min ++ u16 t.cal.max ++ u8 t.cal.state.code
                  ++ u16 t.lastRaw ++ u16 t.lastPos ++ flag t.touch ++ u8 t.counter ++ flag t.armed
                  ++ u16 t.motorTarget ++ flag t.drive ++ flag t.led))) (received s)) ∧
    exec (.laneQuery tag []) s
      = .next (sending ⟨0x49, tag, []⟩
          ([0x00] ++ (laneSettingsField s.lanes.settings ++ pendingSettingsField s.lanes.pending
            ++ u32 s.lanes.nextStart ++ laneReport s.lanes.laneA ++ laneReport s.lanes.laneB))
          (received s))

/-! ## The surface, the calibration and the takeover (specs 06 to 08) -/

/-- SURFACE CONFIG writes the four surface settings; where M changes, the modules it no longer covers go
OFFLINE, every binding follows the bank settings, and the rotation restarts at module 0 (chapter 6, sections 6.5
and 6.8; log entry 30). The state it leaves is settled: the follows armed at or before show time then expire
(R107; log entry 7). The modules that go OFFLINE are taken in ascending order, each with its notices and the
releases of its touched strips, then the strips whose binding changes release their units in ascending strip
order (log entry 39); where no strip was touched, channels, groups and moves are as before (R120, R125, R127,
R149). The bindings are those of the rule that BankSet spells out (R126). -/
def Obligations.SurfaceConfig : Prop :=
  ∀ (tag : Byte) (s : State) (m n db g : Nat), LinkIdle s → m < 256 → n < 256 → db < 256 → g < 65536 →
    let p := u8 m ++ u8 n ++ u8 db ++ u16 g
    let fields : List Byte := [0x00] ++ flag (decide (32 < db ∨ 10000 < g)) ++ u8 m ++ u8 n ++ u8 (min db 32)
      ++ u16 (min g 10000)
    (4 < m ∨ n = 0 ∨ 4 < n → exec (.surfaceConfig tag p) s = .next (answeredOnly ⟨0x40, tag, p⟩ [0x04] s)) ∧
    (m = s.surf.expected → m ≤ 4 → 1 ≤ n → n ≤ 4 →
      exec (.surfaceConfig tag p) s
        = .next (sending ⟨0x40, tag, p⟩ fields
            (settle { received s with
              surf := { s.surf with qualify := n, deadBand := min db 32, glide := min g 10000 } }))) ∧
    (m ≠ s.surf.expected → m ≤ 4 → 1 ≤ n → n ≤ 4 →
      ∃ w, exec (.surfaceConfig tag p) s = .next (sending ⟨0x40, tag, p⟩ fields (settle w)) ∧
        w.surf.expected = m ∧ w.surf.qualify = n ∧ w.surf.deadBand = min db 32 ∧
        w.surf.glide = min g 10000 ∧ w.surf.nextPoll = 0 ∧
        w.surf.offsetA = s.surf.offsetA ∧ w.surf.offsetB = s.surf.offsetB ∧ w.surf.split = s.surf.split ∧
        (∀ j : ModuleId, m ≤ j.val → w.surf.modules[j].online = false) ∧
        (∀ j : ModuleId, m ≤ j.val → w.surf.modules[j] =
          if s.surf.modules[j].online then offlineRecord s.surf.modules[j] else s.surf.modules[j]) ∧
        (∀ j : ModuleId, j.val < m → w.surf.modules[j] = s.surf.modules[j]) ∧
        (∀ i : StripId, w.surf.strips[i].binding = bindingOf w.surf i) ∧
        (∀ i : StripId, w.surf.strips[i].cal = s.surf.strips[i].cal) ∧
        (∀ i : StripId, w.surf.strips[i] =
          if w.surf.strips[i].binding ≠ s.surf.strips[i].binding
            ∨ (m ≤ (moduleOf i).val ∧ s.surf.modules[moduleOf i].online = true) then
            { s.surf.strips[i] with
              binding := w.surf.strips[i].binding, touch := false, counter := 0, armed := false }
          else s.surf.strips[i]) ∧
        w.surf.exchange = (match s.surf.exchange with
          | some x => if m ≤ x.module.val then none else some x
          | none => none) ∧
        w.surf.begun = s.surf.begun ∧
        (∃ u : State,
          GoOffline .removed
            ((allFin 4).filter fun j => s.surf.modules[j].online && decide (m ≤ j.val))
            { received s with
              surf := { s.surf with
                expected := m, qualify := n, deadBand := min db 32, glide := min g 10000 } } u ∧
          ReleasesTouches
            ((allFin 32).filter fun i => w.surf.strips[i].binding != s.surf.strips[i].binding) u w) ∧
        KeepsClock (received s) w)

/-- BANK SET writes the bank settings and recomputes every binding; a strip whose binding changes loses its
touch and is disarmed, and any other strip is left as it was (chapter 6, section 6.5). The state it leaves is
settled: the follows armed at or before show time then expire (R107; log entry 7). The changed strips release
their units in ascending strip order (log entry 39); where none of them was touched, channels, groups and moves
are as before (R125, R127, R149). The rule of the bindings, with its candidates, its blanks and its lowest
strip, is spelled out (`BindingRule`, R126). -/
def Obligations.BankSet : Prop :=
  (∀ u : Surface, BindingRule u) ∧
  ∀ (tag : Byte) (s : State) (a b sp : Nat), LinkIdle s → a < 256 → b < 256 → sp < 256 →
    let p := u8 a ++ u8 b ++ u8 sp
    (63 < a ∨ 63 < b ∨ 4 < sp → exec (.bankSet tag p) s = .next (answeredOnly ⟨0x41, tag, p⟩ [0x04] s)) ∧
    (a ≤ 63 → b ≤ 63 → sp ≤ 4 →
      ∃ w, exec (.bankSet tag p) s
          = .next (sending ⟨0x41, tag, p⟩
              ([0x00] ++ u8 a ++ u8 b ++ u8 sp
                ++ u8 ((allFin 32).filter fun i => w.surf.strips[i].binding.isSome).length
                ++ u8 ((allFin 32).filter fun i =>
                    w.surf.strips[i].binding != s.surf.strips[i].binding).length) (settle w)) ∧
        { w.surf with strips := s.surf.strips } = { s.surf with offsetA := a, offsetB := b, split := sp } ∧
        (∀ i : StripId, w.surf.strips[i].binding = bindingOf w.surf i) ∧
        (∀ i : StripId, w.surf.strips[i] =
          if w.surf.strips[i].binding = s.surf.strips[i].binding then s.surf.strips[i]
          else { s.surf.strips[i] with
            binding := w.surf.strips[i].binding, touch := false, counter := 0, armed := false }) ∧
        ReleasesTouches
          ((allFin 32).filter fun i => w.surf.strips[i].binding != s.surf.strips[i].binding)
          { received s with surf := { s.surf with offsetA := a, offsetB := b, split := sp } } w ∧
        KeepsClock (received s) w)

/-- CALIBRATE: BAD_VALUE for a module at or above M, STATE for one OFFLINE, BUSY for one calibrating; otherwise
DRIVE_LOW begins with the drive timer started and every strip of the module loses its touch and is disarmed; the
state it leaves is settled: the follows armed at or before show time then expire (R107; log entry 7).
DRIVE_TIMER_EXPIRY ends a DRIVE phase 400 ms after it was entered (chapter 8); where none has run its time it
changes nothing (log entry 4). The start releases the units of the module's touched strips in ascending strip
order (log entry 39); where none was touched, channels, groups and moves are as before (R125, R149, R156). -/
def Obligations.CalibrateAndDrive : Prop :=
  (∀ (tag : Byte) (s : State) (b : Byte), LinkIdle s → (s.surf.expected ≤ b.toNat ∨ 4 ≤ b.toNat) →
    exec (.calibrate tag [b]) s = .next (answeredOnly ⟨0x43, tag, [b]⟩ [0x04] s)) ∧
  (∀ (tag : Byte) (s : State) (m : ModuleId), LinkIdle s → m.val < s.surf.expected →
    (s.surf.modules[m].online = false →
      exec (.calibrate tag (u8 m.val)) s = .next (answeredOnly ⟨0x43, tag, u8 m.val⟩ [0x0A] s)) ∧
    (s.surf.modules[m].online = true → s.surf.modules[m].phase ≠ .none →
      exec (.calibrate tag (u8 m.val)) s = .next (answeredOnly ⟨0x43, tag, u8 m.val⟩ [0x07] s)) ∧
    (s.surf.modules[m].online = true → s.surf.modules[m].phase = .none →
      ∃ w, exec (.calibrate tag (u8 m.val)) s
          = .next (sending ⟨0x43, tag, u8 m.val⟩ ([0x01] ++ u8 m.val) (settle w)) ∧
        w.surf = { s.surf with
          modules := s.surf.modules.set m { s.surf.modules[m] with
            phase := .driveLow, driveTimer := some s.clock.wallTime }
          strips := w.surf.strips } ∧
        (∀ i : StripId, w.surf.strips[i] =
          if moduleOf i = m then { s.surf.strips[i] with touch := false, counter := 0, armed := false }
          else s.surf.strips[i]) ∧
        ReleasesTouches (stripsOf m)
          { received s with
            surf := { s.surf with
              modules := s.surf.modules.set m { s.surf.modules[m] with
                phase := .driveLow, driveTimer := some s.clock.wallTime } } } w ∧
        KeepsClock (received s) w)) ∧
  ∀ (s : State) (m : ModuleId),
    let r := s.surf.modules[m]
    let reached := ∃ t, r.driveTimer = some t ∧ 400 ≤ wallSince s.clock.wallTime t
    (r.phase = .driveLow → reached → exec (.driveTimerExpiry m) s
      = .next { s with surf := { s.surf with
          modules := s.surf.modules.set m { r with phase := .sampleLow, driveTimer := none } } }) ∧
    (r.phase = .driveHigh → reached → exec (.driveTimerExpiry m) s
      = .next { s with surf := { s.surf with
          modules := s.surf.modules.set m { r with phase := .sampleHigh, driveTimer := none } } }) ∧
    ((r.phase ≠ .driveLow ∧ r.phase ≠ .driveHigh) ∨ ¬ reached → exec (.driveTimerExpiry m) s = .next s)

/-- LATCH RELEASE: BAD_VALUE for 64 to 254, STATE for a unit not LATCHED; otherwise the named unit, or every
LATCHED unit in ascending order, is handed back to AUTO, no other unit changes its state, and the reply
counts the rejoin glides created and those not made for want of a slot. The state it leaves is settled: the
follows armed at or before show time then expire (R107; log entry 7). A hand-back queues its TAKEOVER notice;
under HOLD, without a glide time, or where every B of the unit is its cue level it creates nothing; under
GLIDE it creates the rejoin glide of the unit's other channels, or without a free slot queues MOVES DROPPED
(chapter 7, sections 7.3 and 7.4). -/
def Obligations.LatchRelease : Prop :=
  (∀ (tag : Byte) (s : State), LinkIdle s → UnitLaw s →
    (∀ b : Byte, 64 ≤ b.toNat → b.toNat ≤ 254 →
      exec (.latchRelease tag [b]) s = .next (answeredOnly ⟨0x44, tag, [b]⟩ [0x04] s)) ∧
    (∀ c : Chan, s.chans[c].ownership ≠ .latched →
      exec (.latchRelease tag (u8 c.val)) s = .next (answeredOnly ⟨0x44, tag, u8 c.val⟩ [0x0A] s)) ∧
    (∀ c : Chan, s.chans[c].ownership = .latched →
      ∃ (w : State) (glide : Glide),
        handBackGlide c .latchRelease (received s) = (w, glide) ∧
        exec (.latchRelease tag (u8 c.val)) s
          = .next (sending ⟨0x44, tag, u8 c.val⟩
              ([0x00, 0x01] ++ u8 (if glide = .made then 1 else 0) ++ u8 (if glide = .dropped then 1 else 0))
              (settle w)) ∧
        (∀ d : Chan, w.chans[d].ownership = if d ∈ unitChans s c then .auto else s.chans[d].ownership) ∧
        KeepsShow (received s) w) ∧
    let units := (allFin 64).filter fun c => unitLower s c == c && s.chans[c].ownership == .latched
    ∃ (w : State) (made dropped : Nat),
      handBacks units (received s) = (w, made, dropped) ∧
      exec (.latchRelease tag [255]) s
        = .next (sending ⟨0x44, tag, [255]⟩
            ([0x00] ++ u8 units.length ++ u8 made ++ u8 dropped) (settle w)) ∧
      (∀ d : Chan, w.chans[d].ownership =
        if s.chans[d].ownership = .latched then .auto else s.chans[d].ownership) ∧
      KeepsShow (received s) w) ∧
  ∀ (s : State) (c : Chan) (cause : TakeoverCause),
    let auto := ownershipTo .auto c cause s
    let asked := s.chans[c].policy = .glide ∧ rejoinLanes s c ≠ [] ∧ s.surf.glide ≠ 0
    (¬ asked → handBackGlide c cause s = (auto, .notAsked)) ∧
    (asked → (∀ k : Slot, s.moves[k] ≠ none) →
      handBackGlide c cause s
        = ({ auto with link := auto.link.queue (.rejoinDropped (unitLower s c)) }, .dropped)) ∧
    (asked → ∀ k : Slot, s.moves[k] = none →
      handBackGlide c cause s = ((createRecorded (rejoinGlide s c) auto).1, .made))

/-- What a touch, a position report and a release do to the unit they are delivered for, as GOOD_REPLY and the
surface's requests deliver them (see GoodReply, SurfaceConfig, BankSet, CalibrateAndDrive and ReplyMiss). A
touch takes a unit in AUTO with mode TOUCH or LATCH, a LATCHED unit, and a PICKUP unit whose fader stands at V;
a PICKUP unit elsewhere enters PICKUP on the fader's side; a unit in PICKUP or TOUCHED is left as it is (R138,
R139, R140, R147). In TOUCHED a report writes the fader level into B (R143). In PICKUP a report of the strip
that holds the unit crosses V or changes nothing, and a report of another strip crosses at V or takes the side
anew (R141, R142). A release ends PICKUP without a trace, turns TOUCHED in LATCH mode into LATCHED, and hands
any other TOUCHED unit back (R142, R144, R147) (chapter 7, sections 7.1, 7.2, 7.3 and 7.4; log entry 13 for the
notice's B at a touch, log entry 40 for a report at B). The moves left without a claim retire SUPERSEDED after
the TAKEOVER notice and are reported to the end watch (R71, R72, R108). -/
def Obligations.TouchTakesUnit : Prop :=
  (∀ (s : State) (c : Chan) (i : StripId), UnitLaw s →
    (s.chans[c].ownership = .auto ∧ (s.chans[c].mode ≠ .pickup
      ∨ taperForward (tableOf s s.chans[c].taper) s.surf.strips[i].lastPos = liveLevel s c))
      ∨ s.chans[c].ownership = .latched →
    GoesTouched .touch c s (deliverTouch c i s)) ∧
  (∀ (s : State) (c : Chan) (i : StripId),
    let fader := taperForward (tableOf s s.chans[c].taper) s.surf.strips[i].lastPos
    let side : Side := if liveLevel s c < fader then .above else .below
    s.chans[c].ownership = .auto → s.chans[c].mode = .pickup → fader ≠ liveLevel s c →
    let w := deliverTouch c i s
    (∀ d : Chan, w.chans[d] =
      if d ∈ unitChans s c then
        { s.chans[d] with ownership := .pickup, side := some side, pickupStrip := some i, balance := none }
      else s.chans[d]) ∧
    w.link = s.link.queue (.takeover (unitLower s c) (isLinked s c) .auto .pickup (some side) .touch
      s.chans[unitLower s c].base s.chans[unitLower s c].cueLevel) ∧
    { w with chans := s.chans, link := s.link } = s) ∧
  (∀ (s : State) (c : Chan) (i : StripId),
    s.chans[c].ownership = .pickup ∨ s.chans[c].ownership = .touched → deliverTouch c i s = s) ∧
  (∀ (s : State) (c : Chan) (i : StripId), s.chans[c].ownership = .touched →
    WritesFader (taperForward (tableOf s s.chans[c].taper) s.surf.strips[i].lastPos) c s
      (deliverPosition c i s)) ∧
  (∀ (s : State) (c : Chan) (i : StripId), UnitLaw s → s.chans[c].ownership = .pickup →
    let fader := taperForward (tableOf s s.chans[c].taper) s.surf.strips[i].lastPos
    let level := liveLevel s c
    let crossed := (s.chans[c].side = some .above ∧ fader ≤ level) ∨ (s.chans[c].side = some .below ∧ level ≤ fader)
    let holder := s.chans[c].pickupStrip = some i
    ((holder ∧ crossed) ∨ (¬ holder ∧ fader = level) →
      ∃ u, GoesTouched .crossing c s u ∧ WritesFader fader c u (deliverPosition c i s)) ∧
    (holder → ¬ crossed → deliverPosition c i s = s) ∧
    (¬ holder → fader ≠ level →
      (∀ d : Chan, (deliverPosition c i s).chans[d] =
        if d ∈ unitChans s c then
          { s.chans[d] with
            side := some (if level < fader then .above else .below), pickupStrip := some i }
        else s.chans[d]) ∧
      { deliverPosition c i s with chans := s.chans } = s)) ∧
  (∀ (s : State) (c : Chan) (i : StripId),
    s.chans[c].ownership = .auto ∨ s.chans[c].ownership = .latched → deliverPosition c i s = s) ∧
  ∀ (s : State) (c : Chan),
    (s.chans[c].ownership = .pickup → deliverRelease c s = ownershipTo .auto c .release s) ∧
    (s.chans[c].ownership = .touched → s.chans[c].mode = .latch →
      deliverRelease c s = ownershipTo .latched c .release s) ∧
    (s.chans[c].ownership = .touched → s.chans[c].mode ≠ .latch →
      deliverRelease c s = (handBackGlide c .release s).1) ∧
    (s.chans[c].ownership = .auto ∨ s.chans[c].ownership = .latched → deliverRelease c s = s)

/-- EXCHANGE_START at an even millisecond with no exchange in progress polls the next expected module: its
poll frame carries, for each strip, the motor target, the drive flag and the LED, whose values are kept as
last sent, and ends with its checksum; in any other state nothing happens, nor in a millisecond in which an
exchange has begun (log entry 25) or while RESET IN is held (log entry 16) (chapter 6, sections 6.1, 6.6 and
6.7; chapter 11, section 11.7). -/
def Obligations.ExchangeStart : Prop :=
  (∀ s : State, s.surf.exchange.isSome = true ∨ s.clock.wallTime % 2 = 1 ∨ s.surf.expected = 0
      ∨ s.surf.begun = true ∨ s.link.held = true →
    exec .exchangeStart s = .next s) ∧
  ∀ (s : State) (m : ModuleId), s.surf.exchange = none → s.clock.wallTime % 2 = 0 → s.surf.begun = false →
    s.link.held = false →
    0 < s.surf.expected → s.surf.expected ≤ 4 →
    m.val = (if s.surf.nextPoll < s.surf.expected then s.surf.nextPoll else 0) →
    ∃ (w : State) (entries : List Byte) (ck : Nat), exec .exchangeStart s = .next w ∧
      w.surf = { s.surf with
        exchange := some ⟨m, s.surf.modules[m].phase,
          [0xC3] ++ (u8 (m.val + 1) ++ entries) ++ u16 ck⟩
        begun := true
        nextPoll := (m.val + 1) % s.surf.expected
        strips := w.surf.strips } ∧
      { w with surf := s.surf } = s ∧
      ck < 65536 ∧ (byteSum (u8 (m.val + 1) ++ entries) + ck) % 65536 = 0 ∧
      entries = (stripsOf m).flatMap (fun i => u16 w.surf.strips[i].motorTarget
        ++ u8 ((if w.surf.strips[i].drive then 1 else 0) + (if w.surf.strips[i].led then 2 else 0))) ∧
      (∀ i : StripId, moduleOf i ≠ m → w.surf.strips[i] = s.surf.strips[i]) ∧
      ∀ i : StripId, moduleOf i = m →
        let t := s.surf.strips[i]
        let phase := s.surf.modules[m].phase
        let goal := match t.binding with
          | some c => taperInverse (tableOf s s.chans[c].taper) (liveLevel s c)
          | none => 0
        w.surf.strips[i] = { t with
          motorTarget :=
            if phase = .none then t.cal.min + (goal * (t.cal.max - t.cal.min) + 512) / 1024
            else if phase = .driveLow ∨ phase = .sampleLow then 0 else 1023
          drive := decide (s.surf.modules[m].online = true ∧ (phase ≠ .none ∨
            (t.cal.state ≠ .failed ∧ t.touch = false ∧ t.reported = false
              ∧ (goal + s.surf.deadBand < t.lastPos ∨ t.lastPos + s.surf.deadBand < goal))))
          led := match t.binding with | some c => composedMute s c | none => false }

/-- GOOD_REPLY with a module's frame for the exchange in progress: the module is ONLINE with no misses, with a
MODULE notice where it was OFFLINE, and each of its strips in order takes its raw value, its reported touch and
the position its calibration entry gives; then its touch is armed or qualified and delivered to its unit, its
position is reported when it supplies its unit, and its key toggles its unit's own mute. A reply sampled in a
SAMPLE phase gives the candidates, and the second of them is evaluated. No other module's strips change, and a
module that is not calibrating keeps its entries. The state it leaves is settled: the follows armed at or before
show time then expire (R107; log entry 7). Without an exchange in progress a reply is discarded (R118, section
6.1), and while RESET IN is held none is taken (log entry 16) (chapter 6, sections 6.1, 6.2, 6.3, 6.4 and 6.7;
chapter 8; chapter 11, section 11.7 for the reply frame). The position of a raw value through an entry of
positive span is spelled out (`PositionRule`, R122). Which bytes are a good reply, and what each strip's three
say, is spelled out (`ReplyRule`, R118, R193); that a reply with another start byte than 3Ch or another length is not
good is the model's reading, for R118's list does not name them (log entry 19). An IDLE transmitter chooses once,
after the whole event (log entry 41). The moves that the reply retires queue their notices in ascending slot
order, whichever strip retires them, after the TAKEOVER notices of the reply (R71, R152; log entry 42). -/
def Obligations.GoodReply : Prop :=
  (∀ e : CalEntry, e.min < e.max → PositionRule e) ∧ (∀ (m : ModuleId) (bytes : List Byte), ReplyRule m bytes) ∧
  (∀ (s : State) (bytes : List Byte), s.surf.exchange = none ∨ s.link.held = true →
    exec (.goodReply bytes) s = .next (choose s)) ∧
  (∀ (s : State) (x : Exchange) (rs : List StripReport), s.link.held = false → s.surf.exchange = some x →
    rs.length = 8 → (∀ r ∈ rs, r.raw ≤ 1023) →
    let r := s.surf.modules[x.module]
    let begun : State := { s with
      surf := { s.surf with
        exchange := none
        modules := s.surf.modules.set x.module { r with online := true, misses := 0 } }
      link := if r.online then s.link else s.link.queue (.module x.module true .reply r.totalMisses) }
    ∃ (w v : State) (keys : List PairId), exec (.goodReply (replyFrame x.module rs)) s = .next (choose (settle w)) ∧
      StripsTaken ((stripsOf x.module).zip rs) (opened begun, []) (v, keys) ∧
      TakesSample x.module x.phase (rs.map (·.raw)) { v with link := closed s.link.instant.isSome v.link } w ∧
      (s.link.instant = none → ∃ (others : List Notice) (gone : List Retirement),
        QueuesInstant others gone begun.link (closed false v.link)) ∧
      w.surf.exchange = none ∧
      w.surf.modules[x.module].online = true ∧ w.surf.modules[x.module].misses = 0 ∧
      w.surf.modules[x.module].totalMisses = s.surf.modules[x.module].totalMisses ∧
      (∀ m : ModuleId, m ≠ x.module → w.surf.modules[m] = s.surf.modules[m]) ∧
      (∀ i : StripId, moduleOf i ≠ x.module → w.surf.strips[i] = s.surf.strips[i]) ∧
      (∀ (j : Fin 8) (r : StripReport), rs[j.val]? = some r →
        let i := stripAt x.module j
        w.surf.strips[i].lastRaw = r.raw ∧ w.surf.strips[i].reported = r.touch ∧
        w.surf.strips[i].lastPos = rawToPosition w.surf.strips[i].cal r.raw ∧
        w.surf.strips[i].binding = s.surf.strips[i].binding ∧
        (s.surf.modules[x.module].phase = .none →
          w.surf.strips[i].cal = s.surf.strips[i].cal ∧
          (s.surf.strips[i].armed = false → s.surf.strips[i].cal.state ≠ .failed →
            w.surf.strips[i].armed = !r.touch ∧ w.surf.strips[i].touch = s.surf.strips[i].touch))) ∧
      KeepsClock s w) ∧
  ∀ (s : State) (c : Chan),
    (unitTouched s c = true ↔
      ∃ (i : StripId) (d : Chan), s.surf.strips[i].touch = true ∧ s.surf.strips[i].binding = some d
        ∧ d ∈ unitChans s c) ∧
    ((supplyingStrip s c).isSome = unitTouched s c) ∧
    ∀ i : StripId, supplyingStrip s c = some i →
      ∃ d ∈ unitChans s c, s.surf.strips[i].touch = true ∧ s.surf.strips[i].binding = some d ∧
        ∀ (j : StripId) (e : Chan), s.surf.strips[j].touch = true → s.surf.strips[j].binding = some e →
          e ∈ unitChans s c → d ≤ e

/-- REPLY_WINDOW_EXPIRY is a miss of the module polled: the total rises and stops at 65535; the third miss in a
row of an ONLINE module takes it OFFLINE, ends its calibration and withdraws its strips. The state it leaves is
settled: the follows armed at or before show time then expire (R107; log entry 7). Without an exchange in
progress it changes nothing (log entry 4), and a reply that is not good is no outcome: the exchange goes on to
the end of its window (log entry 19) (chapter 6, sections 6.1 and 6.2). Going OFFLINE queues the MODULE notice
and, where the module was calibrating, the CALIBRATION notice, and releases the units of its touched strips in
ascending strip order (log entry 39); where none was touched, channels, groups and moves are as before (R120,
R125, R149, R163). An IDLE transmitter chooses once, after the whole event (log entry 41). -/
def Obligations.ReplyMiss : Prop :=
  (∀ s : State, s.surf.exchange = none → exec .replyWindowExpiry s = .next (choose s)) ∧
  (∀ (s : State) (x : Exchange) (bytes : List Byte), s.surf.exchange = some x →
    parseReply x.module bytes = none → exec (.goodReply bytes) s = .next (choose s)) ∧
  ∀ (s : State) (x : Exchange), s.surf.exchange = some x →
    let r := s.surf.modules[x.module]
    let total := min (r.totalMisses + 1) 65535
    (r.online = false ∨ r.misses < 2 →
      exec .replyWindowExpiry s
        = .next (choose (settle { s with
            surf := { s.surf with
              exchange := none
              modules := s.surf.modules.set x.module { r with
                totalMisses := total, misses := if r.online then r.misses + 1 else r.misses } } }))) ∧
    (r.online = true → 2 ≤ r.misses →
      ∃ w, exec .replyWindowExpiry s = .next (choose (settle w)) ∧
        w.surf = { s.surf with
          exchange := none
          modules := s.surf.modules.set x.module { r with
            online := false, misses := 0, totalMisses := total, phase := .none
            driveTimer := if r.phase = .none then r.driveTimer else none
            candMin := if r.phase = .none then r.candMin else none
            candMax := if r.phase = .none then r.candMax else none }
          strips := w.surf.strips } ∧
        (∀ i : StripId, w.surf.strips[i] =
          if moduleOf i = x.module then { s.surf.strips[i] with touch := false, counter := 0, armed := false }
          else s.surf.strips[i]) ∧
        GoesOffline x.module .misses
          { s with
            surf := { s.surf with
              exchange := none
              modules := s.surf.modules.set x.module { r with totalMisses := total } } } w ∧
        KeepsClock s w)

/-! ## The output lanes (spec 09) -/

/-- LANE CONFIG stores the settings as pending; FRAME_COMPLETION and LANE_READY_EDGE change the lane they
name, with a LANE notice where its state changes, and nothing else (chapter 9, sections 9.3, 9.4 and 9.6; log
entry 4). -/
def Obligations.LaneInputs : Prop :=
  (∀ (tag : Byte) (s : State) (a : LaneSettings), LinkIdle s → a.partition < 256 → a.period < 256 →
    let p := flag a.splitMode ++ u8 a.partition ++ u8 a.period ++ flag a.enableA ++ flag a.enableB
    let allowed := a.period ∈ [1, 2, 4] ∧ 8 ≤ a.partition ∧ a.partition ≤ 56 ∧ a.partition % 8 = 0
    (allowed → exec (.laneConfig tag p) s
      = .next (sending ⟨0x48, tag, p⟩ ([0x00] ++ p)
          { received s with lanes := { s.lanes with pending := some a } })) ∧
    (¬ allowed → exec (.laneConfig tag p) s = .next (answeredOnly ⟨0x48, tag, p⟩ [0x04] s))) ∧
  (∀ (s : State) (id : LaneId), (laneOf id s.lanes).inFlight = none →
    exec (.frameCompletion id) s = .next (choose s)) ∧
  (∀ (s : State) (id : LaneId), (laneOf id s.lanes).inFlight ≠ none →
    let l := laneOf id s.lanes
    let back := l.fallPending = true ∧ l.ready = true ∧ l.state = .waiting
    ∃ w, exec (.frameCompletion id) s = .next (choose w) ∧
      laneOf id w.lanes = { l with
        inFlight := none, fallPending := false, sent := (l.sent + 1) % 4294967296
        state := if back then .sending else l.state, counter := if back then 0 else l.counter } ∧
      (∀ j : LaneId, j ≠ id → laneOf j w.lanes = laneOf j s.lanes) ∧
      w.lanes.settings = s.lanes.settings ∧ w.lanes.pending = s.lanes.pending ∧
      w.lanes.nextStart = s.lanes.nextStart ∧
      { w with lanes := s.lanes, link := s.link } = s ∧
      w.link = if back then s.link.queue (.lane id .waiting .sending .readyRise 0 l.losses) else s.link) ∧
  ∀ (s : State) (id : LaneId) (rising : Bool),
    let l := laneOf id s.lanes
    let starts := rising = true ∧ l.state = .waiting ∧ l.inFlight = none
    let falls := rising = false ∧ l.state = .sending
    ∃ w, exec (.laneReadyEdge id rising) s = .next (choose w) ∧
      laneOf id w.lanes = { l with
        ready := rising
        state := if starts then .sending else if falls then .waiting else l.state
        counter := if starts then 0 else l.counter
        losses := if falls then min (l.losses + 1) 65535 else l.losses
        fallPending := if falls ∧ l.inFlight ≠ none then true else l.fallPending } ∧
      (∀ j : LaneId, j ≠ id → laneOf j w.lanes = laneOf j s.lanes) ∧
      w.lanes.settings = s.lanes.settings ∧ w.lanes.pending = s.lanes.pending ∧
      w.lanes.nextStart = s.lanes.nextStart ∧
      { w with lanes := s.lanes, link := s.link } = s ∧
      w.link =
        if starts then s.link.queue (.lane id .waiting .sending .readyRise 0 l.losses)
        else if falls then
          s.link.queue (.lane id .sending .waiting .readyFall l.counter (min (l.losses + 1) 65535))
        else s.link

/-- FRAME_START at its scheduled wall time with no frame in flight: pending settings come into force, the next
start is scheduled one period on, and each lane that is then SENDING puts a frame in flight that carries the
lane's counter, show time, clock and stop state and every carried channel's effective level and flags, and its
counter rises; before that time nothing happens (chapter 9, sections 9.2, 9.4 and 9.5; log entries 4 and 34). A
channel's flag byte holds its composed mute, whether its mute attenuation is OFF, its ceiling flag, whether it
is claimed, and in bits 4 and 5 its ownership state (chapter 11, section 11.7); in single mode each lane carries
channels 0 to 63, in split mode lane A those below P and lane B the others. A frame start is due when wall time
stands at its scheduled time or less than half the counter past it and neither lane has a frame in flight (R166;
log entry 34). The notices are those of R168 and R173: one with cause CONFIG for each lane whose state changes,
lane A before lane B, with the counter and the ready losses after the change. An IDLE transmitter chooses once,
after the whole event (log entry 41). -/
def Obligations.FrameStart : Prop :=
  (∀ l : Lanes, laneOf .laneA l = l.laneA ∧ laneOf .laneB l = l.laneB) ∧
  (∀ a : LaneSettings, a.enableOf .laneA = a.enableA ∧ a.enableOf .laneB = a.enableB) ∧
  (∀ s : State, frameStartDue s = true ↔
    (s.clock.wallTime + 4294967296 - s.lanes.nextStart) % 4294967296 < 2147483648 ∧
      s.lanes.laneA.inFlight = none ∧ s.lanes.laneB.inFlight = none) ∧
  (∀ s : State, frameStartDue s = false → exec .frameStart s = .next (choose s)) ∧
  (∀ (s : State) (c : Chan),
    let bits := BitVec.ofNat 8 (laneFlags s c)
    let owner := s.chans[c].ownership
    laneFlags s c < 64 ∧ bits.getLsbD 0 = composedMute s c ∧
    bits.getLsbD 1 = decide (s.chans[c].atten = -3072) ∧ bits.getLsbD 2 = ceilingFlag s c ∧
    bits.getLsbD 3 = s.chans[c].claim.isSome ∧
    bits.getLsbD 4 = (owner == .pickup || owner == .latched) ∧
    bits.getLsbD 5 = (owner == .touched || owner == .latched)) ∧
  (∀ (id : LaneId) (a : LaneSettings), a.partition ≤ 64 →
    let first := if a.splitMode = true ∧ id = .laneB then a.partition else 0
    let last := if a.splitMode = true ∧ id = .laneA then a.partition else 64
    firstChannel id a = first ∧ channelCount id a = last - first ∧
    (carriedChans id a).Pairwise (· < ·) ∧
    ∀ c : Chan, c ∈ carriedChans id a ↔ first ≤ c.val ∧ c.val < last) ∧
  ∀ s : State, frameStartDue s = true →
    let now := s.lanes.pending.getD s.lanes.settings
    let stateOf : LaneId → LaneState := fun id =>
      if s.lanes.pending = none then (laneOf id s.lanes).state
      else if now.enableOf id = false then .disabled
      else if (laneOf id s.lanes).state = .disabled then
        (if (laneOf id s.lanes).ready then .sending else .waiting)
      else (laneOf id s.lanes).state
    let counterOf : LaneId → Nat := fun id =>
      if s.lanes.pending ≠ none ∧ now.enableOf id = true ∧ (laneOf id s.lanes).state = .disabled
          ∧ (laneOf id s.lanes).ready = true then 0
      else (laneOf id s.lanes).counter
    ∃ w, exec .frameStart s = .next (choose w) ∧
      w.lanes.settings = now ∧ w.lanes.pending = none ∧
      w.lanes.nextStart = (s.lanes.nextStart + now.period) % 4294967296 ∧
      (∀ id : LaneId,
        laneOf id w.lanes = { laneOf id s.lanes with
          state := stateOf id
          counter := if stateOf id = .sending then (counterOf id + 1) % 65536 else counterOf id
          inFlight := (laneOf id w.lanes).inFlight } ∧
        (stateOf id ≠ .sending → (laneOf id w.lanes).inFlight = none) ∧
        (stateOf id = .sending → ∃ ck : Nat, ck < 65536 ∧
          let covered := u8 (laneCode id) ++ u16 (counterOf id) ++ u32 s.clock.showTime ++ u8 s.clock.state.code
            ++ flag s.stop.active ++ u8 (channelCount id now) ++ u8 (firstChannel id now)
            ++ (carriedChans id now).flatMap fun c => s16 (effectiveLevel s c) ++ u8 (laneFlags s c)
          (byteSum covered + ck) % 65536 = 0 ∧
          (laneOf id w.lanes).inFlight = some ([0x5A] ++ covered ++ u16 ck))) ∧
      { w with lanes := s.lanes, link := s.link } = s ∧
      w.link = queueAll ([LaneId.laneA, .laneB].filterMap fun id =>
        if stateOf id = (laneOf id s.lanes).state then none
        else some (.lane id (laneOf id s.lanes).state (stateOf id) .config (counterOf id)
          (laneOf id s.lanes).losses)) s.link

/-! ## The show stop (spec 10) -/

/-- STOP and STOP_IN_ASSERTED: from CLEAR each enters the stop with its own cause: the clock is held, the follow
dropped, every move but rejoin glides cancelled and the stop mute put on; in ACTIVE the request changes nothing
and the assertion only moves the line level and queues its notice (chapter 10, sections 10.2 and 10.4; log entry
33 for the instant of the stop mute). An IDLE transmitter chooses once, after the notices of the entry (log
entry 41). -/
def Obligations.StopEntry : Prop :=
  (∀ (tag : Byte) (s : State), LinkIdle s → s.stop.active = true →
    exec (.stop tag []) s
      = .next (sending ⟨0x50, tag, []⟩ ([0x00, 0x01] ++ flag s.stop.line) (received s))) ∧
  (∀ (tag : Byte) (s : State), LinkIdle s → s.stop.active = false →
    ∃ w, exec (.stop tag []) s
        = .next (sending ⟨0x50, tag, []⟩ ([0x00, 0x01] ++ flag s.stop.line) w) ∧
      EntersStop .request (received s) w) ∧
  (∀ s : State, s.stop.active = false →
    ∃ w, exec .stopInAsserted s = .next (choose w) ∧
      EntersStop .line { s with stop := { s.stop with line := true } } w) ∧
  ∀ s : State, s.stop.active = true →
    exec .stopInAsserted s
      = .next (choose { s with
          stop := { s.stop with line := true }
          link := s.link.queue (.stop .lineAsserted true true 0 s.clock.showTime s.clock.state) })

/-- STOP CLEAR, STOP CONFIG and STOP_IN_RELEASED: a stop with the line asserted is not cleared; clearing turns
the stop term off and restores nothing; S_stop takes its clamped value; a release of the line keeps the stop
(chapter 10, section 10.4; log entry 31 for a release in CLEAR). -/
def Obligations.StopClearConfig : Prop :=
  (∀ (tag : Byte) (s : State), LinkIdle s →
    (s.stop.active = true → s.stop.line = true →
      exec (.stopClear tag []) s = .next (answeredOnly ⟨0x51, tag, []⟩ [0x0A] s)) ∧
    (s.stop.active = false → exec (.stopClear tag []) s
      = .next (sending ⟨0x51, tag, []⟩ ([0x00, 0x00] ++ flag s.stop.line) (received s))) ∧
    (s.stop.active = true → s.stop.line = false →
      ∃ w, exec (.stopClear tag []) s = .next (sending ⟨0x51, tag, []⟩ [0x00, 0x00, 0x00] w) ∧
        w.stop = { s.stop with active := false } ∧
        (∀ c : Chan, w.chans[c] = { s.chans[c] with atten := rampAfter s w c }) ∧
        w.link = (received s).link.queue (.stop .cleared false false 0 s.clock.showTime s.clock.state) ∧
        { w with stop := s.stop, chans := s.chans, link := s.link } = s)) ∧
  (∀ (tag : Byte) (s : State) (n : Nat), LinkIdle s → n < 65536 →
    ∃ w, exec (.stopConfig tag (u16 n)) s
        = .next (sending ⟨0x52, tag, u16 n⟩
            ([0x00] ++ flag (decide (1000 < n)) ++ u16 (min n 1000) ++ flag s.stop.active
              ++ flag s.stop.line) w) ∧
      w.stop = { s.stop with ramp := min n 1000 } ∧
      (∀ c : Chan, w.chans[c] = { s.chans[c] with atten := rampAfter s w c }) ∧
      { w with stop := s.stop, chans := s.chans } = received s) ∧
  ∀ s : State, exec .stopInReleased s
    = .next (choose { s with
        stop := { s.stop with line := false }
        link := if s.stop.active then
            s.link.queue (.stop .lineReleased true false 0 s.clock.showTime s.clock.state)
          else s.link })

/-! ## The control link, the resets (spec 11) -/

/-- RESET: every block takes its soft-reset values, the two queues of the link are emptied and the overflow
flag is cleared, without a notice; every other piece of state is kept (chapter 11, section 11.6, and the
soft-reset columns of each chapter; log entry 29 for the divider count, which stays). -/
def Obligations.SoftReset : Prop :=
  ∀ (tag : Byte) (s : State), LinkIdle s →
    ∃ w, exec (.reset tag []) s = .next (sending ⟨0x02, tag, []⟩ [0x00] w) ∧
      (∀ c : Chan, w.chans[c] =
        { s.chans[c] with
          base := liveLevel s c, claim := none, ownership := .auto, side := none, pickupStrip := none
          balance := none }) ∧
      (∀ g : Grp, w.groups[g] = { s.groups[g] with offset := liveOffset s g, claim := none }) ∧
      (∀ k : Slot, w.moves[k] = none) ∧
      w.clock =
        { s.clock with
          state := .stopped, showTime := 0, lossTimer := none
          source := if s.clock.source = .freewheel then .pulse else s.clock.source } ∧
      w.play =
        { s.play with
          store := s.play.store.map fun c => { c with loopCounter := c.loopCount }
          firing := 0, follow := none, endWatch := none, recalls := [] } ∧
      (∀ m : ModuleId, w.surf.modules[m] =
        { s.surf.modules[m] with phase := .none, driveTimer := none, candMin := none, candMax := none }) ∧
      (∀ i : StripId, w.surf.strips[i] =
        { s.surf.strips[i] with touch := false, counter := 0, armed := false }) ∧
      { w.surf with modules := s.surf.modules, strips := s.surf.strips } = s.surf ∧
      w.link = { (received s).link with rxQueue := [], notices := [], overflow := false } ∧
      { w with
        chans := s.chans, groups := s.groups, moves := s.moves, clock := s.clock, play := s.play
        surf := s.surf, link := s.link } = s

/-- The state right after power-on, field by field, and POWER_ON, which brings the part there with the levels
of its pins and queues the STOP notice when STOP IN is asserted (the power-on columns of each chapter; log
entry 6 for the pins of State.reset, which the manual leaves to the board; log entry 29 for the divider count;
log entries 1, 8, 23, 25 and 42 for the model's own fields: the queue, the free count, the move count, whether an
exchange has begun and the retirements of an instant in hand). -/
def Obligations.PowerOnValues : Prop :=
  (∀ c : Chan, State.reset.chans[c] =
    { base := -3072, trim := 0, cueLevel := -3072, claim := none, ownMute := true, atten := -3072, ramp := 10
      groups := 0, taper := .a, mode := .touch, policy := .hold, safe := false, announce := false
      ownership := .auto, side := none, pickupStrip := none, balance := none }) ∧
  (∀ g : Grp, State.reset.groups[g] = { offset := 0, mute := false, claim := none }) ∧
  (∀ k : PairId, State.reset.pairLinked[k] = false) ∧
  (∀ e : SetId, State.reset.sets[e] = []) ∧
  (∀ k : Fin 33, State.reset.taperB[k] = if k = 0 then -3072 else 320 - 100 * (32 - (k.val : Int))) ∧
  State.reset.taperA.toList =
    [-3072, -2880, -2560, -2240, -1920, -1760, -1600, -1440, -1280, -1200, -1120, -1040, -960, -880, -800, -720,
      -640, -560, -480, -400, -320, -240, -160, -80, 0, 40, 80, 120, 160, 200, 240, 280, 320] ∧
  (∀ k : Slot, State.reset.moves[k] = none) ∧
  (State.reset.clock =
    { showTime := 0, wallTime := 0, state := .stopped, source := .internal, divisor := 1, divCount := 0
      weight := 40, rising := true, lossTimer := none }) ∧
  (State.reset.play =
    { store := [], standby := none, firing := 0, follow := none, endWatch := none, recalls := []
      backTime := 2000 }) ∧
  (State.reset.surf =
    { expected := 4, qualify := 2, deadBand := 4, glide := 1000, offsetA := 0, offsetB := 0, split := 4
      nextPoll := 0, exchange := none, begun := false, modules := State.reset.surf.modules
      strips := State.reset.surf.strips }) ∧
  (∀ m : ModuleId, State.reset.surf.modules[m] =
    { online := false, misses := 0, totalMisses := 0, phase := .none, driveTimer := none, candMin := none
      candMax := none }) ∧
  (∀ i : StripId, State.reset.surf.strips[i] =
    { binding := some ⟨i.val, by omega⟩, cal := ⟨0, 1023, .uncalibrated⟩, lastRaw := 0, lastPos := 0
      touch := false, counter := 0, armed := false, motorTarget := 0, drive := false, led := false
      reported := false }) ∧
  (State.reset.lanes = { settings := ⟨false, 32, 1, false, false⟩, pending := none, nextStart := 1
                         laneA := State.reset.lanes.laneA, laneB := State.reset.lanes.laneB }) ∧
  (∀ id : LaneId, laneOf id State.reset.lanes =
    { state := .disabled, ready := false, inFlight := none, fallPending := false, counter := 0, sent := 0
      losses := 0 }) ∧
  State.reset.stop = ⟨false, false, 50⟩ ∧
  (State.reset.link =
    { rate := .kbit250, receiver := .hunting, rxQueue := [], reply := none, tx := none, notices := []
      overflow := false, mask := 0x01FF, stats := ⟨0, 0, 0, 0, 0, 0, 0, 0⟩, held := false, instant := none }) ∧
  (State.reset.pending = [] ∧ State.reset.freeCount = 0 ∧ State.reset.moveSeq = 0) ∧
  ∀ (s : State) (resetIn : Bool) (rate : LineRate) (stopIn readyA readyB : Bool),
    exec (.powerOn resetIn rate stopIn readyA readyB) s
      = .next (choose { State.reset with
          stop := { active := stopIn, line := stopIn, ramp := 50 }
          lanes := { State.reset.lanes with laneA := { ready := readyA }, laneB := { ready := readyB } }
          link := { State.reset.link with
            rate := rate, held := resetIn
            notices := if stopIn then [.stop .powerOn true true 0 0 .stopped] else [] }
          pending := s.pending
          freeCount := s.freeCount })

/-- LINK STATUS reports the rate, the eight counters, the queues and the overflow flag, and clears the
counters when asked; NOTICE ENABLE writes the mask of nine kinds (chapter 11, sections 11.5 and 11.6). -/
def Obligations.LinkSettings : Prop :=
  ∀ (tag : Byte) (s : State), LinkIdle s →
    (∀ clear : Bool,
      let t := (received s).link.stats
      exec (.linkStatus tag (flag clear)) s
        = .next (sending ⟨0x03, tag, flag clear⟩
            ([0x00] ++ (u8 (rateCode s.link.rate) ++ (u16 t.received ++ u16 t.checksum ++ u16 t.length
              ++ u16 t.timeouts ++ u16 t.framing ++ u16 t.breaks ++ u16 t.overruns ++ u16 t.dropped)
              ++ u8 0 ++ u8 s.link.notices.length ++ flag s.link.overflow))
            { received s with link := { s.link with stats := if clear then {} else t } })) ∧
    (∀ b : Byte, 1 < b.toNat →
      exec (.linkStatus tag [b]) s = .next (answeredOnly ⟨0x03, tag, [b]⟩ [0x04] s)) ∧
    ∀ m : Nat, m < 65536 →
      (m < 512 → exec (.noticeEnable tag (u16 m)) s
        = .next (sending ⟨0x04, tag, u16 m⟩ ([0x00] ++ u16 m)
            { received s with link := { (received s).link with mask := BitVec.ofNat 16 m } })) ∧
      (512 ≤ m → exec (.noticeEnable tag (u16 m)) s
        = .next (answeredOnly ⟨0x04, tag, u16 m⟩ [0x04] s))

/-- The receiver: a character while HUNTING begins a frame when it is A5h and is discarded otherwise; the last
character of a whole frame completes it, and the frame is then taken as the request command that carries it; the
gap timer starts at SYNC and again at each character of the frame, and expires when more than 5 ms of wall time
have passed (log entry 18); a wrong CHECK, a LENGTH outside 2 to 1026, the gap timer, a low stop bit and a break
each end a frame and raise their counter; while RESET IN is held nothing is taken from the line (chapter 11,
sections 11.2 and 11.6; log entry 2; log entry 4 for GAP_TIMER_EXPIRY and LINE_HIGH_AFTER_BREAK where nothing is
there to end). The frame that `Frame.wire` puts on the line is spelled out, with the CHECK that brings the
16-bit sum to zero (R182, R193). A request command is the completion of its frame (log entry 2). -/
def Obligations.Receiver : Prop :=
  (∀ bs : List Byte, byteSum bs = (bs.map fun b => b.toNat).sum % 65536) ∧
  (∀ f : Frame, f.payload.length ≤ 1024 → ∃ l0 l1 c0 c1 : Byte,
    f.wire = [0xA5, l0, l1, f.type, f.tag] ++ f.payload ++ [c0, c1] ∧
    l0.toNat + 256 * l1.toNat = f.payload.length + 2 ∧
    ((([l0, l1, f.type, f.tag] ++ f.payload).map fun b => b.toNat).sum + (c0.toNat + 256 * c1.toNat))
      % 65536 = 0) ∧
  (∀ (c : Instr) (f : Frame) (s : State), frameOfCommand c = some f → exec c s = .next (submitFrame f s)) ∧
  ∀ s : State,
    (s.link.held = true → ∀ (b : Byte) (ok : Bool), exec (.characterReceived b ok) s = .next s) ∧
    (s.link.held = false → s.link.receiver = .hunting → ∀ b : Byte,
      exec (.characterReceived b true) s
        = .next { s with link := { s.link with
            receiver := if b = 0xA5 then .assembling [] s.clock.wallTime else .hunting } }) ∧
    (s.link.held = false → ∀ (f : Frame) (n since : Nat) (b : Byte), f.payload.length ≤ 1024 →
      n < f.wire.length - 1 → f.wire[n + 1]? = some b →
      s.link.receiver = .assembling ((f.wire.drop 1).take n) since →
      exec (.characterReceived b true) s =
        if n + 2 < f.wire.length then
          .next { s with link := { s.link with
            receiver := .assembling ((f.wire.drop 1).take (n + 1)) s.clock.wallTime } }
        else .next (submitFrame f { s with link := { s.link with receiver := .hunting } })) ∧
    (s.link.held = false → ∀ (l0 l1 : Byte) (since : Nat), s.link.receiver = .assembling [l0] since →
      (le16 l0 l1 < 2 ∨ 1026 < le16 l0 l1) →
      exec (.characterReceived l1 true) s
        = .next { s with link := { s.link with
            receiver := .hunting, stats := { s.link.stats with length := min (s.link.stats.length + 1) 65535 } } }) ∧
    (s.link.held = false → ∀ (f : Frame) (c0 c1 : Byte) (since : Nat), f.payload.length ≤ 1024 →
      u16 (le16 c0 c1) ≠ f.wire.drop (f.wire.length - 2) →
      s.link.receiver = .assembling ((f.wire.drop 1).take (f.wire.length - 3) ++ [c0]) since →
      exec (.characterReceived c1 true) s
        = .next { s with link := { s.link with
            receiver := .hunting
            stats := { s.link.stats with checksum := min (s.link.stats.checksum + 1) 65535 } } }) ∧
    (s.link.held = false → s.link.receiver ≠ .broken → ∀ b : Byte,
      exec (.characterReceived b false) s
        = .next { s with link := { s.link with
            receiver := .hunting
            stats := { s.link.stats with framing := min (s.link.stats.framing + 1) 65535 } } }) ∧
    (s.link.receiver = .broken → ∀ (b : Byte) (ok : Bool), exec (.characterReceived b ok) s = .next s) ∧
    (∀ taken since, s.link.receiver = .assembling taken since →
      5 < (s.clock.wallTime + 4294967296 - since) % 4294967296 →
      exec .gapTimerExpiry s
        = .next { s with link := { s.link with
            receiver := .hunting
            stats := { s.link.stats with timeouts := min (s.link.stats.timeouts + 1) 65535 } } }) ∧
    ((∀ taken since, s.link.receiver = .assembling taken since →
        (s.clock.wallTime + 4294967296 - since) % 4294967296 ≤ 5) →
      exec .gapTimerExpiry s = .next s) ∧
    (s.link.held = false → s.link.receiver ≠ .broken →
      exec .lineBreak s
        = .next { s with link := { s.link with
            receiver := .broken
            stats := { s.link.stats with breaks := min (s.link.stats.breaks + 1) 65535 } } }) ∧
    (s.link.held = true ∨ s.link.receiver = .broken → exec .lineBreak s = .next s) ∧
    exec .lineHighAfterBreak s
      = .next (if s.link.receiver = .broken then { s with link := { s.link with receiver := .hunting } } else s)

/-- The transmitter: at the end of a frame a waiting reply is sent before any notice, then the notice at the
head of the queue with the overflow flag, which is then clear; otherwise it stays IDLE. When a reply begins to
be sent, the next queued request is carried out and its reply waits (chapter 11, sections 11.3, 11.4 and 11.6;
log entry 16 for RESET IN; log entry 4 for TRANSMIT_END at an idle transmitter). The payload of each notice kind
is spelled out with its kind bit, and with them the codes of the enumerations and the forms of the integer
fields (`NoticeLayouts`, `CodeTables`, `FieldForms`; R71, R86, R113, R135, R152, R164, R173, R181, R187, R188,
R194; log entries 20, 22 and 38). An event that is no request and queues several notices is chosen for once,
after the whole event (log entry 41). What queuing a notice does is spelled out as well: an enabled kind joins
the end of the queue, or is dropped at a full one with the overflow flag and the count, and while the steps of one
instant are carried out a MOVE RETIRED notice takes its place by slot among those of the instant (`NoticeQueue`,
R71, R187, R188; log entry 42). -/
def Obligations.Transmitter : Prop :=
  CodeTables ∧ FieldForms ∧ NoticeLayouts ∧ (∀ k : Link, NoticeQueue k) ∧
  (∀ s : State, s.link.tx = none → exec .transmitEnd s = .next s) ∧
  (∀ (s : State) (r : Frame), s.link.held = false → s.link.tx ≠ none → s.link.reply = some r →
    s.link.rxQueue = [] →
    exec .transmitEnd s = .next { s with link := { s.link with tx := some r.wire, reply := none } }) ∧
  (∀ (s : State) (r f : Frame) (rest : List Frame), s.link.held = false → s.link.tx ≠ none →
    s.link.reply = some r → s.link.rxQueue = f :: rest →
    let t : State := { s with link := { s.link with tx := some r.wire, reply := none, rxQueue := rest } }
    exec .transmitEnd s
      = .next (updLink (fun k => { k with reply := some ⟨f.type + 0x80, f.tag, (serve f t).2⟩ })
          (serve f t).1)) ∧
  (∀ (s : State) (n : Notice) (rest : List Notice), s.link.held = false → s.link.tx ≠ none →
    s.link.reply = none → s.link.rxQueue = [] → s.link.notices = n :: rest →
    exec .transmitEnd s = .next { s with link := { s.link with
      tx := some (Frame.wire ⟨BitVec.ofNat 8 (0xE0 + n.bit), 0, flag s.link.overflow ++ n.fields⟩)
      notices := rest, overflow := false } }) ∧
  (∀ s : State, s.link.held = false → s.link.tx ≠ none → s.link.reply = none → s.link.rxQueue = [] →
    s.link.notices = [] → exec .transmitEnd s = .next { s with link := { s.link with tx := none } }) ∧
  (∀ s : State, s.link.tx = none → s.link.reply = none → s.link.notices = [] →
    exec .resetInReleased s = .next { s with link := { s.link with held := false } }) ∧
  ∀ (s : State) (n : Notice) (rest : List Notice), s.link.tx = none → s.link.reply = none →
    s.link.notices = n :: rest →
    exec .resetInReleased s = .next { s with link := { s.link with
      held := false
      tx := some (Frame.wire ⟨BitVec.ofNat 8 (0xE0 + n.bit), 0, flag s.link.overflow ++ n.fields⟩)
      notices := rest, overflow := false } }

/-! ## The laws of the device -/

/-- The laws of the device hold right after power-on, and show time is 0 (R78). -/
def Obligations.LawsAtReset : Prop :=
  LevelLaw State.reset ∧ ClaimLaw State.reset ∧ UnitLaw State.reset
    ∧ StoreLaw State.reset.play ∧ StopLaw State.reset ∧ LinkLaw State.reset.link
    ∧ State.reset.clock.showTime = 0

/-- R1's ranges: every step keeps every level, trim, attenuation, lane, table, action value and recorded level
within its range. -/
def Obligations.LevelsStayInRange : Prop :=
  ∀ s t : State, LevelLaw s → step s = .next t → LevelLaw t

/-- Every step keeps the law of claims: every claim names a started LEVEL or GROUP move, and every move's
claim count is the number of records whose claim names its slot. -/
def Obligations.ClaimsStayCounted : Prop :=
  ∀ s t : State, ClaimLaw s → step s = .next t → ClaimLaw t

/-- Every step keeps the laws of units: linked channels share their shared fields, and a channel that is
TOUCHED or LATCHED holds no claim. -/
def Obligations.UnitsStayWhole : Prop :=
  ∀ s t : State, UnitLaw s → step s = .next t → UnitLaw t

/-- Every step keeps the law of the cue store and the standby pointer. -/
def Obligations.StoreStaysOrdered : Prop :=
  ∀ s t : State, StoreLaw s.play → step s = .next t → StoreLaw t.play

/-- Every step keeps the law of the show stop: while it is ACTIVE only rejoin glides move, the clock does not
run, no follow is pending, and every channel without ANNOUNCE has its composed mute on. And from every state,
whatever its stop, every step keeps show time within its four bytes, and show time does not fall but by CLOCK
LOCATE or a reset: POWER_ON, or a command that can have a RESET or CLOCK LOCATE frame dispatched
(`ShowTimeKept`, `typesInReach`; R78). -/
def Obligations.StopStaysInForce : Prop :=
  (∀ s t : State, StopLaw s → step s = .next t → StopLaw t) ∧
  ∀ s t : State, step s = .next t → ShowTimeKept s t

/-- Every step keeps the law of the control link: the bounds of its queues and counters, that no reply, no request
and no notice waits for an idle transmitter, and that no retirement waits for the end of an instant (log entry
42). -/
def Obligations.LinkStaysLawful : Prop :=
  ∀ s t : State, LinkLaw s.link → step s = .next t → LinkLaw t.link
end

