-- ==== Sys2Proof/Laws/Layouts.lean ====
section
/-! SUPPORT. What the shared functions behind the layouts and the bindings do, once for each: the byte sum, the
wire form of a frame, units and slot lists, the next cue in order, the candidates of strips, positions. -/

namespace Sys2Proof.Laws

open Sys2Proof Sys2Proof.Machine

/-! ## Frames (R182, R193) -/

theorem foldl_add_toNat (bs : List Byte) (n : Nat) :
    bs.foldl (fun n b => n + b.toNat) n = n + (bs.map fun b => b.toNat).sum := by
  induction bs generalizing n with
  | nil => simp
  | cons a l ih => simp [ih]; omega

/-- The byte sum is the sum of the bytes' values modulo 65536. -/
theorem byteSum_eq_sum (bs : List Byte) : byteSum bs = (bs.map fun b => b.toNat).sum % 65536 := by
  simp [byteSum, foldl_add_toNat]

/-- The checksum fits two bytes and brings the sum of what it covers to zero. -/
theorem checksum_brings_zero (bs : List Byte) : checksum bs < 65536 ∧ (byteSum bs + checksum bs) % 65536 = 0 := by
  have := byteSum_eq_sum bs
  simp only [checksum]
  omega

/-! ## Units and slots (R31, R70) -/

/-- The channels of a unit: the channel, and for a linked pair its partner. -/
theorem mem_unitChans (s : State) (c d : Chan) :
    d ∈ unitChans s c ↔ d = c ∨ (s.pairLinked[pairOf c] = true ∧ d.val / 2 = c.val / 2) := by
  have hc := c.isLt
  have hd := d.isLt
  cases h : s.pairLinked[pairOf c]
  · simp only [unitChans, isLinked, h]; simp
  · simp only [unitChans, isLinked, h, if_true, List.mem_cons, List.not_mem_nil, or_false, true_and, Fin.ext_iff,
      evenOf, oddOf]
    simp only [pairOf]
    omega

/-- The slots of a list where a condition holds: exactly the slots whose move satisfies it. -/
theorem mem_slotsWhere (p : Move → Bool) (s : State) (k : Slot) :
    k ∈ slotsWhere p s ↔ ∃ mv, s.moves[k] = some mv ∧ p mv = true := by
  unfold slotsWhere allFin
  rw [List.mem_filter]
  cases s.moves[k] <;> simp

/-! ## The next cue in order (R93) -/

/-- In a store in order, the next number is the least one above. -/
theorem nextNumber_eq_some (store : List Cue) (n k : Nat) (h : store.Pairwise fun a b => a.number < b.number) :
    nextNumber n store = some k ↔
      (∃ d ∈ store, d.number = k) ∧ n < k ∧ ∀ d ∈ store, n < d.number → k ≤ d.number := by
  induction store with
  | nil => simp [nextNumber, nextCue]
  | cons c l ih =>
    obtain ⟨hc, hl⟩ := List.pairwise_cons.1 h
    have ih := ih hl
    unfold nextNumber nextCue at *
    by_cases hn : n < c.number
    · simp only [List.find?_cons, hn, decide_true, Option.map_some]
      constructor
      · rintro ⟨⟩
        refine ⟨⟨c, by simp, rfl⟩, hn, fun d hd _ => ?_⟩
        rcases List.mem_cons.1 hd with rfl | hd
        · exact le_refl _
        · exact (hc d hd).le
      · rintro ⟨⟨d, hd, rfl⟩, -, h3⟩
        have := h3 c (by simp) hn
        rcases List.mem_cons.1 hd with rfl | hd
        · rfl
        · exact absurd (hc d hd) (by omega)
    · simp only [List.find?_cons, hn, decide_false]
      rw [ih]
      constructor
      · rintro ⟨⟨d, hd, e⟩, h2, h3⟩
        refine ⟨⟨d, List.mem_cons_of_mem _ hd, e⟩, h2, fun e he hlt => ?_⟩
        rcases List.mem_cons.1 he with rfl | he
        · exact absurd hlt hn
        · exact h3 e he hlt
      · rintro ⟨⟨d, hd, rfl⟩, h2, h3⟩
        refine ⟨?_, h2, fun e he h => h3 e (List.mem_cons_of_mem _ he) h⟩
        rcases List.mem_cons.1 hd with rfl | hd
        · exact absurd h2 hn
        · exact ⟨d, hd, rfl⟩

/-- No number is next exactly when none is above. -/
theorem nextNumber_eq_none (store : List Cue) (n : Nat) :
    nextNumber n store = none ↔ ∀ d ∈ store, d.number ≤ n := by
  simp [nextNumber, nextCue]

/-! ## Strips (R122, R126) -/

/-- A bound strip is bound to its own candidate, and no lower strip has that candidate. -/
theorem bindingOf_eq_some (u : Surface) (i : StripId) (c : Chan) :
    bindingOf u i = some c ↔
      i.val / 8 < u.expected ∧ candidateOf u i = c.val ∧ ∀ j : StripId, j < i → candidateOf u j ≠ candidateOf u i := by
  have key : (∃ x : StripId, x < i ∧ candidateOf u x = candidateOf u i) ↔
      ¬ ∀ j : StripId, j < i → candidateOf u j ≠ candidateOf u i := by push Not; rfl
  simp only [bindingOf, allFin, List.any_eq_true, List.mem_finRange, true_and, Bool.and_eq_true, decide_eq_true_eq,
    beq_iff_eq, key]
  split
  · constructor
    · intro h; cases h
    · omega
  · split
    · constructor
      · intro h; cases h
      · tauto
    · split
      · simp only [Option.some.injEq, Fin.ext_iff]
        have := c.isLt
        constructor
        · intro h; exact ⟨by omega, h, by tauto⟩
        · tauto
      · have := c.isLt
        constructor
        · intro h; cases h
        · omega

/-- The position as R122 computes it, before it is a natural number. -/
theorem rawToPosition_cast (e : CalEntry) (raw : Nat) :
    (rawToPosition e raw : Int) = clampInt 0 1024
      ((((raw : Int) - e.min) * 1024 + ((e.max : Int) - e.min) / 2) / ((e.max : Int) - e.min)) := by
  unfold rawToPosition clampInt
  simp only
  rw [Int.toNat_of_nonneg (le_max_left _ _)]

end Sys2Proof.Laws
end

