-- ==== Sys2Proof/Laws/State.lean ====
section
/-! SUPPORT. What each update of one record does to each field of the state, true by unfolding it. -/

namespace Sys2Proof.Machine

/-! ## The notices and the instant in hand -/

/-- What entering the notice queue leaves of the link does not depend on the retirements that wait. -/
@[simp] theorem Link.post_instant (n : Notice) (k : Link) (w : Option (List Notice)) :
    ({ k with instant := w } : Link).post n = { k.post n with instant := w } := by
  unfold Link.post
  dsimp only
  split
  · rfl
  · split <;> rfl

@[simp] theorem Link.postAll_instant (ns : List Notice) (k : Link) (w : Option (List Notice)) :
    ns.foldl (fun k n => k.post n) ({ k with instant := w } : Link)
      = { ns.foldl (fun k n => k.post n) k with instant := w } := by
  induction ns generalizing k with
  | nil => rfl
  | cons n ns ih => rw [List.foldl_cons, Link.post_instant, ih, List.foldl_cons]

@[simp] theorem Link.postAll_waiting (ns : List Notice) (k : Link) :
    (ns.foldl (fun k n => k.post n) k).instant = k.instant := by
  have h := Link.postAll_instant ns k k.instant
  exact (congrArg Link.instant h).trans rfl

/-- What queuing a notice can do: it enters the notice queue, or it is a retirement of the instant in hand and waits
in its place. -/
theorem Link.queue_cases (n : Notice) (k : Link) :
    k.queue n = k.post n ∨ ∃ slot ns, n.retiredSlot = some slot ∧ k.instant = some ns
      ∧ k.queue n = { k with instant := some (placeRetired slot n ns) } := by
  unfold Link.queue
  split
  · exact .inr ⟨_, _, ‹_›, ‹_›, rfl⟩
  · exact .inl rfl

/-- With no instant in hand every notice enters the queue at once. -/
theorem Link.queue_of_none {k : Link} (n : Notice) (h : k.instant = none) : k.queue n = k.post n := by
  unfold Link.queue
  rw [h]
  cases n.retiredSlot <;> rfl

/-- A notice of another kind than MOVE RETIRED enters the queue at once. -/
theorem Link.queue_of_other {n : Notice} (k : Link) (h : n.retiredSlot = none) : k.queue n = k.post n := by
  unfold Link.queue
  rw [h]

/-- A retirement takes its place: the notices of its instant stay those that waited and itself. -/
theorem placeRetired_perm (slot : Slot) (n : Notice) (ns : List Notice) :
    (placeRetired slot n ns).Perm (n :: ns) :=
  List.perm_middle.trans ((List.perm_append_comm.trans (List.filter_append_perm _ ns)).cons n)

variable (s : State)

@[simp] theorem updChan_chans (c : Chan) (f : Channel → Channel) : (updChan c f s).chans = s.chans.set c (f s.chans[c]) := rfl
@[simp] theorem updChan_groups (c : Chan) (f : Channel → Channel) : (updChan c f s).groups = s.groups := rfl
@[simp] theorem updChan_pairLinked (c : Chan) (f : Channel → Channel) : (updChan c f s).pairLinked = s.pairLinked := rfl
@[simp] theorem updChan_sets (c : Chan) (f : Channel → Channel) : (updChan c f s).sets = s.sets := rfl
@[simp] theorem updChan_taperA (c : Chan) (f : Channel → Channel) : (updChan c f s).taperA = s.taperA := rfl
@[simp] theorem updChan_taperB (c : Chan) (f : Channel → Channel) : (updChan c f s).taperB = s.taperB := rfl
@[simp] theorem updChan_moves (c : Chan) (f : Channel → Channel) : (updChan c f s).moves = s.moves := rfl
@[simp] theorem updChan_clock (c : Chan) (f : Channel → Channel) : (updChan c f s).clock = s.clock := rfl
@[simp] theorem updChan_play (c : Chan) (f : Channel → Channel) : (updChan c f s).play = s.play := rfl
@[simp] theorem updChan_surf (c : Chan) (f : Channel → Channel) : (updChan c f s).surf = s.surf := rfl
@[simp] theorem updChan_lanes (c : Chan) (f : Channel → Channel) : (updChan c f s).lanes = s.lanes := rfl
@[simp] theorem updChan_stop (c : Chan) (f : Channel → Channel) : (updChan c f s).stop = s.stop := rfl
@[simp] theorem updChan_link (c : Chan) (f : Channel → Channel) : (updChan c f s).link = s.link := rfl
@[simp] theorem updChan_pending (c : Chan) (f : Channel → Channel) : (updChan c f s).pending = s.pending := rfl
@[simp] theorem updChan_freeCount (c : Chan) (f : Channel → Channel) : (updChan c f s).freeCount = s.freeCount := rfl
@[simp] theorem updChan_moveSeq (c : Chan) (f : Channel → Channel) : (updChan c f s).moveSeq = s.moveSeq := rfl

@[simp] theorem mapChans_chans (f : Chan → Channel → Channel) : (mapChans f s).chans = Vector.ofFn fun c => f c s.chans[c] := by rw [mapChans]
@[simp] theorem mapChans_groups (f : Chan → Channel → Channel) : (mapChans f s).groups = s.groups := by rw [mapChans]
@[simp] theorem mapChans_pairLinked (f : Chan → Channel → Channel) : (mapChans f s).pairLinked = s.pairLinked := by rw [mapChans]
@[simp] theorem mapChans_sets (f : Chan → Channel → Channel) : (mapChans f s).sets = s.sets := by rw [mapChans]
@[simp] theorem mapChans_taperA (f : Chan → Channel → Channel) : (mapChans f s).taperA = s.taperA := by rw [mapChans]
@[simp] theorem mapChans_taperB (f : Chan → Channel → Channel) : (mapChans f s).taperB = s.taperB := by rw [mapChans]
@[simp] theorem mapChans_moves (f : Chan → Channel → Channel) : (mapChans f s).moves = s.moves := by rw [mapChans]
@[simp] theorem mapChans_clock (f : Chan → Channel → Channel) : (mapChans f s).clock = s.clock := by rw [mapChans]
@[simp] theorem mapChans_play (f : Chan → Channel → Channel) : (mapChans f s).play = s.play := by rw [mapChans]
@[simp] theorem mapChans_surf (f : Chan → Channel → Channel) : (mapChans f s).surf = s.surf := by rw [mapChans]
@[simp] theorem mapChans_lanes (f : Chan → Channel → Channel) : (mapChans f s).lanes = s.lanes := by rw [mapChans]
@[simp] theorem mapChans_stop (f : Chan → Channel → Channel) : (mapChans f s).stop = s.stop := by rw [mapChans]
@[simp] theorem mapChans_link (f : Chan → Channel → Channel) : (mapChans f s).link = s.link := by rw [mapChans]
@[simp] theorem mapChans_pending (f : Chan → Channel → Channel) : (mapChans f s).pending = s.pending := by rw [mapChans]
@[simp] theorem mapChans_freeCount (f : Chan → Channel → Channel) : (mapChans f s).freeCount = s.freeCount := by rw [mapChans]
@[simp] theorem mapChans_moveSeq (f : Chan → Channel → Channel) : (mapChans f s).moveSeq = s.moveSeq := by rw [mapChans]

@[simp] theorem updGroup_chans (g : Grp) (f : Group → Group) : (updGroup g f s).chans = s.chans := rfl
@[simp] theorem updGroup_groups (g : Grp) (f : Group → Group) : (updGroup g f s).groups = s.groups.set g (f s.groups[g]) := rfl
@[simp] theorem updGroup_pairLinked (g : Grp) (f : Group → Group) : (updGroup g f s).pairLinked = s.pairLinked := rfl
@[simp] theorem updGroup_sets (g : Grp) (f : Group → Group) : (updGroup g f s).sets = s.sets := rfl
@[simp] theorem updGroup_taperA (g : Grp) (f : Group → Group) : (updGroup g f s).taperA = s.taperA := rfl
@[simp] theorem updGroup_taperB (g : Grp) (f : Group → Group) : (updGroup g f s).taperB = s.taperB := rfl
@[simp] theorem updGroup_moves (g : Grp) (f : Group → Group) : (updGroup g f s).moves = s.moves := rfl
@[simp] theorem updGroup_clock (g : Grp) (f : Group → Group) : (updGroup g f s).clock = s.clock := rfl
@[simp] theorem updGroup_play (g : Grp) (f : Group → Group) : (updGroup g f s).play = s.play := rfl
@[simp] theorem updGroup_surf (g : Grp) (f : Group → Group) : (updGroup g f s).surf = s.surf := rfl
@[simp] theorem updGroup_lanes (g : Grp) (f : Group → Group) : (updGroup g f s).lanes = s.lanes := rfl
@[simp] theorem updGroup_stop (g : Grp) (f : Group → Group) : (updGroup g f s).stop = s.stop := rfl
@[simp] theorem updGroup_link (g : Grp) (f : Group → Group) : (updGroup g f s).link = s.link := rfl
@[simp] theorem updGroup_pending (g : Grp) (f : Group → Group) : (updGroup g f s).pending = s.pending := rfl
@[simp] theorem updGroup_freeCount (g : Grp) (f : Group → Group) : (updGroup g f s).freeCount = s.freeCount := rfl
@[simp] theorem updGroup_moveSeq (g : Grp) (f : Group → Group) : (updGroup g f s).moveSeq = s.moveSeq := rfl

@[simp] theorem mapGroups_chans (f : Grp → Group → Group) : (mapGroups f s).chans = s.chans := by rw [mapGroups]
@[simp] theorem mapGroups_groups (f : Grp → Group → Group) : (mapGroups f s).groups = Vector.ofFn fun g => f g s.groups[g] := by rw [mapGroups]
@[simp] theorem mapGroups_pairLinked (f : Grp → Group → Group) : (mapGroups f s).pairLinked = s.pairLinked := by rw [mapGroups]
@[simp] theorem mapGroups_sets (f : Grp → Group → Group) : (mapGroups f s).sets = s.sets := by rw [mapGroups]
@[simp] theorem mapGroups_taperA (f : Grp → Group → Group) : (mapGroups f s).taperA = s.taperA := by rw [mapGroups]
@[simp] theorem mapGroups_taperB (f : Grp → Group → Group) : (mapGroups f s).taperB = s.taperB := by rw [mapGroups]
@[simp] theorem mapGroups_moves (f : Grp → Group → Group) : (mapGroups f s).moves = s.moves := by rw [mapGroups]
@[simp] theorem mapGroups_clock (f : Grp → Group → Group) : (mapGroups f s).clock = s.clock := by rw [mapGroups]
@[simp] theorem mapGroups_play (f : Grp → Group → Group) : (mapGroups f s).play = s.play := by rw [mapGroups]
@[simp] theorem mapGroups_surf (f : Grp → Group → Group) : (mapGroups f s).surf = s.surf := by rw [mapGroups]
@[simp] theorem mapGroups_lanes (f : Grp → Group → Group) : (mapGroups f s).lanes = s.lanes := by rw [mapGroups]
@[simp] theorem mapGroups_stop (f : Grp → Group → Group) : (mapGroups f s).stop = s.stop := by rw [mapGroups]
@[simp] theorem mapGroups_link (f : Grp → Group → Group) : (mapGroups f s).link = s.link := by rw [mapGroups]
@[simp] theorem mapGroups_pending (f : Grp → Group → Group) : (mapGroups f s).pending = s.pending := by rw [mapGroups]
@[simp] theorem mapGroups_freeCount (f : Grp → Group → Group) : (mapGroups f s).freeCount = s.freeCount := by rw [mapGroups]
@[simp] theorem mapGroups_moveSeq (f : Grp → Group → Group) : (mapGroups f s).moveSeq = s.moveSeq := by rw [mapGroups]

@[simp] theorem setSlot_chans (k : Slot) (mv : Option Move) : (setSlot k mv s).chans = s.chans := rfl
@[simp] theorem setSlot_groups (k : Slot) (mv : Option Move) : (setSlot k mv s).groups = s.groups := rfl
@[simp] theorem setSlot_pairLinked (k : Slot) (mv : Option Move) : (setSlot k mv s).pairLinked = s.pairLinked := rfl
@[simp] theorem setSlot_sets (k : Slot) (mv : Option Move) : (setSlot k mv s).sets = s.sets := rfl
@[simp] theorem setSlot_taperA (k : Slot) (mv : Option Move) : (setSlot k mv s).taperA = s.taperA := rfl
@[simp] theorem setSlot_taperB (k : Slot) (mv : Option Move) : (setSlot k mv s).taperB = s.taperB := rfl
@[simp] theorem setSlot_moves (k : Slot) (mv : Option Move) : (setSlot k mv s).moves = s.moves.set k mv := rfl
@[simp] theorem setSlot_clock (k : Slot) (mv : Option Move) : (setSlot k mv s).clock = s.clock := rfl
@[simp] theorem setSlot_play (k : Slot) (mv : Option Move) : (setSlot k mv s).play = s.play := rfl
@[simp] theorem setSlot_surf (k : Slot) (mv : Option Move) : (setSlot k mv s).surf = s.surf := rfl
@[simp] theorem setSlot_lanes (k : Slot) (mv : Option Move) : (setSlot k mv s).lanes = s.lanes := rfl
@[simp] theorem setSlot_stop (k : Slot) (mv : Option Move) : (setSlot k mv s).stop = s.stop := rfl
@[simp] theorem setSlot_link (k : Slot) (mv : Option Move) : (setSlot k mv s).link = s.link := rfl
@[simp] theorem setSlot_pending (k : Slot) (mv : Option Move) : (setSlot k mv s).pending = s.pending := rfl
@[simp] theorem setSlot_freeCount (k : Slot) (mv : Option Move) : (setSlot k mv s).freeCount = s.freeCount := rfl
@[simp] theorem setSlot_moveSeq (k : Slot) (mv : Option Move) : (setSlot k mv s).moveSeq = s.moveSeq := rfl

@[simp] theorem setLink_chans (k : PairId) (on : Bool) : (setLink k on s).chans = s.chans := rfl
@[simp] theorem setLink_groups (k : PairId) (on : Bool) : (setLink k on s).groups = s.groups := rfl
@[simp] theorem setLink_pairLinked (k : PairId) (on : Bool) : (setLink k on s).pairLinked = s.pairLinked.set k on := rfl
@[simp] theorem setLink_sets (k : PairId) (on : Bool) : (setLink k on s).sets = s.sets := rfl
@[simp] theorem setLink_taperA (k : PairId) (on : Bool) : (setLink k on s).taperA = s.taperA := rfl
@[simp] theorem setLink_taperB (k : PairId) (on : Bool) : (setLink k on s).taperB = s.taperB := rfl
@[simp] theorem setLink_moves (k : PairId) (on : Bool) : (setLink k on s).moves = s.moves := rfl
@[simp] theorem setLink_clock (k : PairId) (on : Bool) : (setLink k on s).clock = s.clock := rfl
@[simp] theorem setLink_play (k : PairId) (on : Bool) : (setLink k on s).play = s.play := rfl
@[simp] theorem setLink_surf (k : PairId) (on : Bool) : (setLink k on s).surf = s.surf := rfl
@[simp] theorem setLink_lanes (k : PairId) (on : Bool) : (setLink k on s).lanes = s.lanes := rfl
@[simp] theorem setLink_stop (k : PairId) (on : Bool) : (setLink k on s).stop = s.stop := rfl
@[simp] theorem setLink_link (k : PairId) (on : Bool) : (setLink k on s).link = s.link := rfl
@[simp] theorem setLink_pending (k : PairId) (on : Bool) : (setLink k on s).pending = s.pending := rfl
@[simp] theorem setLink_freeCount (k : PairId) (on : Bool) : (setLink k on s).freeCount = s.freeCount := rfl
@[simp] theorem setLink_moveSeq (k : PairId) (on : Bool) : (setLink k on s).moveSeq = s.moveSeq := rfl

@[simp] theorem updPlay_chans (f : Playback → Playback) : (updPlay f s).chans = s.chans := rfl
@[simp] theorem updPlay_groups (f : Playback → Playback) : (updPlay f s).groups = s.groups := rfl
@[simp] theorem updPlay_pairLinked (f : Playback → Playback) : (updPlay f s).pairLinked = s.pairLinked := rfl
@[simp] theorem updPlay_sets (f : Playback → Playback) : (updPlay f s).sets = s.sets := rfl
@[simp] theorem updPlay_taperA (f : Playback → Playback) : (updPlay f s).taperA = s.taperA := rfl
@[simp] theorem updPlay_taperB (f : Playback → Playback) : (updPlay f s).taperB = s.taperB := rfl
@[simp] theorem updPlay_moves (f : Playback → Playback) : (updPlay f s).moves = s.moves := rfl
@[simp] theorem updPlay_clock (f : Playback → Playback) : (updPlay f s).clock = s.clock := rfl
@[simp] theorem updPlay_play (f : Playback → Playback) : (updPlay f s).play = f s.play := rfl
@[simp] theorem updPlay_surf (f : Playback → Playback) : (updPlay f s).surf = s.surf := rfl
@[simp] theorem updPlay_lanes (f : Playback → Playback) : (updPlay f s).lanes = s.lanes := rfl
@[simp] theorem updPlay_stop (f : Playback → Playback) : (updPlay f s).stop = s.stop := rfl
@[simp] theorem updPlay_link (f : Playback → Playback) : (updPlay f s).link = s.link := rfl
@[simp] theorem updPlay_pending (f : Playback → Playback) : (updPlay f s).pending = s.pending := rfl
@[simp] theorem updPlay_freeCount (f : Playback → Playback) : (updPlay f s).freeCount = s.freeCount := rfl
@[simp] theorem updPlay_moveSeq (f : Playback → Playback) : (updPlay f s).moveSeq = s.moveSeq := rfl

@[simp] theorem updClock_chans (f : Clock → Clock) : (updClock f s).chans = s.chans := rfl
@[simp] theorem updClock_groups (f : Clock → Clock) : (updClock f s).groups = s.groups := rfl
@[simp] theorem updClock_pairLinked (f : Clock → Clock) : (updClock f s).pairLinked = s.pairLinked := rfl
@[simp] theorem updClock_sets (f : Clock → Clock) : (updClock f s).sets = s.sets := rfl
@[simp] theorem updClock_taperA (f : Clock → Clock) : (updClock f s).taperA = s.taperA := rfl
@[simp] theorem updClock_taperB (f : Clock → Clock) : (updClock f s).taperB = s.taperB := rfl
@[simp] theorem updClock_moves (f : Clock → Clock) : (updClock f s).moves = s.moves := rfl
@[simp] theorem updClock_clock (f : Clock → Clock) : (updClock f s).clock = f s.clock := rfl
@[simp] theorem updClock_play (f : Clock → Clock) : (updClock f s).play = s.play := rfl
@[simp] theorem updClock_surf (f : Clock → Clock) : (updClock f s).surf = s.surf := rfl
@[simp] theorem updClock_lanes (f : Clock → Clock) : (updClock f s).lanes = s.lanes := rfl
@[simp] theorem updClock_stop (f : Clock → Clock) : (updClock f s).stop = s.stop := rfl
@[simp] theorem updClock_link (f : Clock → Clock) : (updClock f s).link = s.link := rfl
@[simp] theorem updClock_pending (f : Clock → Clock) : (updClock f s).pending = s.pending := rfl
@[simp] theorem updClock_freeCount (f : Clock → Clock) : (updClock f s).freeCount = s.freeCount := rfl
@[simp] theorem updClock_moveSeq (f : Clock → Clock) : (updClock f s).moveSeq = s.moveSeq := rfl

@[simp] theorem updSurf_chans (f : Surface → Surface) : (updSurf f s).chans = s.chans := rfl
@[simp] theorem updSurf_groups (f : Surface → Surface) : (updSurf f s).groups = s.groups := rfl
@[simp] theorem updSurf_pairLinked (f : Surface → Surface) : (updSurf f s).pairLinked = s.pairLinked := rfl
@[simp] theorem updSurf_sets (f : Surface → Surface) : (updSurf f s).sets = s.sets := rfl
@[simp] theorem updSurf_taperA (f : Surface → Surface) : (updSurf f s).taperA = s.taperA := rfl
@[simp] theorem updSurf_taperB (f : Surface → Surface) : (updSurf f s).taperB = s.taperB := rfl
@[simp] theorem updSurf_moves (f : Surface → Surface) : (updSurf f s).moves = s.moves := rfl
@[simp] theorem updSurf_clock (f : Surface → Surface) : (updSurf f s).clock = s.clock := rfl
@[simp] theorem updSurf_play (f : Surface → Surface) : (updSurf f s).play = s.play := rfl
@[simp] theorem updSurf_surf (f : Surface → Surface) : (updSurf f s).surf = f s.surf := rfl
@[simp] theorem updSurf_lanes (f : Surface → Surface) : (updSurf f s).lanes = s.lanes := rfl
@[simp] theorem updSurf_stop (f : Surface → Surface) : (updSurf f s).stop = s.stop := rfl
@[simp] theorem updSurf_link (f : Surface → Surface) : (updSurf f s).link = s.link := rfl
@[simp] theorem updSurf_pending (f : Surface → Surface) : (updSurf f s).pending = s.pending := rfl
@[simp] theorem updSurf_freeCount (f : Surface → Surface) : (updSurf f s).freeCount = s.freeCount := rfl
@[simp] theorem updSurf_moveSeq (f : Surface → Surface) : (updSurf f s).moveSeq = s.moveSeq := rfl

@[simp] theorem updLanes_chans (f : Lanes → Lanes) : (updLanes f s).chans = s.chans := rfl
@[simp] theorem updLanes_groups (f : Lanes → Lanes) : (updLanes f s).groups = s.groups := rfl
@[simp] theorem updLanes_pairLinked (f : Lanes → Lanes) : (updLanes f s).pairLinked = s.pairLinked := rfl
@[simp] theorem updLanes_sets (f : Lanes → Lanes) : (updLanes f s).sets = s.sets := rfl
@[simp] theorem updLanes_taperA (f : Lanes → Lanes) : (updLanes f s).taperA = s.taperA := rfl
@[simp] theorem updLanes_taperB (f : Lanes → Lanes) : (updLanes f s).taperB = s.taperB := rfl
@[simp] theorem updLanes_moves (f : Lanes → Lanes) : (updLanes f s).moves = s.moves := rfl
@[simp] theorem updLanes_clock (f : Lanes → Lanes) : (updLanes f s).clock = s.clock := rfl
@[simp] theorem updLanes_play (f : Lanes → Lanes) : (updLanes f s).play = s.play := rfl
@[simp] theorem updLanes_surf (f : Lanes → Lanes) : (updLanes f s).surf = s.surf := rfl
@[simp] theorem updLanes_lanes (f : Lanes → Lanes) : (updLanes f s).lanes = f s.lanes := rfl
@[simp] theorem updLanes_stop (f : Lanes → Lanes) : (updLanes f s).stop = s.stop := rfl
@[simp] theorem updLanes_link (f : Lanes → Lanes) : (updLanes f s).link = s.link := rfl
@[simp] theorem updLanes_pending (f : Lanes → Lanes) : (updLanes f s).pending = s.pending := rfl
@[simp] theorem updLanes_freeCount (f : Lanes → Lanes) : (updLanes f s).freeCount = s.freeCount := rfl
@[simp] theorem updLanes_moveSeq (f : Lanes → Lanes) : (updLanes f s).moveSeq = s.moveSeq := rfl

@[simp] theorem updStop_chans (f : StopUnit → StopUnit) : (updStop f s).chans = s.chans := rfl
@[simp] theorem updStop_groups (f : StopUnit → StopUnit) : (updStop f s).groups = s.groups := rfl
@[simp] theorem updStop_pairLinked (f : StopUnit → StopUnit) : (updStop f s).pairLinked = s.pairLinked := rfl
@[simp] theorem updStop_sets (f : StopUnit → StopUnit) : (updStop f s).sets = s.sets := rfl
@[simp] theorem updStop_taperA (f : StopUnit → StopUnit) : (updStop f s).taperA = s.taperA := rfl
@[simp] theorem updStop_taperB (f : StopUnit → StopUnit) : (updStop f s).taperB = s.taperB := rfl
@[simp] theorem updStop_moves (f : StopUnit → StopUnit) : (updStop f s).moves = s.moves := rfl
@[simp] theorem updStop_clock (f : StopUnit → StopUnit) : (updStop f s).clock = s.clock := rfl
@[simp] theorem updStop_play (f : StopUnit → StopUnit) : (updStop f s).play = s.play := rfl
@[simp] theorem updStop_surf (f : StopUnit → StopUnit) : (updStop f s).surf = s.surf := rfl
@[simp] theorem updStop_lanes (f : StopUnit → StopUnit) : (updStop f s).lanes = s.lanes := rfl
@[simp] theorem updStop_stop (f : StopUnit → StopUnit) : (updStop f s).stop = f s.stop := rfl
@[simp] theorem updStop_link (f : StopUnit → StopUnit) : (updStop f s).link = s.link := rfl
@[simp] theorem updStop_pending (f : StopUnit → StopUnit) : (updStop f s).pending = s.pending := rfl
@[simp] theorem updStop_freeCount (f : StopUnit → StopUnit) : (updStop f s).freeCount = s.freeCount := rfl
@[simp] theorem updStop_moveSeq (f : StopUnit → StopUnit) : (updStop f s).moveSeq = s.moveSeq := rfl

@[simp] theorem updLink_chans (f : Link → Link) : (updLink f s).chans = s.chans := rfl
@[simp] theorem updLink_groups (f : Link → Link) : (updLink f s).groups = s.groups := rfl
@[simp] theorem updLink_pairLinked (f : Link → Link) : (updLink f s).pairLinked = s.pairLinked := rfl
@[simp] theorem updLink_sets (f : Link → Link) : (updLink f s).sets = s.sets := rfl
@[simp] theorem updLink_taperA (f : Link → Link) : (updLink f s).taperA = s.taperA := rfl
@[simp] theorem updLink_taperB (f : Link → Link) : (updLink f s).taperB = s.taperB := rfl
@[simp] theorem updLink_moves (f : Link → Link) : (updLink f s).moves = s.moves := rfl
@[simp] theorem updLink_clock (f : Link → Link) : (updLink f s).clock = s.clock := rfl
@[simp] theorem updLink_play (f : Link → Link) : (updLink f s).play = s.play := rfl
@[simp] theorem updLink_surf (f : Link → Link) : (updLink f s).surf = s.surf := rfl
@[simp] theorem updLink_lanes (f : Link → Link) : (updLink f s).lanes = s.lanes := rfl
@[simp] theorem updLink_stop (f : Link → Link) : (updLink f s).stop = s.stop := rfl
@[simp] theorem updLink_link (f : Link → Link) : (updLink f s).link = f s.link := rfl
@[simp] theorem updLink_pending (f : Link → Link) : (updLink f s).pending = s.pending := rfl
@[simp] theorem updLink_freeCount (f : Link → Link) : (updLink f s).freeCount = s.freeCount := rfl
@[simp] theorem updLink_moveSeq (f : Link → Link) : (updLink f s).moveSeq = s.moveSeq := rfl

@[simp] theorem queueNotice_chans (n : Notice) : (queueNotice n s).chans = s.chans := rfl
@[simp] theorem queueNotice_groups (n : Notice) : (queueNotice n s).groups = s.groups := rfl
@[simp] theorem queueNotice_pairLinked (n : Notice) : (queueNotice n s).pairLinked = s.pairLinked := rfl
@[simp] theorem queueNotice_sets (n : Notice) : (queueNotice n s).sets = s.sets := rfl
@[simp] theorem queueNotice_taperA (n : Notice) : (queueNotice n s).taperA = s.taperA := rfl
@[simp] theorem queueNotice_taperB (n : Notice) : (queueNotice n s).taperB = s.taperB := rfl
@[simp] theorem queueNotice_moves (n : Notice) : (queueNotice n s).moves = s.moves := rfl
@[simp] theorem queueNotice_clock (n : Notice) : (queueNotice n s).clock = s.clock := rfl
@[simp] theorem queueNotice_play (n : Notice) : (queueNotice n s).play = s.play := rfl
@[simp] theorem queueNotice_surf (n : Notice) : (queueNotice n s).surf = s.surf := rfl
@[simp] theorem queueNotice_lanes (n : Notice) : (queueNotice n s).lanes = s.lanes := rfl
@[simp] theorem queueNotice_stop (n : Notice) : (queueNotice n s).stop = s.stop := rfl
@[simp] theorem queueNotice_link (n : Notice) : (queueNotice n s).link = s.link.queue n := rfl
@[simp] theorem queueNotice_pending (n : Notice) : (queueNotice n s).pending = s.pending := rfl
@[simp] theorem queueNotice_freeCount (n : Notice) : (queueNotice n s).freeCount = s.freeCount := rfl
@[simp] theorem queueNotice_moveSeq (n : Notice) : (queueNotice n s).moveSeq = s.moveSeq := rfl

@[simp] theorem tickFree_chans : (tickFree s).chans = s.chans := rfl
@[simp] theorem tickFree_groups : (tickFree s).groups = s.groups := rfl
@[simp] theorem tickFree_pairLinked : (tickFree s).pairLinked = s.pairLinked := rfl
@[simp] theorem tickFree_sets : (tickFree s).sets = s.sets := rfl
@[simp] theorem tickFree_taperA : (tickFree s).taperA = s.taperA := rfl
@[simp] theorem tickFree_taperB : (tickFree s).taperB = s.taperB := rfl
@[simp] theorem tickFree_moves : (tickFree s).moves = s.moves := rfl
@[simp] theorem tickFree_clock : (tickFree s).clock = s.clock := rfl
@[simp] theorem tickFree_play : (tickFree s).play = s.play := rfl
@[simp] theorem tickFree_surf : (tickFree s).surf = s.surf := rfl
@[simp] theorem tickFree_lanes : (tickFree s).lanes = s.lanes := rfl
@[simp] theorem tickFree_stop : (tickFree s).stop = s.stop := rfl
@[simp] theorem tickFree_link : (tickFree s).link = s.link := rfl
@[simp] theorem tickFree_pending : (tickFree s).pending = s.pending := rfl
@[simp] theorem tickFree_freeCount : (tickFree s).freeCount = s.freeCount + 1 := rfl
@[simp] theorem tickFree_moveSeq : (tickFree s).moveSeq = s.moveSeq := rfl

variable {α : Type} (steps : State → State × α)

@[simp] theorem inOneInstant_chans : (inOneInstant steps s).1.chans
    = (steps { s with link := s.link.openInstant }).1.chans := rfl
@[simp] theorem inOneInstant_groups : (inOneInstant steps s).1.groups
    = (steps { s with link := s.link.openInstant }).1.groups := rfl
@[simp] theorem inOneInstant_pairLinked : (inOneInstant steps s).1.pairLinked
    = (steps { s with link := s.link.openInstant }).1.pairLinked := rfl
@[simp] theorem inOneInstant_sets : (inOneInstant steps s).1.sets
    = (steps { s with link := s.link.openInstant }).1.sets := rfl
@[simp] theorem inOneInstant_taperA : (inOneInstant steps s).1.taperA
    = (steps { s with link := s.link.openInstant }).1.taperA := rfl
@[simp] theorem inOneInstant_taperB : (inOneInstant steps s).1.taperB
    = (steps { s with link := s.link.openInstant }).1.taperB := rfl
@[simp] theorem inOneInstant_moves : (inOneInstant steps s).1.moves
    = (steps { s with link := s.link.openInstant }).1.moves := rfl
@[simp] theorem inOneInstant_clock : (inOneInstant steps s).1.clock
    = (steps { s with link := s.link.openInstant }).1.clock := rfl
@[simp] theorem inOneInstant_play : (inOneInstant steps s).1.play
    = (steps { s with link := s.link.openInstant }).1.play := rfl
@[simp] theorem inOneInstant_surf : (inOneInstant steps s).1.surf
    = (steps { s with link := s.link.openInstant }).1.surf := rfl
@[simp] theorem inOneInstant_lanes : (inOneInstant steps s).1.lanes
    = (steps { s with link := s.link.openInstant }).1.lanes := rfl
@[simp] theorem inOneInstant_stop : (inOneInstant steps s).1.stop
    = (steps { s with link := s.link.openInstant }).1.stop := rfl
@[simp] theorem inOneInstant_link : (inOneInstant steps s).1.link
    = (steps { s with link := s.link.openInstant }).1.link.closeInstant s.link.instant.isSome := rfl
@[simp] theorem inOneInstant_pending : (inOneInstant steps s).1.pending
    = (steps { s with link := s.link.openInstant }).1.pending := rfl
@[simp] theorem inOneInstant_freeCount : (inOneInstant steps s).1.freeCount
    = (steps { s with link := s.link.openInstant }).1.freeCount := rfl
@[simp] theorem inOneInstant_moveSeq : (inOneInstant steps s).1.moveSeq
    = (steps { s with link := s.link.openInstant }).1.moveSeq := rfl
@[simp] theorem inOneInstant_value : (inOneInstant steps s).2
    = (steps { s with link := s.link.openInstant }).2 := rfl

end Sys2Proof.Machine
end

