-- ==== Sys2Proof/Laws/Records.lean ====
section
/-! SUPPORT. Reading a record after an update of it or of another record. -/

namespace Sys2Proof.Machine

/-- A channel record read after one is changed. -/
@[simp] theorem getChan_updChan (c d : Chan) (f : Channel → Channel) (s : State) :
    (updChan c f s).chans[d] = if c = d then f s.chans[d] else s.chans[d] := by
  obtain ⟨c, hc⟩ := c
  obtain ⟨d, hd⟩ := d
  simp only [updChan_chans, Fin.getElem_fin, Vector.getElem_set, Fin.mk.injEq]
  split <;> simp_all

/-- A channel record read after all are changed. -/
@[simp] theorem getChan_mapChans (d : Chan) (f : Chan → Channel → Channel) (s : State) :
    (mapChans f s).chans[d] = f d s.chans[d] := by
  simp [mapChans_chans]

/-- A group record read after one is changed. -/
@[simp] theorem getGroup_updGroup (g h : Grp) (f : Group → Group) (s : State) :
    (updGroup g f s).groups[h] = if g = h then f s.groups[h] else s.groups[h] := by
  obtain ⟨g, hg⟩ := g
  obtain ⟨h, hh⟩ := h
  simp only [updGroup_groups, Fin.getElem_fin, Vector.getElem_set, Fin.mk.injEq]
  split <;> simp_all

/-- A group record read after all are changed. -/
@[simp] theorem getGroup_mapGroups (h : Grp) (f : Grp → Group → Group) (s : State) :
    (mapGroups f s).groups[h] = f h s.groups[h] := by
  simp [mapGroups_groups]

/-- A slot read after one is written. -/
@[simp] theorem getSlot_setSlot (k j : Slot) (mv : Option Move) (s : State) :
    (setSlot k mv s).moves[j] = if k = j then mv else s.moves[j] := by
  obtain ⟨k, hk⟩ := k
  obtain ⟨j, hj⟩ := j
  simp only [setSlot_moves, Fin.getElem_fin, Vector.getElem_set, Fin.mk.injEq]

/-- A pair link read after one is written. -/
@[simp] theorem getLink_setLink (k j : PairId) (on : Bool) (s : State) :
    (setLink k on s).pairLinked[j] = if k = j then on else s.pairLinked[j] := by
  obtain ⟨k, hk⟩ := k
  obtain ⟨j, hj⟩ := j
  simp only [setLink_pairLinked, Fin.getElem_fin, Vector.getElem_set, Fin.mk.injEq]

/-- A slot read after a move is changed. -/
theorem getSlot_updMove (k j : Slot) (f : Move → Move) (s : State) :
    (updMove k f s).moves[j] = if k = j then s.moves[j].map f else s.moves[j] := by
  unfold updMove
  split
  · rename_i mv h
    simp only [getSlot_setSlot]
    split
    · subst_vars; simp [h]
    · rfl
  · rename_i h
    split
    · subst_vars; simp [h]
    · rfl

end Sys2Proof.Machine
end

