-- ==== Sys2Proof/Laws/Work.lean ====
section
/-! SUPPORT. What the shared operations of the moves, the hand-backs and the actions can do, said once for
each: everything `KeepsShow` names is left alone, and the link is only queued to. -/

namespace Sys2Proof.Machine

/-! ## The relations are closed under composition -/

theorem QueuesOnly.refl (k : Link) : QueuesOnly k k := ⟨[], k.instant, rfl, rfl⟩

theorem QueuesOnly.trans {a b c : Link} (h : QueuesOnly a b) (h' : QueuesOnly b c) : QueuesOnly a c := by
  obtain ⟨xs, w, hw, rfl⟩ := h
  obtain ⟨ys, w', hw', rfl⟩ := h'
  exact ⟨xs ++ ys, w', hw'.trans hw, by rw [List.foldl_append, Link.postAll_instant]⟩

theorem QueuesOnly.post (ns : List Notice) (k : Link) : QueuesOnly k (ns.foldl (fun k n => k.post n) k) :=
  ⟨ns, k.instant, rfl, by rw [← Link.postAll_waiting ns k]⟩

theorem QueuesOnly.queue (n : Notice) (k : Link) : QueuesOnly k (k.queue n) := by
  rcases Link.queue_cases n k with h | ⟨slot, ns, -, hk, h⟩ <;> rw [h]
  · exact .post [n] k
  · exact ⟨[], some (placeRetired slot n ns), by rw [hk]; rfl, rfl⟩

/-- The retirements that wait are queued while an instant stays in hand. -/
theorem QueuesOnly.goOn (k : Link) : QueuesOnly k (k.closeInstant true) := by
  unfold Link.closeInstant
  split
  · rename_i ns hk
    exact ⟨ns, some [], by rw [hk]; rfl, rfl⟩
  · exact .refl k

/-- An instant opened and closed again leaves a link that was only queued to. -/
theorem QueuesOnly.instant {k k' : Link} (h : QueuesOnly k.openInstant k') :
    QueuesOnly k (k'.closeInstant k.instant.isSome) := by
  obtain ⟨ns, w, hw, rfl⟩ := h
  obtain ⟨ms, rfl⟩ := Option.isSome_iff_exists.mp hw
  exact ⟨ns ++ ms, if k.instant.isSome then some [] else none, by cases k.instant <;> rfl, by
    simp only [Link.closeInstant, Link.openInstant, List.foldl_append, Link.postAll_instant]⟩

theorem Keeps.refl (s : State) : Keeps s s :=
  ⟨fun _ => rfl, rfl, rfl, rfl, rfl, rfl, rfl, rfl, rfl, rfl, rfl, rfl, rfl, .refl _⟩

theorem Keeps.trans {a b c : State} (h : Keeps a b) (h' : Keeps b c) : Keeps a c where
  settings d := (h'.settings d).trans (h.settings d)
  pairLinked := h'.pairLinked.trans h.pairLinked
  sets := h'.sets.trans h.sets
  taperA := h'.taperA.trans h.taperA
  taperB := h'.taperB.trans h.taperB
  lanes := h'.lanes.trans h.lanes
  stop := h'.stop.trans h.stop
  wallTime := h'.wallTime.trans h.wallTime
  divisor := h'.divisor.trans h.divisor
  weight := h'.weight.trans h.weight
  rising := h'.rising.trans h.rising
  backTime := h'.backTime.trans h.backTime
  pending := h'.pending.trans h.pending
  link := h.link.trans h'.link

theorem KeepsShow.refl (s : State) : KeepsShow s s := ⟨.refl s, rfl, rfl, rfl⟩

theorem KeepsShow.trans {a b c : State} (h : KeepsShow a b) (h' : KeepsShow b c) : KeepsShow a c :=
  ⟨h.toKeeps.trans h'.toKeeps, h'.clock.trans h.clock, h'.surf.trans h.surf, h'.plan.trans h.plan⟩

theorem KeepsShow.foldl {α : Type} (f : State → α → State) (h : ∀ s a, KeepsShow s (f s a)) :
    ∀ (l : List α) (s : State), KeepsShow s (l.foldl f s)
  | [], s => .refl s
  | a :: l, s => (h s a).trans (KeepsShow.foldl f h l (f s a))

theorem KeepsShow.ite {p : Prop} [Decidable p] {s a b : State} (ha : KeepsShow s a) (hb : KeepsShow s b) :
    KeepsShow s (if p then a else b) := by split <;> assumption

/-! ## The steps of one instant -/

theorem Keeps.inOneInstant {α : Type} {steps : State → State × α} {s : State}
    (h : ∀ s, Keeps s (steps s).1) : Keeps s (inOneInstant steps s).1 :=
  let k := h { s with link := s.link.openInstant }
  ⟨k.settings, k.pairLinked, k.sets, k.taperA, k.taperB, k.lanes, k.stop, k.wallTime, k.divisor, k.weight,
    k.rising, k.backTime, k.pending, k.link.instant⟩

theorem KeepsShow.inOneInstant {α : Type} {steps : State → State × α} {s : State}
    (h : ∀ s, KeepsShow s (steps s).1) : KeepsShow s (inOneInstant steps s).1 :=
  let k := h { s with link := s.link.openInstant }
  ⟨.inOneInstant fun s => (h s).toKeeps, k.clock, k.surf, k.plan⟩

/-! ## Updates of one record -/

theorem updChan_show (c : Chan) (f : Channel → Channel) (h : ∀ ch, (f ch).settings = ch.settings)
    (s : State) : KeepsShow s (updChan c f s) :=
  ⟨⟨fun d => by rw [getChan_updChan]; split <;> simp [h],
    rfl, rfl, rfl, rfl, rfl, rfl, rfl, rfl, rfl, rfl, rfl, rfl, .refl _⟩, rfl, rfl, rfl⟩

theorem updChans_show (cs : List Chan) (f : Channel → Channel) (h : ∀ ch, (f ch).settings = ch.settings)
    (s : State) : KeepsShow s (updChans cs f s) :=
  KeepsShow.foldl _ (fun s c => updChan_show c f h s) cs s

theorem mapChans_show (f : Chan → Channel → Channel) (h : ∀ c ch, (f c ch).settings = ch.settings)
    (s : State) : KeepsShow s (mapChans f s) :=
  ⟨⟨fun d => by rw [getChan_mapChans]; exact h _ _,
    by simp, by simp, by simp, by simp, by simp, by simp, by simp, by simp, by simp, by simp, by simp,
    by simp, by rw [mapChans_link]; exact .refl _⟩, by simp, by simp, by simp⟩

theorem updGroup_show (g : Grp) (f : Group → Group) (s : State) : KeepsShow s (updGroup g f s) :=
  ⟨⟨fun _ => rfl, rfl, rfl, rfl, rfl, rfl, rfl, rfl, rfl, rfl, rfl, rfl, rfl, .refl _⟩, rfl, rfl, rfl⟩

theorem mapGroups_show (f : Grp → Group → Group) (s : State) : KeepsShow s (mapGroups f s) :=
  ⟨⟨fun _ => by simp, by simp, by simp, by simp, by simp, by simp, by simp, by simp, by simp, by simp,
    by simp, by simp, by simp, by rw [mapGroups_link]; exact .refl _⟩, by simp, by simp, by simp⟩

theorem setSlot_show (k : Slot) (mv : Option Move) (s : State) : KeepsShow s (setSlot k mv s) :=
  ⟨⟨fun _ => rfl, rfl, rfl, rfl, rfl, rfl, rfl, rfl, rfl, rfl, rfl, rfl, rfl, .refl _⟩, rfl, rfl, rfl⟩

theorem updMove_show (k : Slot) (f : Move → Move) (s : State) : KeepsShow s (updMove k f s) := by
  unfold updMove
  split
  · exact setSlot_show _ _ _
  · exact .refl _

theorem updPlay_show (f : Playback → Playback) (hp : ∀ p, (f p).plan = p.plan)
    (hb : ∀ p, (f p).backTime = p.backTime) (s : State) : KeepsShow s (updPlay f s) :=
  ⟨⟨fun _ => rfl, rfl, rfl, rfl, rfl, rfl, rfl, rfl, rfl, rfl, rfl, hb _, rfl, .refl _⟩, rfl, rfl, hp _⟩

theorem queueNotice_show (n : Notice) (s : State) : KeepsShow s (queueNotice n s) :=
  ⟨⟨fun _ => rfl, rfl, rfl, rfl, rfl, rfl, rfl, rfl, rfl, rfl, rfl, rfl, rfl, .queue _ _⟩, rfl, rfl, rfl⟩

theorem tickFree_show (s : State) : KeepsShow s (tickFree s) :=
  ⟨⟨fun _ => rfl, rfl, rfl, rfl, rfl, rfl, rfl, rfl, rfl, rfl, rfl, rfl, rfl, .refl _⟩, rfl, rfl, rfl⟩

/-! ## Mutes (R10, R31) -/

/-- The mute ramp's response to a change moves m alone. -/
theorem resnap_show (before after : State) : KeepsShow after (resnap before after) :=
  mapChans_show _ (by intro c ch; split <;> rfl) _

theorem setOwnMute_show (c : Chan) (on : Bool) (s : State) : KeepsShow s (setOwnMute c on s) :=
  (updChans_show _ _ (by intro _; rfl) s).trans (resnap_show _ _)

theorem setGroupMute_show (g : Grp) (on : Bool) (s : State) : KeepsShow s (setGroupMute g on s) :=
  (updGroup_show _ _ s).trans (resnap_show _ _)

/-! ## Retirement and claims (R48, R69, R71, R72) -/

theorem expireEndWatch_show (r : Nat) (s : State) : KeepsShow s (expireEndWatch r s) := by
  unfold expireEndWatch
  split
  · split
    · exact updPlay_show _ (by intro _; rfl) (by intro _; rfl) _
    · exact .refl _
  · exact .refl _

theorem reportRetirement_show (firing r : Nat) (s : State) : KeepsShow s (reportRetirement firing r s) := by
  unfold reportRetirement
  split
  · split
    · exact (updPlay_show _ (by intro _; rfl) (by intro _; rfl) _).trans (expireEndWatch_show _ _)
    · exact .refl _
  · exact .refl _

theorem retire_show (k : Slot) (reason : Reason) (r : Nat) (s : State) :
    KeepsShow s (retire k reason r s) := by
  unfold retire
  split
  · exact .refl _
  · have h1 : ∀ n, KeepsShow s (setSlot k none (queueNotice n s)) := fun n =>
      (queueNotice_show n s).trans (setSlot_show _ _ _)
    dsimp only
    split
    · split
      · exact (h1 _).trans (reportRetirement_show _ _ _)
      · exact h1 _
    · exact h1 _

theorem dropClaim_show (k : Slot) (s : State) : KeepsShow s (dropClaim k s) := updMove_show _ _ _

theorem unclaimChan_show (c : Chan) (s : State) : KeepsShow s (unclaimChan c s) := by
  unfold unclaimChan
  split
  · exact .refl _
  · exact (updChan_show _ _ (by intro _; rfl) _).trans (dropClaim_show _ _)

theorem unclaimGroup_show (g : Grp) (s : State) : KeepsShow s (unclaimGroup g s) := by
  unfold unclaimGroup
  split
  · exact .refl _
  · exact (updGroup_show _ _ _).trans (dropClaim_show _ _)

theorem retireEmptied_show (ks : List Slot) (s : State) : KeepsShow s (retireEmptied ks s) :=
  KeepsShow.foldl _ (fun s k => .ite (retire_show k _ _ s) (.refl s)) _ s

theorem removeClaims_show (cs : List Chan) (s : State) : KeepsShow s (removeClaims cs s) :=
  (KeepsShow.foldl _ (fun s c => unclaimChan_show c s) cs s).trans (retireEmptied_show _ _)

theorem removeGroupClaim_show (g : Grp) (s : State) : KeepsShow s (removeGroupClaim g s) :=
  (unclaimGroup_show g s).trans (retireEmptied_show _ _)

theorem freezeClaims_show (k : Slot) (s : State) : KeepsShow s (freezeClaims k s) :=
  (mapChans_show _ (by intro c ch; split <;> rfl) s).trans (mapGroups_show _ _)

theorem completeClaims_show (k : Slot) (s : State) : KeepsShow s (completeClaims k s) :=
  (mapChans_show _ (by
    intro c ch
    split
    · split <;> rfl
    · rfl) s).trans (mapGroups_show _ _)

theorem cancelMove_show (k : Slot) (reason : Reason) (s : State) : KeepsShow s (cancelMove k reason s) :=
  (freezeClaims_show k s).trans (retire_show _ _ _ _)

theorem cancelWhere_show (p : Move → Bool) (reason : Reason) (s : State) :
    KeepsShow s (cancelWhere p reason s) :=
  KeepsShow.foldl _ (fun s k => cancelMove_show k reason s) _ s

/-! ## The life of a move (spec 03) -/

theorem takeClaim_show (k : Slot) (c : Chan) (start target : Int) (s : State) :
    KeepsShow s (takeClaim k c start target s) :=
  (updChan_show _ _ (by intro _; rfl) _).trans (updMove_show _ _ _)

theorem startLane_show (k : Slot) (mv : Move) (c : Chan) (recorded : Option Int) (s : State) :
    KeepsShow s (startLane k mv c recorded s) := by
  unfold startLane
  split
  · exact .refl _
  · dsimp only
    split
    · exact updChan_show _ _ (by intro _; rfl) _
    · exact (unclaimChan_show _ _).trans (takeClaim_show _ _ _ _ _)

theorem startGroup_show (k : Slot) (mv : Move) (g : Grp) (recorded : Option Int) (s : State) :
    KeepsShow s (startGroup k mv g recorded s) :=
  ((unclaimGroup_show g s).trans (updGroup_show _ _ _)).trans (updMove_show _ _ _)

theorem startPending_show (k : Slot) (mv : Move) (s : State) : KeepsShow s (startPending k mv s) := by
  unfold startPending
  split
  · exact KeepsShow.foldl _ (fun s c => startLane_show k mv c none s) _ s
  · exact KeepsShow.foldl _ (fun s (l : Chan × Int) => startLane_show k mv l.1 (some l.2) s) _ s
  · exact startGroup_show _ _ _ _ _
  · exact startGroup_show _ _ _ _ _

theorem completeMove_show (k : Slot) (s : State) : KeepsShow s (completeMove k s) := by
  unfold completeMove
  split
  · exact .refl _
  · exact (completeClaims_show k s).trans (retire_show _ _ _ _)

theorem finishStart_show (k : Slot) (s : State) : KeepsShow s (finishStart k s) := by
  unfold finishStart
  split
  · exact .refl _
  · exact .ite (retire_show _ _ _ _) (.ite (completeMove_show _ _) (.refl _))

theorem sweepStart_show (k : Slot) (stolen : List Slot) (s : State) :
    KeepsShow s (sweepStart k stolen s) :=
  KeepsShow.foldl _
    (fun s j => .ite (finishStart_show k s) (.ite (retire_show j _ _ s) (.refl s))) _ s

theorem startFading_show (k : Slot) (start : Nat) (s : State) : KeepsShow s (startFading k start s) := by
  unfold startFading
  split
  · exact .refl _
  · exact ((setSlot_show _ _ s).trans (startPending_show _ _ _)).trans (sweepStart_show _ _ _)

theorem placeMove_show (k : Slot) (mv : Move) (created : Nat) (s : State) :
    KeepsShow s (placeMove k mv created s) :=
  ⟨⟨fun _ => rfl, rfl, rfl, rfl, rfl, rfl, rfl, rfl, rfl, rfl, rfl, rfl, rfl, .refl _⟩, rfl, rfl, rfl⟩

theorem createRecorded_show (mv : Move) (s : State) : KeepsShow s (createRecorded mv s).1 := by
  unfold createRecorded
  split
  · exact .refl _
  · exact (placeMove_show _ _ _ s).trans (startFading_show _ _ _)

theorem turnRound_show (k : Slot) (mv : Move) (start : Nat) (s : State) :
    KeepsShow s (turnRound k mv start s) :=
  ((setSlot_show _ _ s).trans (mapChans_show _ (by intro _ _; rfl) _)).trans (mapGroups_show _ _)

theorem endTraversal_show (k : Slot) (s : State) : KeepsShow s (endTraversal k s) := by
  unfold endTraversal
  split
  · exact .refl _
  · split
    · exact .refl _
    · exact .ite (completeMove_show _ _) (turnRound_show _ _ _ _)

/-! ## Hand-backs and deliveries (spec 07) -/

theorem setOwnership_show (c : Chan) (o : Ownership) (s : State) : KeepsShow s (setOwnership c o s) :=
  updChans_show _ _ (by intro _; rfl) _

theorem recordBalance_show (c : Chan) (s : State) : KeepsShow s (recordBalance c s) :=
  .ite (updChans_show _ _ (by intro _; rfl) _) (.refl _)

theorem takeTouched_show (c : Chan) (cause : TakeoverCause) (s : State) :
    KeepsShow s (takeTouched c cause s) :=
  (((setOwnership_show c .touched s).trans (queueNotice_show _ _)).trans (removeClaims_show _ _)).trans
    (recordBalance_show _ _)

theorem enterPickup_show (c : Chan) (side : Side) (i : StripId) (s : State) :
    KeepsShow s (enterPickup c side i s) :=
  (updChans_show _ _ (by intro _; rfl) _).trans (queueNotice_show _ _)

theorem deliverTouch_show (c : Chan) (i : StripId) (s : State) : KeepsShow s (deliverTouch c i s) := by
  unfold deliverTouch
  split
  · split
    · exact takeTouched_show _ _ _
    · exact takeTouched_show _ _ _
    · exact .ite (takeTouched_show _ _ _) (.ite (enterPickup_show _ _ _ _) (enterPickup_show _ _ _ _))
  · exact takeTouched_show _ _ _
  · exact .refl _
  · exact .refl _

theorem writeFader_show (c : Chan) (f : Int) (s : State) : KeepsShow s (writeFader c f s) := by
  unfold writeFader
  have h2 : ∀ (c d : Chan) (x y : Int), KeepsShow s
      (updChan c (fun ch => { ch with base := x }) (updChan d (fun ch => { ch with base := y }) s)) :=
    fun c d x y => (updChan_show _ _ (by intro _; rfl) _).trans (updChan_show _ _ (by intro _; rfl) _)
  split
  · dsimp only
    exact .ite (h2 _ _ _ _) (h2 _ _ _ _)
  · exact updChan_show _ _ (by intro _; rfl) _

theorem completeCrossing_show (c : Chan) (i : StripId) (s : State) :
    KeepsShow s (completeCrossing c i s) :=
  (takeTouched_show _ _ _).trans (writeFader_show _ _ _)

theorem deliverPosition_show (c : Chan) (i : StripId) (s : State) :
    KeepsShow s (deliverPosition c i s) := by
  unfold deliverPosition
  split
  · exact writeFader_show _ _ _
  · dsimp only
    exact .ite (.ite (completeCrossing_show _ _ _) (.refl _))
      (.ite (completeCrossing_show _ _ _) (updChans_show _ _ (by intro _; rfl) _))
  · exact .refl _
  · exact .refl _

theorem askGlide_show (c : Chan) (s : State) : KeepsShow s (askGlide c s).1 := by
  unfold askGlide
  split
  · exact .refl _
  · have h := createRecorded_show (glideMove s c) s
    split
    · rename_i s1 heq
      rw [heq] at h
      exact h.trans (queueNotice_show _ _)
    · rename_i s1 _ _ heq
      rw [heq] at h
      exact h

theorem handBackGlide_show (c : Chan) (cause : TakeoverCause) (s : State) :
    KeepsShow s (handBackGlide c cause s).1 := by
  have h : ∀ n, KeepsShow s (queueNotice n (setOwnership c .auto s)) := fun n =>
    (setOwnership_show c .auto s).trans (queueNotice_show _ _)
  unfold handBackGlide
  dsimp only
  split
  · exact h _
  · exact (h _).trans (askGlide_show _ _)

theorem handBack_show (c : Chan) (cause : TakeoverCause) (s : State) : KeepsShow s (handBack c cause s) :=
  handBackGlide_show c cause s

theorem deliverRelease_show (c : Chan) (s : State) : KeepsShow s (deliverRelease c s) := by
  have h : ∀ n o, KeepsShow s (queueNotice n (setOwnership c o s)) := fun n o =>
    (setOwnership_show c o s).trans (queueNotice_show _ _)
  unfold deliverRelease
  split
  · exact h _ _
  · split
    · exact h _ _
    · exact handBack_show _ _ _
    · exact handBack_show _ _ _
  · exact .refl _
  · exact .refl _

/-! ## Actions (R52 to R58) -/

theorem releaseLatched_show (c : Chan) (s : State) : KeepsShow s (releaseLatched c s) :=
  .ite (handBack_show _ _ _) (.refl _)

theorem actGroup_show (mv : Move) (on : Bool) (s : State) : KeepsShow s (actGroup mv on s) := by
  unfold actGroup
  split
  · exact setGroupMute_show _ _ _
  · exact .refl _

theorem actInstant_show (mv : Move) (s : State) : KeepsShow s (actInstant mv s) := by
  unfold actInstant
  split
  · exact KeepsShow.foldl _ (fun s c => setOwnMute_show c true s) _ s
  · exact KeepsShow.foldl _ (fun s c => setOwnMute_show c false s) _ s
  · exact actGroup_show _ _ _
  · exact actGroup_show _ _ _
  · exact KeepsShow.foldl _ (fun s c => releaseLatched_show c s) _ s
  · exact .refl _
  · exact .refl _

theorem createMove_show (o : Origin) (a : Action) (fireTime : Nat) (s : State) :
    KeepsShow s (createMove o a fireTime s).1 := by
  unfold createMove
  dsimp only
  split
  · exact .refl _
  · split
    · exact actInstant_show _ _
    · split
      · exact .refl _
      · split
        · exact placeMove_show _ _ _ _
        · exact (placeMove_show _ _ _ _).trans (startFading_show _ _ _)

theorem startDelayed_show (k : Slot) (s : State) : KeepsShow s (startDelayed k s) := by
  unfold startDelayed
  split
  · exact .refl _
  · split
    · exact .refl _
    · exact .ite ((actInstant_show _ _).trans (retire_show _ _ _ _)) (startFading_show _ _ _)

end Sys2Proof.Machine
end

