-- ==== Sys2Proof/Laws/PlayWork.lean ====
section
/-! SUPPORT. What the clock, a firing, a follow, BACK and an advance can do: everything `KeepsSurface` names
is left alone. -/

namespace Sys2Proof.Machine

theorem KeepsSurface.refl (s : State) : KeepsSurface s s := ⟨.refl s, rfl⟩

theorem KeepsSurface.trans {a b c : State} (h : KeepsSurface a b) (h' : KeepsSurface b c) :
    KeepsSurface a c := ⟨h.toKeeps.trans h'.toKeeps, h'.surf.trans h.surf⟩

theorem KeepsShow.toSurface {s t : State} (h : KeepsShow s t) : KeepsSurface s t := ⟨h.toKeeps, h.surf⟩

theorem KeepsSurface.foldl {α : Type} (f : State → α → State) (h : ∀ s a, KeepsSurface s (f s a)) :
    ∀ (l : List α) (s : State), KeepsSurface s (l.foldl f s)
  | [], s => .refl s
  | a :: l, s => (h s a).trans (KeepsSurface.foldl f h l (f s a))

theorem KeepsSurface.ite {p : Prop} [Decidable p] {s a b : State} (ha : KeepsSurface s a)
    (hb : KeepsSurface s b) : KeepsSurface s (if p then a else b) := by split <;> assumption

theorem KeepsSurface.inOneInstant {α : Type} {steps : State → State × α} {s : State}
    (h : ∀ s, KeepsSurface s (steps s).1) : KeepsSurface s (inOneInstant steps s).1 :=
  ⟨.inOneInstant fun s => (h s).toKeeps, (h { s with link := s.link.openInstant }).surf⟩

theorem updPlay_surface (f : Playback → Playback) (hb : ∀ p, (f p).backTime = p.backTime) (s : State) :
    KeepsSurface s (updPlay f s) :=
  ⟨⟨fun _ => rfl, rfl, rfl, rfl, rfl, rfl, rfl, rfl, rfl, rfl, rfl, hb _, rfl, .refl _⟩, rfl⟩

/-- A change of the clock that keeps wall time, D, W and the edge. -/
theorem updClock_surface (f : Clock → Clock)
    (h : ∀ k, (f k).wallTime = k.wallTime ∧ (f k).divisor = k.divisor ∧ (f k).weight = k.weight
      ∧ (f k).rising = k.rising) (s : State) : KeepsSurface s (updClock f s) :=
  ⟨⟨fun _ => rfl, rfl, rfl, rfl, rfl, rfl, rfl, (h _).1, (h _).2.1, (h _).2.2.1, (h _).2.2.2, rfl, rfl,
    .refl _⟩, rfl⟩

/-! ## The clock's transitions (spec 04) -/

theorem clockNotice_show (cause : ClockCause) (s : State) : KeepsShow s (clockNotice cause s) :=
  queueNotice_show _ s

theorem holdClock_surface (cause : ClockCause) (s : State) : KeepsSurface s (holdClock cause s) :=
  (updClock_surface _ (by intro _; exact ⟨rfl, rfl, rfl, rfl⟩) s).trans (clockNotice_show _ _).toSurface

theorem saturate_surface (s : State) : KeepsSurface s (saturate s) := .ite (holdClock_surface _ _) (.refl _)

theorem runClock_surface (cause : ClockCause) (s : State) : KeepsSurface s (runClock cause s) :=
  ((updClock_surface _ (by intro _; exact ⟨rfl, rfl, rfl, rfl⟩) s).trans
    (clockNotice_show _ _).toSurface).trans (saturate_surface _)

theorem startForGo_surface (s : State) : KeepsSurface s (startForGo s) := .ite (runClock_surface _ _) (.refl _)

theorem holdForStop_surface (s : State) : KeepsSurface s (holdForStop s) :=
  .ite (holdClock_surface _ _) (.refl _)

theorem expireLoss_surface (s : State) : KeepsSurface s (expireLoss s) :=
  (updClock_surface _ (by intro _; exact ⟨rfl, rfl, rfl, rfl⟩) s).trans (clockNotice_show _ _).toSurface

/-! ## A firing and BACK (R103, R111) -/

theorem fireActions_show (o : Origin) (fireTime : Nat) (as : List Action) (s : State) :
    KeepsShow s (fireActions o fireTime as s).1 := by
  refine KeepsShow.inOneInstant fun s => ?_
  have h : ∀ (as : List Action) (acc : State × Nat), KeepsShow acc.1
      (as.foldl (fun acc a =>
        let made := createMove o a fireTime acc.1
        (made.1, if made.2 = .noSlot then acc.2 + 1 else acc.2)) acc).1 := by
    intro as
    induction as with
    | nil => exact fun acc => .refl _
    | cons a as ih =>
      exact fun acc => (createMove_show o a fireTime acc.1).trans
        (ih ((createMove o a fireTime acc.1).1, _))
  exact h as (s, 0)

theorem fireNotices_show (cause : FireCause) (fireTime : Nat) (f : Fired) (s : State) :
    KeepsShow s (fireNotices cause fireTime f s) :=
  KeepsShow.ite ((queueNotice_show _ s).trans (queueNotice_show _ _)) (queueNotice_show _ s)

theorem advanceStandby_backTime (c : Cue) (p : Playback) : (advanceStandby c p).backTime = p.backTime := by
  unfold advanceStandby
  split
  · rfl
  · split <;> rfl

theorem armFollow_backTime (c : Cue) (firing fireTime k : Nat) (p : Playback) :
    (armFollow c firing fireTime k p).backTime = p.backTime := by
  unfold armFollow
  split
  · rfl
  · rfl
  · split <;> rfl

theorem fireCue_surface (c : Cue) (due : Option Nat) (s : State) : KeepsSurface s (fireCue c due s).1 := by
  unfold fireCue
  dsimp only
  refine KeepsSurface.trans ?_ (fireNotices_show _ _ _ _).toSurface
  refine KeepsSurface.trans ?_ (updPlay_surface _ (armFollow_backTime _ _ _ _) _)
  refine KeepsSurface.trans ?_ (updPlay_surface _ (advanceStandby_backTime _) _)
  refine KeepsSurface.trans ?_ (fireActions_show _ _ _ _).toSurface
  refine KeepsSurface.trans ?_ (updPlay_surface _ (by intro _; rfl) _)
  refine KeepsSurface.trans ?_ (updPlay_surface _ (by intro _; rfl) _)
  exact (startForGo_surface s).trans (.ite (.refl _) (updPlay_surface _ (by intro _; rfl) _))

theorem expireFollow_surface (s : State) : KeepsSurface s (expireFollow s) := by
  unfold expireFollow
  split
  · exact .refl _
  · dsimp only
    split
    · exact (updPlay_surface _ (by intro _; rfl) s).trans (fireCue_surface _ _ _)
    · exact updPlay_surface _ (by intro _; rfl) s

theorem settleFollows_surface : ∀ (n : Nat) (s : State), KeepsSurface s (settleFollows n s)
  | 0, s => .refl s
  | n + 1, s => by
    unfold settleFollows
    split
    · exact .ite ((expireFollow_surface s).trans (settleFollows_surface n _)) (.refl _)
    · exact .refl _

theorem settle_surface (s : State) : KeepsSurface s (settle s) := settleFollows_surface _ s

theorem createBack_show (kind : MoveKind) (pending : Pending) (firing : Nat) (acc : State × Nat) :
    KeepsShow acc.1 (createBack kind pending firing acc).1 := by
  have h := createRecorded_show (backMove kind pending firing acc.1) acc.1
  unfold createBack
  split
  · rename_i s1 heq
    rw [heq] at h
    exact h
  · rename_i s1 _ _ heq
    rw [heq] at h
    exact h

theorem restoreMutes_show (es : List (Chan × Int × Bool)) (s : State) : KeepsShow s (restoreMutes es s) :=
  KeepsShow.foldl _ (fun s (e : Chan × Int × Bool) => .ite (.refl s) (setOwnMute_show e.1 e.2.2 s)) es s

theorem restoreGroupMutes_show (es : List (Grp × Int × Bool)) (s : State) :
    KeepsShow s (restoreGroupMutes es s) :=
  KeepsShow.foldl _ (fun s (e : Grp × Int × Bool) => setGroupMute_show e.1 e.2.2 s) es s

theorem backChannels_show (r : RecallRecord) (acc : State × Nat) :
    KeepsShow acc.1 (backChannels r acc).1 := by
  unfold backChannels
  split
  · exact .refl _
  · exact createBack_show _ _ _ _

theorem backGroups_show (r : RecallRecord) (acc : State × Nat) : KeepsShow acc.1 (backGroups r acc).1 := by
  have h : ∀ (es : List (Grp × Int × Bool)) (acc : State × Nat), KeepsShow acc.1
      (es.foldl (fun acc e => createBack .group (.groupTo e.1 e.2.1) r.firing acc) acc).1 := by
    intro es
    induction es with
    | nil => exact fun acc => .refl _
    | cons e es ih => exact fun acc => (createBack_show _ _ _ acc).trans (ih _)
  exact h r.groups acc

theorem undoFiring_surface (r : RecallRecord) (rest : List RecallRecord) (s : State) :
    KeepsSurface s (undoFiring r rest s).1 := by
  unfold undoFiring
  refine KeepsSurface.inOneInstant fun s => ?_
  unfold backSteps
  dsimp only
  refine KeepsSurface.trans ?_ (updPlay_surface _ (by intro _; rfl) _)
  refine KeepsSurface.trans ?_ (backGroups_show _ _).toSurface
  refine KeepsSurface.trans ?_ (backChannels_show _ _).toSurface
  refine KeepsSurface.trans ?_ (restoreGroupMutes_show _ _).toSurface
  refine KeepsSurface.trans ?_ (restoreMutes_show _ _).toSurface
  refine KeepsSurface.trans ?_ (cancelWhere_show _ _ _).toSurface
  exact updPlay_surface _ (by intro _; rfl) _

/-! ## An advance (R81) -/

theorem takeItem_surface (i : DueItem) (s : State) : KeepsSurface s (takeItem i s) := by
  unfold takeItem
  split
  · exact (startDelayed_show _ _).toSurface
  · exact (endTraversal_show _ _).toSurface
  · exact expireFollow_surface _

theorem pickItem_state (s : State) (l : List DueItem) (i : DueItem) (t : State)
    (h : pickItem s l = some (i, t)) : t = s ∨ t = tickFree s := by
  unfold pickItem at h
  split at h
  · simp at h
  · simp only [Option.some.injEq, Prod.mk.injEq] at h
    exact .inl h.2.symm
  · simp only [Option.some.injEq, Prod.mk.injEq] at h
    exact .inr h.2.symm

theorem pickItem_surface (s : State) (l : List DueItem) (i : DueItem) (t : State)
    (h : pickItem s l = some (i, t)) : KeepsSurface s t := by
  rcases pickItem_state s l i t h with rfl | rfl
  · exact .refl _
  · exact (tickFree_show _).toSurface

/-- What an item leaves behind: its own state, or that state with its follows taken. -/
theorem settleItem_cases (i : DueItem) (b a : State) : settleItem i b a = a ∨ settleItem i b a = settle a := by
  unfold settleItem
  split
  · exact .inr rfl
  · split <;> simp
  · split <;> simp

/-- The slot that orders an item among others of its instant holds a move. -/
theorem firstRetired_occupied (s : State) (i : DueItem) (j : Slot) (h : firstRetired s i = some j) :
    s.moves[j].isSome = true := by
  unfold firstRetired at h
  split at h
  · split at h
    · cases h
    · rename_i k mv e
      split at h
      · cases h; simp [e]
      · have := List.find?_some h
        simp only [Bool.and_eq_true] at this
        exact this.1
  · split at h
    · cases h
    · rename_i k mv e
      split at h
      · cases h; simp [e]
      · cases h
  · cases h

/-- A follow neither comes before nor after another item of its instant by a rule (R81; log entries 8 and 12). -/
theorem comesBefore_follow (s : State) (x : DueItem) :
    comesBefore s .follow x = false ∧ comesBefore s x .follow = false := by
  constructor
  · simp [comesBefore, startsBefore, retiresBefore, firstRetired]
  · simp only [comesBefore, retiresBefore, Bool.or_eq_false_iff]
    refine ⟨by cases x <;> rfl, ?_⟩
    cases firstRetired s x <;> rfl

/-- The unpreceded items of a list are its items that no other item of it precedes. -/
theorem mem_unpreceded (before : DueItem → DueItem → Bool) (items : List DueItem) (x : DueItem) :
    x ∈ unpreceded before items ↔ x ∈ items ∧ ∀ y ∈ items, before y x = false := by
  simp [unpreceded]

/-- A candidate is an item of the due time asked for, and no start of its firing at that time precedes it. -/
theorem mem_candidates (s : State) (d : Nat) (items : List (Nat × DueItem)) (x : DueItem)
    (h : x ∈ candidates s d items) :
    (d, x) ∈ items ∧ ∀ y, (d, y) ∈ items → startsBefore s y x = false := by
  have key : x ∈ unpreceded (startsBefore s) ((items.filter fun i => i.1 == d).map (·.2)) := by
    unfold candidates at h
    dsimp only at h
    split at h
    · exact h
    · rename_i e
      rw [← e, mem_unpreceded] at h
      rw [mem_unpreceded]
      refine ⟨h.1, fun y hy => ?_⟩
      have := h.2 y hy
      simp only [comesBefore, Bool.or_eq_false_iff] at this
      exact this.1
  rw [mem_unpreceded] at key
  simpa using key

/-- The item picked is one of the candidates, unless the list is empty. -/
theorem pickItem_mem (s : State) (l : List DueItem) (i : DueItem) (t : State)
    (h : pickItem s l = some (i, t)) : i ∈ l := by
  unfold pickItem at h
  split at h
  · simp at h
  · simp only [Option.some.injEq, Prod.mk.injEq] at h
    simp [← h.1]
  · rename_i x xs _
    simp only [Option.some.injEq, Prod.mk.injEq] at h
    rw [← h.1]
    have hlt : Config.tieBreak s.freeCount % (x :: xs).length < (x :: xs).length :=
      Nat.mod_lt _ (by simp)
    rw [List.getElem?_eq_getElem hlt]
    exact List.getElem_mem hlt

theorem settleItem_surface (i : DueItem) (b a : State) : KeepsSurface a (settleItem i b a) := by
  unfold settleItem
  split
  · exact settle_surface a
  · exact .ite (.refl a) (settle_surface a)
  · exact .ite (.refl a) (settle_surface a)

theorem reachInstant_surface (d : Nat) (s : State) : KeepsSurface s (reachInstant d s) := by
  refine (updClock_surface (fun k => { k with showTime := max k.showTime d })
    (by intro _; exact ⟨rfl, rfl, rfl, rfl⟩) s).trans ?_
  exact ⟨⟨fun _ => rfl, rfl, rfl, rfl, rfl, rfl, rfl, rfl, rfl, rfl, rfl, rfl, rfl, by
    unfold reachInstant
    dsimp only
    split
    · exact .goOn _
    · exact .refl _⟩, rfl⟩

theorem takeItems_surface : ∀ (n t0 t1 : Nat) (s : State), KeepsSurface s (takeItems n t0 t1 s)
  | 0, _, _, s => .refl s
  | n + 1, t0, t1, s => by
    unfold takeItems
    split
    · exact .refl _
    · split
      · exact .refl _
      · rename_i i s1 h
        dsimp only
        refine KeepsSurface.trans ?_ (takeItems_surface n t0 t1 _)
        refine KeepsSurface.trans ?_ (settleItem_surface _ _ _)
        refine KeepsSurface.trans ?_ (takeItem_surface _ _)
        exact (pickItem_surface _ _ _ _ h).trans (reachInstant_surface _ _)

theorem advance_surface (n : Nat) (s : State) : KeepsSurface s (advance n s) := by
  unfold advance
  dsimp only
  refine KeepsSurface.trans ?_ (saturate_surface _)
  exact (KeepsSurface.inOneInstant fun s => takeItems_surface _ _ _ s).trans
    (updClock_surface _ (by intro _; exact ⟨rfl, rfl, rfl, rfl⟩) _)

end Sys2Proof.Machine
end

