-- ==== Sys2Proof/Laws/SurfaceWork.lean ====
section
/-! SUPPORT. What the surface's operations can do: everything `KeepsClock` names is left alone. -/

namespace Sys2Proof.Machine

theorem KeepsClock.refl (s : State) : KeepsClock s s := ⟨.refl s, rfl, rfl⟩

theorem KeepsClock.trans {a b c : State} (h : KeepsClock a b) (h' : KeepsClock b c) : KeepsClock a c :=
  ⟨h.toKeeps.trans h'.toKeeps, h'.clock.trans h.clock, h'.plan.trans h.plan⟩

theorem KeepsShow.toClock {s t : State} (h : KeepsShow s t) : KeepsClock s t := ⟨h.toKeeps, h.clock, h.plan⟩

theorem KeepsClock.foldl {α : Type} (f : State → α → State) (h : ∀ s a, KeepsClock s (f s a)) :
    ∀ (l : List α) (s : State), KeepsClock s (l.foldl f s)
  | [], s => .refl s
  | a :: l, s => (h s a).trans (KeepsClock.foldl f h l (f s a))

theorem KeepsClock.ite {p : Prop} [Decidable p] {s a b : State} (ha : KeepsClock s a)
    (hb : KeepsClock s b) : KeepsClock s (if p then a else b) := by split <;> assumption

theorem KeepsClock.inOneInstant {α : Type} {steps : State → State × α} {s : State}
    (h : ∀ s, KeepsClock s (steps s).1) : KeepsClock s (inOneInstant steps s).1 :=
  let k := h { s with link := s.link.openInstant }
  ⟨.inOneInstant fun s => (h s).toKeeps, k.clock, k.plan⟩

theorem updSurf_keepsClock (f : Surface → Surface) (s : State) : KeepsClock s (updSurf f s) :=
  ⟨⟨fun _ => rfl, rfl, rfl, rfl, rfl, rfl, rfl, rfl, rfl, rfl, rfl, rfl, rfl, .refl _⟩, rfl, rfl⟩

theorem updStrip_keepsClock (i : StripId) (f : Strip → Strip) (s : State) : KeepsClock s (updStrip i f s) :=
  updSurf_keepsClock _ s

theorem updModule_keepsClock (m : ModuleId) (f : SurfaceModule → SurfaceModule) (s : State) :
    KeepsClock s (updModule m f s) := updSurf_keepsClock _ s

theorem disarm_keepsClock (i : StripId) (s : State) : KeepsClock s (disarm i s) := updStrip_keepsClock _ _ _

theorem dropTouch_keepsClock (i : StripId) (s : State) : KeepsClock s (dropTouch i s) := by
  unfold dropTouch
  dsimp only
  split
  · split
    · exact .ite (updStrip_keepsClock _ _ _) ((updStrip_keepsClock _ _ _).trans (deliverRelease_show _ _).toClock)
    · exact updStrip_keepsClock _ _ _
  · exact updStrip_keepsClock _ _ _

theorem withdrawStrips_keepsClock (m : ModuleId) (s : State) : KeepsClock s (withdrawStrips m s) :=
  (KeepsClock.foldl _ (fun s i => dropTouch_keepsClock i s) _ s).trans
    (KeepsClock.foldl _ (fun s i => disarm_keepsClock i s) _ _)

theorem moduleNotice_keepsClock (m : ModuleId) (cause : ModuleCause) (s : State) :
    KeepsClock s (moduleNotice m cause s) := (queueNotice_show _ s).toClock

theorem abortCalibration_keepsClock (m : ModuleId) (cause : ModuleCause) (s : State) :
    KeepsClock s (abortCalibration m cause s) :=
  .ite ((updModule_keepsClock _ _ _).trans (queueNotice_show _ _).toClock) (.refl _)

theorem goOffline_keepsClock (m : ModuleId) (cause : ModuleCause) (s : State) :
    KeepsClock s (goOffline m cause s) :=
  (((updModule_keepsClock _ _ s).trans (moduleNotice_keepsClock _ _ _)).trans (abortCalibration_keepsClock _ _ _)).trans
    (withdrawStrips_keepsClock _ _)

theorem takeMiss_keepsClock (m : ModuleId) (s : State) : KeepsClock s (takeMiss m s) := by
  unfold takeMiss
  dsimp only
  split
  · exact .ite ((updModule_keepsClock _ _ s).trans (updModule_keepsClock _ _ _))
      ((updModule_keepsClock _ _ s).trans (goOffline_keepsClock _ _ _))
  · exact updModule_keepsClock _ _ s

theorem rebind_keepsClock (s : State) : KeepsClock s (rebind s) :=
  (KeepsClock.foldl _ (fun s i => dropTouch_keepsClock i s) _ s).trans
    (KeepsClock.foldl _ (fun s i => (updStrip_keepsClock i _ s).trans (disarm_keepsClock i _)) _ _)

theorem startExchange_keepsClock (m : ModuleId) (s : State) : KeepsClock s (startExchange m s) := by
  unfold startExchange
  dsimp only
  refine KeepsClock.trans ?_ (updSurf_keepsClock _ _)
  exact KeepsClock.foldl _ (fun s' i => updStrip_keepsClock i _ s') _ s

theorem deliverQualified_keepsClock (i : StripId) (on : Bool) (s : State) :
    KeepsClock s (deliverQualified i on s) := by
  unfold deliverQualified
  dsimp only
  split
  · exact updStrip_keepsClock _ _ _
  · split
    · exact .ite (updStrip_keepsClock _ _ _) ((updStrip_keepsClock _ _ _).trans (deliverTouch_show _ _ _).toClock)
    · exact .ite (updStrip_keepsClock _ _ _) ((updStrip_keepsClock _ _ _).trans (deliverRelease_show _ _).toClock)

theorem qualifyTouch_keepsClock (i : StripId) (touch : Bool) (s : State) :
    KeepsClock s (qualifyTouch i touch s) := by
  unfold qualifyTouch
  dsimp only
  split
  · exact .ite (.refl _) (updStrip_keepsClock _ _ _)
  · exact .ite (updStrip_keepsClock _ _ _) (.ite (deliverQualified_keepsClock _ _ _) (updStrip_keepsClock _ _ _))

theorem reportPosition_keepsClock (i : StripId) (s : State) : KeepsClock s (reportPosition i s) := by
  unfold reportPosition
  split
  · exact .refl _
  · exact .ite (deliverPosition_show _ _ _).toClock (.refl _)

theorem takeKey_keepsClock (i : StripId) (key : Bool) (acc : State × List PairId) :
    KeepsClock acc.1 (takeKey i key acc).1 := by
  unfold takeKey
  split
  · exact .refl _
  · split
    · split
      · exact .refl _
      · exact (setOwnMute_show _ _ _).toClock
    · exact .refl _

theorem takeStrip_keepsClock (i : StripId) (r : StripReport) (acc : State × List PairId) :
    KeepsClock acc.1 (takeStrip i r acc).1 := by
  unfold takeStrip
  dsimp only
  refine KeepsClock.trans ?_ (takeKey_keepsClock _ _ _)
  dsimp only
  refine (updStrip_keepsClock i (recordReport r) acc.1).trans ?_
  exact .ite ((qualifyTouch_keepsClock _ _ _).trans (reportPosition_keepsClock _ _)) (.refl _)

theorem takeStrips_keepsClock (m : ModuleId) (rs : List StripReport) (s : State) :
    KeepsClock s (takeStrips m rs s) := by
  refine KeepsClock.inOneInstant fun s => ?_
  have h : ∀ (l : List (StripId × StripReport)) (acc : State × List PairId),
      KeepsClock acc.1 (l.foldl (fun acc x => takeStrip x.1 x.2 acc) acc).1 := by
    intro l
    induction l with
    | nil => exact fun acc => .refl _
    | cons x l ih => exact fun acc => (takeStrip_keepsClock x.1 x.2 acc).trans (ih _)
  exact h _ (s, [])

theorem answerModule_keepsClock (m : ModuleId) (s : State) : KeepsClock s (answerModule m s) :=
  .ite (updModule_keepsClock _ _ s) ((updModule_keepsClock _ _ s).trans (moduleNotice_keepsClock _ _ _))

theorem evaluate_keepsClock (m : ModuleId) (s : State) : KeepsClock s (evaluate m s) := by
  unfold evaluate
  dsimp only
  refine KeepsClock.trans ?_ (queueNotice_show _ _).toClock
  refine KeepsClock.trans ?_ (updModule_keepsClock _ _ _)
  exact KeepsClock.foldl _ (fun s (x : StripId × Nat × Nat) => updStrip_keepsClock x.1 _ s) _ s

theorem takeSample_keepsClock (m : ModuleId) (startedIn : CalPhase) (raws : List Nat) (s : State) :
    KeepsClock s (takeSample m startedIn raws s) := by
  unfold takeSample
  split
  · exact .ite (updModule_keepsClock _ _ _) (.refl _)
  · exact .ite ((updModule_keepsClock _ _ _).trans (evaluate_keepsClock _ _)) (.refl _)
  · exact .refl _
  · exact .refl _
  · exact .refl _

theorem takeGoodReply_keepsClock (x : Exchange) (rs : List StripReport) (s : State) :
    KeepsClock s (takeGoodReply x rs s) :=
  ((answerModule_keepsClock x.module s).trans (takeStrips_keepsClock _ _ _)).trans (takeSample_keepsClock _ _ _ _)

theorem endExchange_keepsClock (s : State) : KeepsClock s (endExchange s) := updSurf_keepsClock _ s

/-! ## The surface's requests -/

theorem discardExchange_keepsClock (s : State) : KeepsClock s (discardExchange s) := by
  unfold discardExchange
  split
  · exact .ite (endExchange_keepsClock _) (.refl _)
  · exact .refl _

theorem changeExpected_keepsClock (s : State) : KeepsClock s (changeExpected s) := by
  unfold changeExpected
  dsimp only
  refine KeepsClock.trans ?_ (updSurf_keepsClock _ _)
  refine KeepsClock.trans ?_ (rebind_keepsClock _)
  refine KeepsClock.trans ?_ (discardExchange_keepsClock _)
  exact KeepsClock.foldl _ (fun s m => goOffline_keepsClock m .removed s) _ s

theorem configSurface_keepsClock (a : SurfaceSettings) (s : State) : KeepsClock s (configSurface a s) :=
  .ite (updSurf_keepsClock _ s) ((updSurf_keepsClock _ s).trans (changeExpected_keepsClock _))

theorem setBanks_keepsClock (a b split : Nat) (s : State) : KeepsClock s (setBanks a b split s) :=
  (updSurf_keepsClock _ s).trans (rebind_keepsClock _)

theorem startCalibration_keepsClock (m : ModuleId) (s : State) : KeepsClock s (startCalibration m s) :=
  (updModule_keepsClock _ _ s).trans (withdrawStrips_keepsClock _ _)

theorem releaseUnit_show (c : Chan) (acc : HandBacks) : KeepsShow acc.state (releaseUnit c acc).state :=
  handBackGlide_show c _ _

theorem releaseUnits_show (cs : List Chan) (s : State) : KeepsShow s (releaseUnits cs s).state := by
  have h : ∀ (cs : List Chan) (acc : HandBacks),
      KeepsShow acc.state (cs.foldl (fun acc c => releaseUnit c acc) acc).state := by
    intro cs
    induction cs with
    | nil => exact fun acc => .refl _
    | cons c cs ih => exact fun acc => (releaseUnit_show c acc).trans (ih _)
  exact h cs ⟨s, 0, 0, 0⟩

end Sys2Proof.Machine
end

