-- ==== Sys2Proof/Laws/LinkWork.lean ====
section
/-! SUPPORT. What carrying out a request can do to the link, and how a request on an idle link is
answered (spec 11, R184 to R187). -/

namespace Sys2Proof.Machine

/-- The path of requests and replies: what carrying out a request leaves alone on the link, but for a
receive queue that RESET empties. -/
structure KeepsPath (k k' : Link) : Prop where
  held : k'.held = k.held
  reply : k'.reply = k.reply
  tx : k'.tx = k.tx
  receiver : k'.receiver = k.receiver
  rate : k'.rate = k.rate
  queue : k'.rxQueue = k.rxQueue ∨ k'.rxQueue = []

theorem KeepsPath.refl (k : Link) : KeepsPath k k := ⟨rfl, rfl, rfl, rfl, rfl, .inl rfl⟩

theorem KeepsPath.trans {a b c : Link} (h : KeepsPath a b) (h' : KeepsPath b c) : KeepsPath a c where
  held := h'.held.trans h.held
  reply := h'.reply.trans h.reply
  tx := h'.tx.trans h.tx
  receiver := h'.receiver.trans h.receiver
  rate := h'.rate.trans h.rate
  queue := by
    rcases h'.queue with e | e
    · rw [e]; exact h.queue
    · exact .inr e

/-- A notice that enters the queue changes nothing of the path (R187). -/
theorem Link.post_path (n : Notice) (k : Link) : KeepsPath k (k.post n) := by
  unfold Link.post
  split
  · exact .refl _
  · split <;> exact ⟨rfl, rfl, rfl, rfl, rfl, .inl rfl⟩

theorem QueuesOnly.path {k k' : Link} (h : QueuesOnly k k') : KeepsPath k k' := by
  obtain ⟨ns, w, -, rfl⟩ := h
  have posted : KeepsPath k (ns.foldl (fun k n => k.post n) k) := by
    induction ns generalizing k with
    | nil => exact .refl _
    | cons n ns ih => exact (Link.post_path n k).trans (ih (k := k.post n))
  exact posted.trans ⟨rfl, rfl, rfl, rfl, rfl, .inl rfl⟩

theorem Keeps.path {s t : State} (h : Keeps s t) : KeepsPath s.link t.link := h.link.path

theorem resnap_link (before after : State) : (resnap before after).link = after.link := by
  unfold resnap
  rw [mapChans_link]

theorem updChans_link (cs : List Chan) (f : Channel → Channel) (s : State) :
    (updChans cs f s).link = s.link := by
  unfold updChans
  induction cs generalizing s with
  | nil => rfl
  | cons c cs ih => rw [List.foldl_cons, ih, updChan_link]

/-! ## The channel and move requests -/

theorem setAttributes_path (c : Chan) (a : Attributes) (s : State) :
    KeepsPath s.link (setAttributes c a s).link := by
  have h := (removeClaims_show (newlySafe s
    (resnap s (updChans (unitChans s c) (Channel.withAttributes a) s)) (unitChans s c))
    (resnap s (updChans (unitChans s c) (Channel.withAttributes a) s))).path
  rw [resnap_link, updChans_link] at h
  exact h

theorem reqChannelConfig_path (p : List Byte) (s : State) :
    KeepsPath s.link (reqChannelConfig p s).1.link := by
  unfold reqChannelConfig
  split
  · split
    · exact (setAttributes_path _ _ _).trans (settle_surface _).path
    · exact .refl _
  · exact .refl _

theorem reqChannelQuery_path (p : List Byte) (s : State) :
    KeepsPath s.link (reqChannelQuery p s).1.link := by
  unfold reqChannelQuery
  split
  · split <;> exact .refl _
  · exact .refl _

theorem setLevel_show (c : Chan) (level : Int) (s : State) : KeepsShow s (setLevel c level s) :=
  (removeClaims_show _ s).trans (updChans_show _ _ (by intro _; rfl) _)

theorem reqLevelSet_path (p : List Byte) (s : State) : KeepsPath s.link (reqLevelSet p s).1.link := by
  unfold reqLevelSet
  split
  · split
    · split
      · exact .refl _
      · exact (setLevel_show _ _ _).path.trans (settle_surface _).path
    · exact .refl _
  · exact .refl _

theorem reqTrimSet_path (p : List Byte) (s : State) : KeepsPath s.link (reqTrimSet p s).1.link := by
  unfold reqTrimSet
  split
  · split <;> exact .refl _
  · exact .refl _

theorem reqMuteSet_path (p : List Byte) (s : State) : KeepsPath s.link (reqMuteSet p s).1.link := by
  unfold reqMuteSet
  split
  · split
    · exact (setOwnMute_show _ _ _).path
    · exact .refl _
  · exact .refl _

theorem linkPair_path (k : PairId) (s : State) : KeepsPath s.link (linkPair k s).link := by
  unfold linkPair
  split
  · exact .refl _
  · have h := (removeClaims_show (newlySafe s
      (resnap s (updChan (oddOf k) (Channel.copyShared s.chans[evenOf k]) s)) [oddOf k])
      (resnap s (updChan (oddOf k) (Channel.copyShared s.chans[evenOf k]) s))).path
    rw [resnap_link, updChan_link] at h
    exact h

theorem reqPairLink_path (p : List Byte) (s : State) : KeepsPath s.link (reqPairLink p s).1.link := by
  unfold reqPairLink
  split
  · split
    · split
      · exact .refl _
      · dsimp only [accept]
        split
        · exact (linkPair_path _ _).trans (settle_surface _).path
        · exact (settle_surface (setLink _ false s)).path
    · exact .refl _
  · exact .refl _

theorem setOffset_show (g : Grp) (level : Int) (s : State) : KeepsShow s (setOffset g level s) :=
  (removeGroupClaim_show g s).trans (updGroup_show _ _ _)

theorem reqGroupSet_path (p : List Byte) (s : State) : KeepsPath s.link (reqGroupSet p s).1.link := by
  unfold reqGroupSet
  split
  · split
    · split
      · exact .refl _
      · dsimp only [accept]
        refine KeepsPath.trans ?_ (settle_surface _).path
        exact (KeepsShow.trans (.ite (setOffset_show _ _ _) (.refl _))
          (.ite (setGroupMute_show _ _ _) (.refl _))).path
    · exact .refl _
  · exact .refl _

theorem reqGroupMembers_path (p : List Byte) (s : State) :
    KeepsPath s.link (reqGroupMembers p s).1.link := by
  unfold reqGroupMembers
  split
  · split
    · exact .refl _
    · split
      · split
        · exact .refl _
        · dsimp only [accept, changeMembers]
          rw [resnap_link, updChans_link]
          exact .refl _
      · exact .refl _
  · exact .refl _

theorem reqSetWrite_path (p : List Byte) (s : State) : KeepsPath s.link (reqSetWrite p s).1.link := by
  unfold reqSetWrite
  split
  · split
    · exact .refl _
    · split
      · split <;> exact .refl _
      · exact .refl _
  · exact .refl _

theorem reqSetRead_path (p : List Byte) (s : State) : KeepsPath s.link (reqSetRead p s).1.link := by
  unfold reqSetRead
  split
  · split <;> exact .refl _
  · exact .refl _

theorem reqTaperWrite_path (p : List Byte) (s : State) : KeepsPath s.link (reqTaperWrite p s).1.link := by
  unfold reqTaperWrite
  split
  · split
    · exact .refl _
    · split
      · split
        · dsimp only [accept, setTable]
          split <;> exact .refl _
        · exact .refl _
      · exact .refl _
  · exact .refl _

theorem reqTaperRead_path (p : List Byte) (s : State) : KeepsPath s.link (reqTaperRead p s).1.link := by
  unfold reqTaperRead
  split
  · split <;> exact .refl _
  · exact .refl _

theorem reqMoveStart_path (p : List Byte) (s : State) : KeepsPath s.link (reqMoveStart p s).1.link := by
  unfold reqMoveStart
  split
  · exact .refl _
  · split
    · exact .refl _
    · split
      · exact .refl _
      · split
        · exact .refl _
        · rename_i tag _ _ _ a _ _
          have h := (createMove_show (.live tag) (clampAction a) s.clock.showTime s).path
          unfold answerMoveStart
          split
          · exact .refl _
          · exact .refl _
          all_goals
            rename_i heq
            rw [heq] at h
            exact h.trans (settle_surface _).path

theorem reqMoveCancel_path (p : List Byte) (s : State) : KeepsPath s.link (reqMoveCancel p s).1.link := by
  unfold reqMoveCancel
  split
  · split
    · exact (cancelWhere_show _ _ _).path.trans (settle_surface _).path
    · split
      · exact .refl _
      · split
        · exact .refl _
        · exact (cancelMove_show _ _ _).path.trans (settle_surface _).path
  · exact .refl _

theorem reqMoveQuery_path (p : List Byte) (s : State) : KeepsPath s.link (reqMoveQuery p s).1.link := by
  unfold reqMoveQuery
  split
  · split
    · exact .refl _
    · split
      · exact .refl _
      · dsimp only [accept]
        split <;> exact .refl _
  · exact .refl _

/-! ## The clock and playback requests -/

theorem setSource_path (pulse : Bool) (w : Nat) (rising : Bool) (s : State) :
    KeepsPath s.link (setSource pulse w rising s).link := by
  have h : ∀ t : State, KeepsPath t.link (lossAtChange (noticeIfSource s.clock.source t)).link := by
    intro t
    have h1 : KeepsPath t.link (noticeIfSource s.clock.source t).link := by
      unfold noticeIfSource
      split
      · exact .refl _
      · exact (clockNotice_show _ t).path
    refine h1.trans ?_
    unfold lossAtChange
    split
    · exact (expireLoss_surface _).path
    · exact .refl _
  unfold setSource
  exact h (updClock _ s)

theorem reqClockSource_path (p : List Byte) (s : State) :
    KeepsPath s.link (reqClockSource p s).1.link := by
  unfold reqClockSource
  split
  · split
    · exact setSource_path _ _ _ _
    · exact .refl _
  · exact .refl _

theorem reqClockRate_path (p : List Byte) (s : State) : KeepsPath s.link (reqClockRate p s).1.link := by
  unfold reqClockRate
  split
  · split <;> exact .refl _
  · exact .refl _

theorem reqClockRun_path (p : List Byte) (s : State) : KeepsPath s.link (reqClockRun p s).1.link := by
  unfold reqClockRun
  split
  · split
    · exact .refl _
    · split
      · exact .refl _
      · exact (runClock_surface _ _).path
  · exact .refl _

theorem reqClockHold_path (p : List Byte) (s : State) : KeepsPath s.link (reqClockHold p s).1.link := by
  unfold reqClockHold
  split
  · split
    · exact .refl _
    · exact .refl _
    · exact (holdClock_surface _ _).path
    · exact (holdClock_surface _ _).path
  · exact .refl _

theorem stepClock_path (n : Nat) (s : State) : KeepsPath s.link (stepClock n s).link := by
  unfold stepClock
  split
  · exact .refl _
  · refine KeepsPath.trans ?_ (advance_surface _ _).path
    unfold enterStepping
    split
    · exact .refl _
    · exact (clockNotice_show .request (updClock (fun k => { k with state := .stepping }) s)).path

theorem reqClockStep_path (p : List Byte) (s : State) : KeepsPath s.link (reqClockStep p s).1.link := by
  unfold reqClockStep
  split
  · split
    · exact .refl _
    · split
      · exact .refl _
      · exact stepClock_path _ _
  · exact .refl _

theorem reqClockLocate_path (p : List Byte) (s : State) :
    KeepsPath s.link (reqClockLocate p s).1.link := by
  unfold reqClockLocate
  split
  · split <;> exact .refl _
  · exact .refl _

theorem reqClockQuery_path (p : List Byte) (s : State) : KeepsPath s.link (reqClockQuery p s).1.link := by
  unfold reqClockQuery
  split <;> exact .refl _

theorem reqCueWrite_path (p : List Byte) (s : State) : KeepsPath s.link (reqCueWrite p s).1.link := by
  unfold reqCueWrite
  split
  · split
    · exact .refl _
    · split
      · unfold writeCue
        dsimp only
        split <;> exact .refl _
      · exact .refl _
  · exact .refl _

theorem answerCue_path (c : Option Cue) (s : State) : KeepsPath s.link (answerCue c s).1.link := by
  unfold answerCue
  split <;> exact .refl _

theorem reqCueRead_path (p : List Byte) (s : State) : KeepsPath s.link (reqCueRead p s).1.link := by
  unfold reqCueRead
  split
  · split
    · exact .refl _
    · split
      · exact .refl _
      · exact answerCue_path _ _
    · exact answerCue_path _ _
  · exact .refl _

theorem reqCueDelete_path (p : List Byte) (s : State) : KeepsPath s.link (reqCueDelete p s).1.link := by
  unfold reqCueDelete
  split
  · split
    · exact .refl _
    · split <;> exact .refl _
  · exact .refl _

theorem reqCueClear_path (p : List Byte) (s : State) : KeepsPath s.link (reqCueClear p s).1.link := by
  unfold reqCueClear
  split <;> exact .refl _

theorem reqGo_path (p : List Byte) (s : State) : KeepsPath s.link (reqGo p s).1.link := by
  unfold reqGo
  split
  · split
    · exact .refl _
    · split
      · exact .refl _
      · exact ((fireCue_surface _ _ _).trans (settle_surface _)).path
  · exact .refl _

theorem reqBack_path (p : List Byte) (s : State) : KeepsPath s.link (reqBack p s).1.link := by
  unfold reqBack
  split
  · split
    · exact .refl _
    · split
      · exact .refl _
      · exact ((undoFiring_surface _ _ _).trans (settle_surface _)).path
  · exact .refl _

theorem reqJump_path (p : List Byte) (s : State) : KeepsPath s.link (reqJump p s).1.link := by
  unfold reqJump
  split
  · split
    · exact .refl _
    · split <;> exact .refl _
  · exact .refl _

theorem reqPlaybackQuery_path (p : List Byte) (s : State) :
    KeepsPath s.link (reqPlaybackQuery p s).1.link := by
  unfold reqPlaybackQuery
  split <;> exact .refl _

theorem reqPlaybackConfig_path (p : List Byte) (s : State) :
    KeepsPath s.link (reqPlaybackConfig p s).1.link := by
  unfold reqPlaybackConfig
  split <;> exact .refl _

/-! ## The surface, lane, stop and link requests -/

theorem reqSurfaceConfig_path (p : List Byte) (s : State) :
    KeepsPath s.link (reqSurfaceConfig p s).1.link := by
  unfold reqSurfaceConfig
  split
  · split
    · exact .refl _
    · exact (configSurface_keepsClock _ _).path.trans (settle_surface _).path
  · exact .refl _

theorem reqBankSet_path (p : List Byte) (s : State) : KeepsPath s.link (reqBankSet p s).1.link := by
  unfold reqBankSet
  split
  · split
    · exact .refl _
    · exact (setBanks_keepsClock _ _ _ _).path.trans (settle_surface _).path
  · exact .refl _

theorem reqSurfaceQuery_path (p : List Byte) (s : State) :
    KeepsPath s.link (reqSurfaceQuery p s).1.link := by
  unfold reqSurfaceQuery
  split <;> exact .refl _

theorem reqCalibrate_path (p : List Byte) (s : State) : KeepsPath s.link (reqCalibrate p s).1.link := by
  unfold reqCalibrate
  split
  · split
    · exact .refl _
    · split
      · exact .refl _
      · split
        · exact .refl _
        · exact (startCalibration_keepsClock _ _).path.trans (settle_surface _).path
  · exact .refl _

theorem reqLatchRelease_path (p : List Byte) (s : State) :
    KeepsPath s.link (reqLatchRelease p s).1.link := by
  unfold reqLatchRelease
  split
  · split
    · exact (releaseUnits_show _ _).path.trans (settle_surface _).path
    · split
      · exact .refl _
      · split
        · exact (releaseUnits_show _ _).path.trans (settle_surface _).path
        · exact .refl _
  · exact .refl _

theorem reqLaneConfig_path (p : List Byte) (s : State) : KeepsPath s.link (reqLaneConfig p s).1.link := by
  unfold reqLaneConfig
  split
  · split <;> exact .refl _
  · exact .refl _

theorem reqLaneQuery_path (p : List Byte) (s : State) : KeepsPath s.link (reqLaneQuery p s).1.link := by
  unfold reqLaneQuery
  split <;> exact .refl _

theorem stopNotice_show (cause : StopCause) (n : Nat) (s : State) : KeepsShow s (stopNotice cause n s) :=
  queueNotice_show _ s

theorem enterStop_path (cause : StopCause) (s : State) : KeepsPath s.link (enterStop cause s).link := by
  have h : KeepsPath s.link (updPlay Playback.dropFollow (holdForStop (activateStop s))).link := by
    have h1 : (activateStop s).link = s.link := by
      unfold activateStop
      rw [resnap_link]
      rfl
    have h2 := (holdForStop_surface (activateStop s)).path
    rw [h1] at h2
    exact h2
  exact h.trans ((cancelWhere_show _ _ _).trans (stopNotice_show _ _ _)).path

theorem clearStop_path (s : State) : KeepsPath s.link (clearStop s).link := by
  have h := (stopNotice_show .cleared 0
    (resnap s (updStop (fun u => { u with active := false }) s))).path
  rw [resnap_link] at h
  exact h

theorem reqStop_path (p : List Byte) (s : State) : KeepsPath s.link (reqStop p s).1.link := by
  unfold reqStop
  split
  · dsimp only [accept]
    split
    · exact .refl _
    · exact enterStop_path _ _
  · exact .refl _

theorem reqStopClear_path (p : List Byte) (s : State) : KeepsPath s.link (reqStopClear p s).1.link := by
  unfold reqStopClear
  split
  · split
    · exact .refl _
    · dsimp only [accept]
      split
      · exact clearStop_path _
      · exact .refl _
  · exact .refl _

theorem reqStopConfig_path (p : List Byte) (s : State) : KeepsPath s.link (reqStopConfig p s).1.link := by
  unfold reqStopConfig
  split
  · dsimp only [accept, setStopRamp]
    rw [resnap_link]
    exact .refl _
  · exact .refl _

theorem reqIdentify_path (p : List Byte) (s : State) : KeepsPath s.link (reqIdentify p s).1.link := by
  unfold reqIdentify
  split <;> exact .refl _

theorem reqLinkStatus_path (p : List Byte) (s : State) : KeepsPath s.link (reqLinkStatus p s).1.link := by
  unfold reqLinkStatus
  split
  · split
    · exact .refl _
    · dsimp only [accept]
      split
      · exact ⟨rfl, rfl, rfl, rfl, rfl, .inl rfl⟩
      · exact .refl _
  · exact .refl _

theorem reqNoticeEnable_path (p : List Byte) (s : State) :
    KeepsPath s.link (reqNoticeEnable p s).1.link := by
  unfold reqNoticeEnable
  split
  · split
    · exact .refl _
    · exact ⟨rfl, rfl, rfl, rfl, rfl, .inl rfl⟩
  · exact .refl _

theorem reqReset_path (p : List Byte) (s : State) : KeepsPath s.link (reqReset p s).1.link := by
  unfold reqReset
  split
  · exact ⟨rfl, rfl, rfl, rfl, rfl, .inr rfl⟩
  · exact .refl _

/-- Carrying out a request of any TYPE leaves the link's path alone. -/
theorem serve_path (f : Frame) (s : State) : KeepsPath s.link (serve f s).1.link := by
  unfold serve
  split
  · exact reqIdentify_path _ _
  · exact reqReset_path _ _
  · exact reqLinkStatus_path _ _
  · exact reqNoticeEnable_path _ _
  · exact reqChannelConfig_path _ _
  · exact reqChannelQuery_path _ _
  · exact reqLevelSet_path _ _
  · exact reqTrimSet_path _ _
  · exact reqMuteSet_path _ _
  · exact reqPairLink_path _ _
  · exact reqGroupSet_path _ _
  · exact reqGroupMembers_path _ _
  · exact reqSetWrite_path _ _
  · exact reqSetRead_path _ _
  · exact reqTaperWrite_path _ _
  · exact reqTaperRead_path _ _
  · exact reqMoveStart_path _ _
  · exact reqMoveCancel_path _ _
  · exact reqMoveQuery_path _ _
  · exact reqClockSource_path _ _
  · exact reqClockRate_path _ _
  · exact reqClockRun_path _ _
  · exact reqClockHold_path _ _
  · exact reqClockStep_path _ _
  · exact reqClockLocate_path _ _
  · exact reqClockQuery_path _ _
  · exact reqCueWrite_path _ _
  · exact reqCueRead_path _ _
  · exact reqCueDelete_path _ _
  · exact reqCueClear_path _ _
  · exact reqGo_path _ _
  · exact reqBack_path _ _
  · exact reqJump_path _ _
  · exact reqPlaybackQuery_path _ _
  · exact reqPlaybackConfig_path _ _
  · exact reqSurfaceConfig_path _ _
  · exact reqBankSet_path _ _
  · exact reqSurfaceQuery_path _ _
  · exact reqCalibrate_path _ _
  · exact reqLatchRelease_path _ _
  · exact reqLaneConfig_path _ _
  · exact reqLaneQuery_path _ _
  · exact reqStop_path _ _
  · exact reqStopClear_path _ _
  · exact reqStopConfig_path _ _
  · exact .refl _

/-! ## A request on an idle link -/

/-- On an idle link the receive queue holds the completed frame alone. -/
theorem enqueue_idle (f : Frame) (s : State) (h : LinkIdle s) :
    updLink (Link.enqueue f) s = updLink (fun k => { k with rxQueue := [f] }) (received s) := by
  have hq := h.queue
  unfold updLink received updLink
  congr 1
  simp [Link.enqueue, Link.count, hq, Config.rxPlaces]

/-- A request on an idle link is carried out on the state that has counted its frame, and its reply begins
to be sent. -/
theorem submitFrame_idle (f : Frame) (s : State) (h : LinkIdle s) (hp : f.payload.length ≤ 1024) :
    submitFrame f s = answered f s := by
  have hh : s.link.held = false := h.released
  have hr : s.link.reply = none := h.reply
  have ht : s.link.tx = none := h.tx
  have hq : s.link.rxQueue = [] := h.queue
  have e1 : (updLink (fun k => { k with rxQueue := [] })
      (updLink (fun k => { k with rxQueue := [f] }) (received s))) = received s := by
    unfold received updLink Link.count
    simp [hq]
  have d1 : dispatchHead (updLink (fun k => { k with rxQueue := [f] }) (received s))
      = carryOut f (received s) := by
    unfold dispatchHead
    rw [if_neg (by simp [received, Link.count, hh, hr])]
    simp only [updLink_link]
    rw [e1]
  have p := serve_path f (received s)
  have ph : (serve f (received s)).1.link.held = false := by rw [p.held]; exact hh
  have pr : (serve f (received s)).1.link.reply = none := by rw [p.reply]; exact hr
  have pt : (serve f (received s)).1.link.tx = none := by rw [p.tx]; exact ht
  have pq : (serve f (received s)).1.link.rxQueue = [] := by
    rcases p.queue with e | e
    · rw [e]; exact hq
    · exact e
  have c1 : choose (carryOut f (received s)) = answered f s := by
    unfold choose carryOut answered sending
    rw [if_neg (by simp [ph, pt])]
    unfold updLink Link.choose
    simp [pr]
  have d2 : dispatchHead (answered f s) = answered f s := by
    unfold dispatchHead
    rw [if_neg (by simp [answered, sending, ph, pr])]
    simp [answered, sending, pq]
  unfold submitFrame
  rw [if_neg (by simp [hh]), if_neg (by omega)]
  unfold completeRequest pump
  rw [enqueue_idle f s h, d1, c1, d2]

end Sys2Proof.Machine
end

