-- ==== Sys2Proof/Laws/PerInstr.lean ====
section
/-! SUPPORT. A statement made of every command by itself, with its lemma for each constructor: the frame that a
well-formed request command stands for is one the control link can carry (R182). -/

namespace Sys2Proof.Laws.WellFormedFits

open Sys2Proof Sys2Proof.Machine

/-- The frame a well-formed command stands for has a payload that LENGTH can count (R182). -/
def Statement (i : Instr) : Prop :=
  wellFormed i = true → ∀ f : Frame, frameOfCommand i = some f → f.payload.length ≤ 1024

/-- A payload that fits is the payload of the frame made of it. -/
theorem payload_le {ty tag : Byte} {p : List Byte} {f : Frame} (h : fitsFrame p = true)
    (hf : some (Frame.mk ty tag p) = some f) : f.payload.length ≤ 1024 := by
  cases hf; exact of_decide_eq_true h

theorem identify (tag : Byte) (payload : List Byte) : Statement (.identify tag payload) :=
  fun h _ hf => payload_le h hf

theorem reset (tag : Byte) (payload : List Byte) : Statement (.reset tag payload) :=
  fun h _ hf => payload_le h hf

theorem linkStatus (tag : Byte) (payload : List Byte) : Statement (.linkStatus tag payload) :=
  fun h _ hf => payload_le h hf

theorem noticeEnable (tag : Byte) (payload : List Byte) : Statement (.noticeEnable tag payload) :=
  fun h _ hf => payload_le h hf

theorem badType (code tag : Byte) (payload : List Byte) : Statement (.badType code tag payload) :=
  fun h _ hf => payload_le (Bool.and_eq_true_iff.mp h).1 hf

theorem channelConfig (tag : Byte) (payload : List Byte) : Statement (.channelConfig tag payload) :=
  fun h _ hf => payload_le h hf

theorem channelQuery (tag : Byte) (payload : List Byte) : Statement (.channelQuery tag payload) :=
  fun h _ hf => payload_le h hf

theorem levelSet (tag : Byte) (payload : List Byte) : Statement (.levelSet tag payload) :=
  fun h _ hf => payload_le h hf

theorem trimSet (tag : Byte) (payload : List Byte) : Statement (.trimSet tag payload) :=
  fun h _ hf => payload_le h hf

theorem muteSet (tag : Byte) (payload : List Byte) : Statement (.muteSet tag payload) :=
  fun h _ hf => payload_le h hf

theorem pairLink (tag : Byte) (payload : List Byte) : Statement (.pairLink tag payload) :=
  fun h _ hf => payload_le (Bool.and_eq_true_iff.mp h).1 hf

theorem pairUnlink (tag : Byte) (payload : List Byte) : Statement (.pairUnlink tag payload) :=
  fun h _ hf => payload_le (Bool.and_eq_true_iff.mp h).1 hf

theorem groupSet (tag : Byte) (payload : List Byte) : Statement (.groupSet tag payload) :=
  fun h _ hf => payload_le h hf

theorem groupMembers (tag : Byte) (payload : List Byte) : Statement (.groupMembers tag payload) :=
  fun h _ hf => payload_le h hf

theorem setWrite (tag : Byte) (payload : List Byte) : Statement (.setWrite tag payload) :=
  fun h _ hf => payload_le h hf

theorem setRead (tag : Byte) (payload : List Byte) : Statement (.setRead tag payload) :=
  fun h _ hf => payload_le h hf

theorem taperWrite (tag : Byte) (payload : List Byte) : Statement (.taperWrite tag payload) :=
  fun h _ hf => payload_le h hf

theorem taperRead (tag : Byte) (payload : List Byte) : Statement (.taperRead tag payload) :=
  fun h _ hf => payload_le h hf

theorem moveStart (tag : Byte) (payload : List Byte) : Statement (.moveStart tag payload) :=
  fun h _ hf => payload_le h hf

theorem moveCancel (tag : Byte) (payload : List Byte) : Statement (.moveCancel tag payload) :=
  fun h _ hf => payload_le h hf

theorem moveQuery (tag : Byte) (payload : List Byte) : Statement (.moveQuery tag payload) :=
  fun h _ hf => payload_le h hf

theorem clockSource (tag : Byte) (payload : List Byte) : Statement (.clockSource tag payload) :=
  fun h _ hf => payload_le h hf

theorem clockRate (tag : Byte) (payload : List Byte) : Statement (.clockRate tag payload) :=
  fun h _ hf => payload_le h hf

theorem clockRun (tag : Byte) (payload : List Byte) : Statement (.clockRun tag payload) :=
  fun h _ hf => payload_le h hf

theorem clockHold (tag : Byte) (payload : List Byte) : Statement (.clockHold tag payload) :=
  fun h _ hf => payload_le h hf

theorem clockStep (tag : Byte) (payload : List Byte) : Statement (.clockStep tag payload) :=
  fun h _ hf => payload_le h hf

theorem clockLocate (tag : Byte) (payload : List Byte) : Statement (.clockLocate tag payload) :=
  fun h _ hf => payload_le h hf

theorem clockQuery (tag : Byte) (payload : List Byte) : Statement (.clockQuery tag payload) :=
  fun h _ hf => payload_le h hf

theorem cueWrite (tag : Byte) (payload : List Byte) : Statement (.cueWrite tag payload) :=
  fun h _ hf => payload_le h hf

theorem cueRead (tag : Byte) (payload : List Byte) : Statement (.cueRead tag payload) :=
  fun h _ hf => payload_le h hf

theorem cueDelete (tag : Byte) (payload : List Byte) : Statement (.cueDelete tag payload) :=
  fun h _ hf => payload_le h hf

theorem cueClear (tag : Byte) (payload : List Byte) : Statement (.cueClear tag payload) :=
  fun h _ hf => payload_le h hf

theorem go (tag : Byte) (payload : List Byte) : Statement (.go tag payload) :=
  fun h _ hf => payload_le h hf

theorem back (tag : Byte) (payload : List Byte) : Statement (.back tag payload) :=
  fun h _ hf => payload_le h hf

theorem jump (tag : Byte) (payload : List Byte) : Statement (.jump tag payload) :=
  fun h _ hf => payload_le h hf

theorem playbackQuery (tag : Byte) (payload : List Byte) : Statement (.playbackQuery tag payload) :=
  fun h _ hf => payload_le h hf

theorem playbackConfig (tag : Byte) (payload : List Byte) : Statement (.playbackConfig tag payload) :=
  fun h _ hf => payload_le h hf

theorem surfaceConfig (tag : Byte) (payload : List Byte) : Statement (.surfaceConfig tag payload) :=
  fun h _ hf => payload_le h hf

theorem bankSet (tag : Byte) (payload : List Byte) : Statement (.bankSet tag payload) :=
  fun h _ hf => payload_le h hf

theorem surfaceQuery (tag : Byte) (payload : List Byte) : Statement (.surfaceQuery tag payload) :=
  fun h _ hf => payload_le h hf

theorem calibrate (tag : Byte) (payload : List Byte) : Statement (.calibrate tag payload) :=
  fun h _ hf => payload_le h hf

theorem latchRelease (tag : Byte) (payload : List Byte) : Statement (.latchRelease tag payload) :=
  fun h _ hf => payload_le h hf

theorem laneConfig (tag : Byte) (payload : List Byte) : Statement (.laneConfig tag payload) :=
  fun h _ hf => payload_le h hf

theorem laneQuery (tag : Byte) (payload : List Byte) : Statement (.laneQuery tag payload) :=
  fun h _ hf => payload_le h hf

theorem stop (tag : Byte) (payload : List Byte) : Statement (.stop tag payload) :=
  fun h _ hf => payload_le h hf

theorem stopClear (tag : Byte) (payload : List Byte) : Statement (.stopClear tag payload) :=
  fun h _ hf => payload_le h hf

theorem stopConfig (tag : Byte) (payload : List Byte) : Statement (.stopConfig tag payload) :=
  fun h _ hf => payload_le h hf

theorem characterReceived (char : Byte) (stopBit : Bool) : Statement (.characterReceived char stopBit) :=
  fun _ _ hf => nomatch hf

theorem gapTimerExpiry : Statement .gapTimerExpiry :=
  fun _ _ hf => nomatch hf

theorem lineBreak : Statement .lineBreak :=
  fun _ _ hf => nomatch hf

theorem transmitEnd : Statement .transmitEnd :=
  fun _ _ hf => nomatch hf

theorem powerOn (resetIn : Bool) (rate : LineRate) (stopIn readyA readyB : Bool) : Statement (.powerOn resetIn rate stopIn readyA readyB) :=
  fun _ _ hf => nomatch hf

theorem wallMillisecond : Statement .wallMillisecond :=
  fun _ _ hf => nomatch hf

theorem dividerCount : Statement .dividerCount :=
  fun _ _ hf => nomatch hf

theorem syncInEdge (rising : Bool) : Statement (.syncInEdge rising) :=
  fun _ _ hf => nomatch hf

theorem pulseLoss : Statement .pulseLoss :=
  fun _ _ hf => nomatch hf

theorem startEvent (slot : Slot) : Statement (.startEvent slot) :=
  fun _ _ hf => nomatch hf

theorem traversalEnd (slot : Slot) : Statement (.traversalEnd slot) :=
  fun _ _ hf => nomatch hf

theorem endWatchExpiry : Statement .endWatchExpiry :=
  fun _ _ hf => nomatch hf

theorem followExpiry : Statement .followExpiry :=
  fun _ _ hf => nomatch hf

theorem exchangeStart : Statement .exchangeStart :=
  fun _ _ hf => nomatch hf

theorem goodReply (reply : List Byte) : Statement (.goodReply reply) :=
  fun _ _ hf => nomatch hf

theorem replyWindowExpiry : Statement .replyWindowExpiry :=
  fun _ _ hf => nomatch hf

theorem driveTimerExpiry (module : ModuleId) : Statement (.driveTimerExpiry module) :=
  fun _ _ hf => nomatch hf

theorem frameStart : Statement .frameStart :=
  fun _ _ hf => nomatch hf

theorem frameCompletion (lane : LaneId) : Statement (.frameCompletion lane) :=
  fun _ _ hf => nomatch hf

theorem laneReadyEdge (lane : LaneId) (rising : Bool) : Statement (.laneReadyEdge lane rising) :=
  fun _ _ hf => nomatch hf

theorem stopInAsserted : Statement .stopInAsserted :=
  fun _ _ hf => nomatch hf

theorem stopInReleased : Statement .stopInReleased :=
  fun _ _ hf => nomatch hf

theorem lineHighAfterBreak : Statement .lineHighAfterBreak :=
  fun _ _ hf => nomatch hf

theorem resetInReleased : Statement .resetInReleased :=
  fun _ _ hf => nomatch hf

end Sys2Proof.Laws.WellFormedFits
end

