-- ==== Sys2Proof/Tests/Slice0.lean ====
section
/-! SUPPORT. The model's own tests: the well-formedness checks, one step of each command with the result the
manual's worked examples and tables give, and a witness for the hypotheses of each statement. -/

namespace Sys2Proof.Tests

set_option Elab.async false

open Sys2Proof Sys2Proof.Machine

/-! ## Helpers -/

/-- Whether a command ends in a next state with a property. -/
def after (c : Instr) (s : State) (q : State → Bool) : Bool :=
  match exec c s with
  | .next t => q t
  | .fault _ => false
  | .refused _ => false

/-- The payload of the frame being sent. -/
def sent (s : State) : List Byte :=
  match s.link.tx with
  | some w => (w.drop 5).take (w.length - 7)
  | none => []

/-- The part with the channels of a list changed. -/
def withChans (cs : List (Chan × Channel)) (s : State) : State :=
  cs.foldl (fun s x => { s with chans := s.chans.set x.1 x.2 }) s

/-- The part at a show time, with its clock in a state. -/
def clockAt (st : ClockState) (t : Nat) (s : State) : State :=
  { s with clock := { s.clock with state := st, showTime := t } }

/-- A channel at a level, unmuted and fully open. -/
def open_ (level : Int) : Channel := { base := level, cueLevel := level, ownMute := false, atten := 0 }

/-- A LEVEL move of CUE origin on one channel, RUNNING in show time under the DB law and LINEAR. -/
def fade (c : Chan) (firing cue start duration : Nat) : Move :=
  { kind := .level, origin := .cue firing cue, spec := some (.channel c), pending := .chans [c], mode := .abs
    value := -640, law := .db, curve := .linear, timeBase := .showTime, delay := 0, duration := duration
    cycle := false, count := 0, remaining := 1, due := start + duration, phase := .running start, claims := 1
    seq := 0 }

/-- Channel c claimed by a fade in slot k. -/
def fading (c : Chan) (k : Slot) (mv : Move) (start target : Int) (s : State) : State :=
  { s with
    chans := s.chans.set c { open_ start with cueLevel := target, claim := some ⟨k, start, target⟩ }
    moves := s.moves.set k (some mv) }

/-- Chapter 3's example after slot 0 has lost two claims: channel 4 from -1280 q to -640 q, 10000 to 14000. -/
def slotZero (t : Nat) : State := clockAt .running t (fading 4 0 (fade 4 1 12 10000 4000) (-1280) (-640) State.reset)

/-! ## The well-formedness checks (R182, R40, spec 11) -/

/-- A payload one byte longer than a frame may carry. -/
def tooLong : List Byte := List.replicate 1025 0

theorem test_wf_refuses_long_payload : wellFormed (.identify 0 tooLong) = false := by decide +kernel
theorem test_wf_allows_full_payload : wellFormed (.cueWrite 0 (List.replicate 1024 0)) = true := by decide +kernel
theorem test_wf_refuses_long_payload_each :
    ([.reset 0 tooLong, .linkStatus 0 tooLong, .noticeEnable 0 tooLong, .badType 5 0 tooLong, .channelConfig 0 tooLong, .channelQuery 0 tooLong
     , .levelSet 0 tooLong, .trimSet 0 tooLong, .muteSet 0 tooLong, .pairLink 0 tooLong, .groupSet 0 tooLong, .groupMembers 0 tooLong, .setWrite 0 tooLong
     , .setRead 0 tooLong, .taperWrite 0 tooLong, .taperRead 0 tooLong, .moveStart 0 tooLong, .moveCancel 0 tooLong, .moveQuery 0 tooLong
     , .clockSource 0 tooLong, .clockRate 0 tooLong, .clockRun 0 tooLong, .clockHold 0 tooLong, .clockStep 0 tooLong, .clockLocate 0 tooLong
     , .clockQuery 0 tooLong, .cueWrite 0 tooLong, .cueRead 0 tooLong, .cueDelete 0 tooLong, .cueClear 0 tooLong, .go 0 tooLong, .back 0 tooLong, .jump 0 tooLong
     , .playbackQuery 0 tooLong, .playbackConfig 0 tooLong, .surfaceConfig 0 tooLong, .bankSet 0 tooLong, .surfaceQuery 0 tooLong
     , .calibrate 0 tooLong, .latchRelease 0 tooLong, .laneConfig 0 tooLong, .laneQuery 0 tooLong, .stop 0 tooLong, .stopClear 0 tooLong
     , .stopConfig 0 tooLong] : List Instr).all (fun c => !wellFormed c) = true := by decide +kernel
theorem test_wf_refuses_request_as_bad_type : wellFormed (.badType 0x10 0 []) = false := by decide
theorem test_wf_refuses_unlink_as_link : wellFormed (.pairLink 0 [5, 0]) = false := by decide
theorem test_wf_refuses_link_as_unlink : wellFormed (.pairUnlink 0 [5, 1]) = false := by decide
theorem test_wf_refuses_short_reply : wellFormed (.goodReply [0x3C, 1]) = false := by decide

/-! ## The level arithmetic (spec 01, worked tables) -/

theorem test_forward :
    [288, 300, 208, 1024, 12].map (taperForward taperAtPowerOnA) = [-1200, -1170, -1520, 320, -3000] := by decide +kernel
theorem test_inverse :
    [-1920, 0, -1170, -3072, 320, -3001].map (taperInverse taperAtPowerOnA) = [128, 768, 300, 0, 1024, 12] := by
  decide +kernel
theorem test_curves :
    [1024, 2048, 3072].map (fun p => (shape .slowStart p, shape .fastStart p, shape .sCurve p))
      = [(256, 1792, 512), (1024, 3072, 2048), (2304, 3840, 3584)] := by decide +kernel
theorem test_ramp_steps : [10, 50, 250, 1000].map rampStep = [308, 62, 13, 4] := by decide +kernel
theorem test_taper_clamp : laneValue .taper taperAtPowerOnA (-2999) (-3001) 1 = -2999 := by decide +kernel
theorem test_raw_to_position :
    [200, 611, 753].map (rawToPosition ⟨37, 991, .calibrated⟩) = [175, 616, 769] := by decide +kernel
theorem test_position_to_raw : positionToRaw ⟨37, 991, .calibrated⟩ 768 = 753 := by decide +kernel
theorem test_composition :
    let s := { withChans [(3, { open_ (-480) with trim := 64, groups := 0x0A, atten := -308 })] State.reset with
      groups := ((Vector.replicate 8 {}).set 1 ({ offset := -160 } : Group)).set 3 { offset := 96 } }
    (composedLevel s 3, effectiveLevel s 3, ceilingFlag s 3) = (-480, -788, false) := by decide +kernel
theorem test_live_level : liveLevel (slotZero 12000) 4 = -960 := by decide +kernel

/-! ## Requests on the link (spec 11) -/

theorem test_identify :
    after (.identify 7 []) State.reset (fun t => sent t ==
      [0x00, 0x7A, 0x4E, 0x40, 0x0B, 0x01, 64, 0, 8, 0, 32, 0, 48, 0, 0x90, 0x01, 0x00, 0x08, 16, 0, 4, 0]) = true := by
  decide +kernel
theorem test_reply_frame :
    after (.identify 7 []) State.reset (fun t => match t.link.tx with
      | some w => w.take 5 == [0xA5, 24, 0, 0x81, 7] && byteSum ((w.drop 1).take 26) + le16 (w.getD 27 0) (w.getD 28 0) == 65536
      | none => false) = true := by decide +kernel
theorem test_reset :
    after (.reset 7 []) (slotZero 12000) (fun t => decide (t.chans[(4 : Chan)].base = -960 ∧ t.chans[(4 : Chan)].claim = none
      ∧ t.moves[(0 : Slot)] = none ∧ t.clock.showTime = 0 ∧ t.clock.state = .stopped) && sent t == [0x00]) = true := by
  decide +kernel
theorem test_link_status :
    after (.linkStatus 7 [1]) State.reset (fun t => (sent t).take 6 == [0x00, 0, 1, 0, 0, 0] && t.link.stats.received == 0) = true := by
  decide +kernel
theorem test_notice_enable : after (.noticeEnable 7 [0x10, 0x00]) State.reset (fun t => t.link.mask == 16) = true := by decide +kernel
theorem test_notice_enable_bit_nine :
    after (.noticeEnable 7 [0x00, 0x02]) State.reset (fun t => sent t == [0x04] && t.link.mask == 0x1FF) = true := by decide +kernel
theorem test_bad_type : after (.badType 0x05 7 []) State.reset (fun t => sent t == [0x02]) = true := by decide +kernel

/-! ## Requests on channels, pairs, groups, sets and tapers (spec 02, spec 01) -/

theorem test_channel_config_clamps :
    after (.channelConfig 7 [3, 1, 2, 1, 0, 1, 0x2C, 0x01]) State.reset (fun t => sent t == [0x00, 1, 3] && decide (t.chans[(3 : Chan)] =
      { ({} : Channel) with taper := .b, mode := .pickup, policy := .glide, announce := true, ramp := 250 })) = true := by
  decide +kernel
theorem test_channel_query :
    after (.channelQuery 7 [5]) State.reset (fun t => (sent t).take 9 == [0x00, 5, 0, 0x00, 0xF4, 0, 0, 0x00, 0xF4]) = true := by
  decide +kernel
theorem test_level_set :
    after (.levelSet 7 [4, 0x88, 0x13]) (slotZero 12000) (fun t => sent t == [0x00, 1, 4, 0x40, 0x01]
      && decide (t.chans[(4 : Chan)].base = 320 ∧ t.chans[(4 : Chan)].claim = none ∧ t.moves[(0 : Slot)] = none)) = true := by
  decide +kernel
theorem test_level_set_held :
    after (.levelSet 7 [4, 0, 0]) (withChans [(4, { open_ 0 with ownership := .latched })] State.reset)
      (fun t => sent t == [0x08]) = true := by decide +kernel
theorem test_trim_set :
    after (.trimSet 7 [4, 0x18, 0xFC]) State.reset (fun t => sent t == [0x00, 1, 4, 0x00, 0xFD]
      && t.chans[(4 : Chan)].trim == -768) = true := by decide +kernel
theorem test_mute_set :
    after (.muteSet 7 [4, 1]) (withChans [(4, { open_ 0 with ramp := 0 })] State.reset)
      (fun t => decide (t.chans[(4 : Chan)].ownMute = true ∧ t.chans[(4 : Chan)].atten = -3072)) = true := by decide +kernel

/-- Chapter 2's pair 5 before it is linked. -/
def pairFive : State := withChans
  [(10, { open_ (-640) with groups := 2 }),
   (11, { base := -800, trim := 32, ramp := 40, groups := 12, taper := .b, mode := .pickup, policy := .glide, safe := true })]
  State.reset

theorem test_pair_link :
    after (.pairLink 7 [5, 1]) pairFive (fun t => sent t == [0x00, 5, 1] && decide (composedLevel t 10 = -640 ∧ composedLevel t 11 = -768)
      && decide (t.chans[(11 : Chan)] = { open_ (-800) with trim := 32, cueLevel := -3072, atten := -3072, groups := 2 })) = true := by
  decide +kernel
theorem test_pair_unlink :
    after (.pairUnlink 7 [5, 0]) { pairFive with pairLinked := pairFive.pairLinked.set 5 true }
      (fun t => sent t == [0x00, 5, 0] && t.pairLinked[(5 : PairId)] == false) = true := by decide +kernel
theorem test_group_set :
    after (.groupSet 7 [2, 3, 0xEC, 0xFF, 1]) State.reset (fun t => sent t == [0x00, 0, 2, 0xEC, 0xFF, 0xEC, 0xFF, 1, 0, 0, 0, 0, 0, 0, 0]
      && decide (t.groups[(2 : Grp)] = { offset := -20, mute := true })) = true := by decide +kernel
theorem test_group_members :
    after (.groupMembers 7 [2, 0, 1, 9]) { withChans [(9, open_ 0)] State.reset with groups := (Vector.replicate 8 {}).set 2 { mute := true } }
      (fun t => sent t == [0x00, 2, 1, 9] && composedMute t 9) = true := by decide +kernel
theorem test_set_write :
    after (.setWrite 7 [3, 3, 6, 4, 6]) State.reset (fun t => sent t == [0x00, 3, 2] && t.sets[(3 : SetId)] == [4, 6]) = true := by
  decide +kernel
theorem test_set_read :
    after (.setRead 7 [3]) { State.reset with sets := State.reset.sets.set 3 [4, 6] } (fun t => sent t == [0x00, 3, 2, 4, 6]) = true := by
  decide +kernel
theorem test_taper_write_refuses_a_fall :
    after (.taperWrite 7 ([0] ++ List.replicate 64 0 ++ [0xFF, 0xFF])) State.reset
      (fun t => sent t == [0x04] && decide (t.taperA = taperAtPowerOnA)) = true := by decide +kernel
theorem test_taper_read :
    after (.taperRead 7 [1]) State.reset (fun t => (sent t).take 6 == [0x00, 1, 0x00, 0xF4, 0x24, 0xF5] && (sent t).length == 68) = true := by
  decide +kernel

/-! ## The Move Table (spec 03, worked examples) -/

/-- Chapter 3's cycling move before it is asked for: slots 0 and 1 are occupied, channel 20 rests at -480 q. -/
def beforeCycle : State :=
  { withChans [(20, open_ (-480))] State.reset with
    moves := ((Vector.replicate 48 none).set 0 (some (fade 0 1 1 0 9000))).set 1 (some (fade 1 1 1 0 9000)) }

theorem test_move_start_cycle :
    after (.moveStart 7 [17, 0, 0, 20, 60, 0x40, 0xFC, 0, 0, 0, 0xF4, 0x01, 0, 4]) beforeCycle (fun t =>
      sent t == [0x00, 0, 2, 17] && decide (t.chans[(20 : Chan)].claim = some ⟨2, -480, -960⟩ ∧ t.chans[(20 : Chan)].cueLevel = -960)
      && (match t.moves[(2 : Slot)] with
        | some mv => mv.remaining == 4 && mv.due == 500 && decide (mv.phase = .running 0 ∧ mv.origin = .live 17 ∧ mv.curve = .sCurve)
        | none => false)) = true := by decide +kernel
theorem test_move_start_delta_clamped :
    after (.moveStart 7 [17, 0, 0, 20, 1, 0xFF, 0x7F, 0, 0, 0, 0, 0, 0, 0]) beforeCycle (fun t =>
      sent t == [0x00, 1, 2, 17] && t.chans[(20 : Chan)].base == 320 && t.moves[(2 : Slot)].isNone) = true := by decide +kernel
theorem test_move_cancel :
    after (.moveCancel 7 [0]) (slotZero 12000) (fun t => sent t == [0x00, 1] && decide (t.chans[(4 : Chan)].base = -960
      ∧ t.chans[(4 : Chan)].claim = none ∧ t.link.notices = [.moveRetired 0 .level (.cue 1 12) .cancelled])) = true := by decide +kernel
theorem test_move_query_free : after (.moveQuery 7 [3]) State.reset (fun t => sent t == [0x00, 3, 0]) = true := by decide +kernel
theorem test_start_event_steals :
    after (.startEvent 1) { clockAt .running 11000 (fading 5 0 (fade 5 1 12 10000 4000) (-960) (-640) State.reset) with
        moves := ((Vector.replicate 48 none).set 0 (some { fade 5 1 12 10000 4000 with claims := 2 })).set 1
          (some { fade 5 1 12 0 2000 with phase := .delayed, due := 11000, delay := 1000, value := 0, claims := 0 }) }
      (fun t => decide (t.chans[(5 : Chan)] = { open_ (-880) with cueLevel := 0, claim := some ⟨1, -880, 0⟩ })
        && (t.moves[(0 : Slot)].map (·.claims)) == some 1 && (t.moves[(1 : Slot)].map (·.due)) == some 13000) = true := by decide +kernel
theorem test_start_event_in_order_of_creation :
    let later : Move := { fade 5 1 12 0 2000 with phase := .delayed, due := 1000, delay := 1000, timeBase := .wallTime, claims := 0, seq := 1 }
    after (.startEvent 0) { State.reset with
        clock := { ({} : Clock) with wallTime := 1000 }
        moves := ((Vector.replicate 48 none).set 0 (some later)).set 1 (some { later with seq := 0 }) }
      (fun t => decide (t.moves[(0 : Slot)] = some later ∧ t.chans[(5 : Chan)].claim = none)) = true := by decide +kernel
theorem test_traversal_end :
    after (.traversalEnd 0) (slotZero 14000) (fun t => decide (t.chans[(4 : Chan)].base = -640 ∧ t.chans[(4 : Chan)].claim = none
      ∧ t.moves[(0 : Slot)] = none)) = true := by decide +kernel
theorem test_traversal_end_turns :
    after (.traversalEnd 0) (clockAt .running 500 (fading 4 0 { fade 4 1 12 0 500 with cycle := true, count := 4, remaining := 4 }
        (-480) (-960) State.reset)) (fun t => decide (t.chans[(4 : Chan)].claim = some ⟨0, -960, -480⟩)
      && (t.moves[(0 : Slot)].map fun mv => (mv.remaining, mv.due)) == some (3, 1000)) = true := by decide +kernel

/-! ## The Show Clock (spec 04) -/

theorem test_clock_source : after (.clockSource 7 [1, 0, 1]) State.reset (fun t => sent t == [0x00, 1, 1, 1, 1]
    && decide (t.clock.source = .pulse ∧ t.clock.weight = 1 ∧ t.clock.rising = false)) = true := by decide +kernel
theorem test_clock_rate : after (.clockRate 7 [3]) State.reset (fun t => sent t == [0x04]) = true := by decide +kernel
theorem test_clock_run : after (.clockRun 7 []) State.reset (fun t => sent t == [0x00, 1, 0, 0, 0, 0]
    && decide (t.clock.state = .running ∧ t.link.notices = [.clock .request .running .internal 0])) = true := by decide +kernel
theorem test_clock_hold_stopped : after (.clockHold 7 []) State.reset (fun t => sent t == [0x0A]) = true := by decide +kernel
theorem test_clock_step :
    after (.clockStep 7 [0xDC, 0x05]) (clockAt .held 20000 (fading 8 0 (fade 8 1 6 19000 2000) (-960) (-320) State.reset)) (fun t =>
      sent t == [0x00, 0, 3, 0xDC, 0x05, 0xFC, 0x53, 0, 0] && decide (t.chans[(8 : Chan)].base = -320 ∧ t.moves[(0 : Slot)] = none)) = true := by
  decide +kernel
theorem test_clock_step_saturates :
    after (.clockStep 7 [9, 0]) (clockAt .held 4294967290 State.reset) (fun t =>
      sent t == [0x00, 0, 2, 5, 0, 0xFF, 0xFF, 0xFF, 0xFF]) = true := by decide +kernel
theorem test_clock_locate : after (.clockLocate 7 [1, 2, 0, 0]) State.reset (fun t => sent t == [0x00, 0, 1, 2, 0, 0]
    && t.clock.showTime == 513) = true := by decide +kernel
theorem test_clock_query : after (.clockQuery 7 []) State.reset (fun t =>
    sent t == [0x00, 0, 0, 0, 0, 0, 0, 0, 0, 0, 0, 1, 40, 0, 0, 0, 0, 0, 0]) = true := by decide +kernel
theorem test_wall_millisecond :
    after .wallMillisecond (withChans [(4, { open_ (-480) with ownMute := true })] State.reset)
      (fun t => t.chans[(4 : Chan)].atten == -308 && t.clock.wallTime == 1) = true := by decide +kernel
theorem test_divider_count :
    after .dividerCount { State.reset with clock := { ({} : Clock) with state := .running, divisor := 2, divCount := 2 } }
      (fun t => t.clock.showTime == 1 && t.clock.divCount == 0) = true := by decide +kernel

/-- Chapter 4's clock on PULSE at show time 100000, its last edge at wall time 1000. -/
def onPulse (wall : Nat) : State :=
  { State.reset with clock := { ({} : Clock) with
      state := .running, source := .pulse, showTime := 100000, wallTime := wall, lossTimer := some 1000 } }

theorem test_sync_in_edge :
    after (.syncInEdge true) (onPulse 1040) (fun t => t.clock.showTime == 100040 && t.clock.lossTimer == some 1040) = true := by decide +kernel
theorem test_pulse_loss : after .pulseLoss (onPulse 1160) (fun t => decide (t.clock.source = .freewheel)) = true := by decide +kernel
theorem test_pulse_loss_not_yet : after .pulseLoss (onPulse 1159) (fun t => decide (t.clock.source = .pulse)) = true := by decide +kernel

/-! ## The cue list and playback (spec 05, worked example) -/

/-- An action LEVEL, CHANNEL 3, ABS, DB, LINEAR, SHOW, delay 0, ONCE. -/
def toLevel (v : Int) (duration : Nat) : Action :=
  { kind := .level, spec := .channel 3, mode := .abs, value := v, law := .db, curve := .linear, timeBase := .showTime
    delay := 0, duration := duration, cycle := false, count := 0 }

def cueTen : Cue :=
  { number := 10, follow := .afterEnd, wait := 500, loopTarget := 0, loopCount := 0, loopCounter := 0, actions := [toLevel (-320) 1000] }
def cueTwenty : Cue :=
  { number := 20, follow := .afterEnd, wait := 0, loopTarget := 10, loopCount := 2, loopCounter := 2, actions := [toLevel (-960) 1000] }
def cueThirty : Cue :=
  { number := 30, follow := .none, wait := 0, loopTarget := 0, loopCount := 0, loopCounter := 0, actions := [toLevel (-3072) 2000] }

/-- Chapter 5's example at show time 1000. -/
def looped : State :=
  { clockAt .running 1000 (withChans [(3, open_ (-640))] State.reset) with
    play := { ({} : Playback) with store := [cueTen, cueTwenty, cueThirty], standby := some 10 } }

/-- Chapter 5's example at show time 6200: firing 5 of cue 30 runs in slot 0 from -960 q toward OFF. -/
def beforeBack : State :=
  { clockAt .running 6200 (fading 3 0 (fade 3 5 30 6000 2000) (-960) (-3072) State.reset) with
    play := { ({} : Playback) with
      store := [cueTen, cueTwenty, cueThirty], firing := 5
      recalls := [⟨30, 5, [(3, -960, false)], []⟩, ⟨20, 4, [(3, -320, false)], []⟩] } }

theorem test_cue_write :
    after (.cueWrite 7 [10, 0, 2, 0xF4, 0x01, 0, 0, 0, 0, 1, 0, 0, 3, 0, 0xC0, 0xFE, 0, 0, 0, 0xE8, 0x03, 0, 0]) State.reset (fun t =>
      sent t == [0x00, 0, 10, 0, 1, 1, 0, 1, 0] && decide (t.play.store = [cueTen])) = true := by decide +kernel
theorem test_cue_read :
    after (.cueRead 7 [10, 0, 1]) looped (fun t =>
      sent t == [0x00, 20, 0, 2, 0, 0, 0, 10, 0, 2, 1, 2, 0, 0, 3, 0, 0x40, 0xFC, 0, 0, 0, 0xE8, 0x03, 0, 0]) = true := by decide +kernel
theorem test_cue_delete :
    after (.cueDelete 7 [10, 0]) looped (fun t => sent t == [0x00, 20, 0, 2, 0, 2, 0] && t.play.standby == some 20) = true := by decide +kernel
theorem test_cue_clear :
    after (.cueClear 7 []) { looped with play := { looped.play with follow := some 9000 } }
      (fun t => sent t == [0x00] && t.play.store.isEmpty && t.play.standby.isNone && t.play.follow.isNone) = true := by decide +kernel
theorem test_go :
    after (.go 7 []) looped (fun t => sent t == [0x00, 10, 0, 1, 0, 0, 20, 0]
      && decide (t.chans[(3 : Chan)].claim = some ⟨0, -640, -320⟩ ∧ t.play.endWatch = some ⟨1, 1, 500⟩
        ∧ t.play.recalls = [⟨10, 1, [(3, -640, false)], []⟩])) = true := by decide +kernel
theorem test_follow_expiry_loops :
    after .followExpiry { looped with
        clock := { looped.clock with showTime := 2500 }
        play := { looped.play with follow := some 2500, standby := some 20, firing := 1 } }
      (fun t => t.play.standby == some 10 && t.play.firing == 2 && (t.play.store.map (·.loopCounter)) == [0, 1, 0]
        && decide (t.play.endWatch = some ⟨2, 1, 0⟩)) = true := by decide +kernel
theorem test_end_of_fade_arms_follow :
    after (.traversalEnd 0) { clockAt .running 2000 (fading 3 0 (fade 3 1 10 1000 1000) (-640) (-320) State.reset) with
        play := { looped.play with endWatch := some ⟨1, 1, 500⟩ } }
      (fun t => t.chans[(3 : Chan)].base == -320 && t.play.follow == some 2500 && t.play.endWatch.isNone) = true := by decide +kernel
theorem test_end_watch_expiry :
    after .endWatchExpiry { looped with play := { looped.play with endWatch := some ⟨1, 0, 500⟩ } }
      (fun t => t.play.follow == some 1500 && t.play.endWatch.isNone) = true := by decide +kernel
theorem test_back :
    after (.back 7 []) beforeBack (fun t => sent t == [0x00, 30, 0, 5, 0, 0, 30, 0]
      && decide (t.chans[(3 : Chan)].claim = some ⟨0, -1170, -960⟩ ∧ t.play.standby = some 30 ∧ t.play.recalls.length = 1)
      && liveLevel (clockAt .running 7000 t) 3 == -1087) = true := by
  decide +kernel

/-- The slots of the MOVE RETIRED notices that wait to be sent. -/
def retiredSlots (s : State) : List Slot := s.link.notices.filterMap Notice.retiredSlot

/-- R71: BACK with back time 0 cancels the firing's moves of slots 3 and 5, and its own LEVEL move jumps in slot 0. -/
theorem test_back_retires_in_slot_order :
    after (.back 7 []) { clockAt .running 6200 (fading 9 5 (fade 9 5 30 6000 2000) (-960) (-3072)
        (fading 3 3 (fade 3 5 30 6000 2000) (-960) (-3072) State.reset)) with
        play := { beforeBack.play with backTime := 0 } }
      (fun t => retiredSlots t == [0, 3, 5]) = true := by decide +kernel
/-- R71, R113: the first action steals from slot 6, the second from slot 2; both notices stand before CUE FIRED. -/
theorem test_go_retires_in_slot_order :
    after (.go 7 []) { clockAt .running 1000 (fading 9 2 (fade 9 8 40 500 2000) (-960) (-3072)
        (fading 3 6 (fade 3 8 40 500 2000) (-960) (-3072) State.reset)) with
        play := { looped.play with
          store := [{ cueTen with actions := [toLevel (-320) 1000, { toLevel (-320) 1000 with spec := .channel 9 }] }] } }
      (fun t => retiredSlots t == [2, 6] && decide (t.link.notices.length = 3)
        && (t.link.notices.getLast?.map Notice.bit) == some 1) = true := by decide +kernel
theorem test_jump : after (.jump 7 [30, 0]) { looped with play := { looped.play with follow := some 9000 } }
    (fun t => sent t == [0x00, 30, 0] && t.play.follow.isNone && t.play.standby == some 30) = true := by decide +kernel
theorem test_playback_config :
    after (.playbackConfig 7 [0x60, 0xAE, 0x0A]) State.reset (fun t => sent t == [0x00, 1, 0xC0, 0x27, 0x09]
      && t.play.backTime == 600000) = true := by decide +kernel
theorem test_playback_query :
    after (.playbackQuery 7 []) looped (fun t => sent t == [0x00, 10, 0, 0, 0, 0, 0, 0, 0, 0, 0, 0, 0, 0, 0, 0, 0, 0, 0, 0, 0, 0
      , 0xD0, 0x07, 0, 3, 0, 3, 0]) = true := by decide +kernel

/-! ## The surface, calibration and takeover (spec 06 to 08, worked examples) -/

/-- Chapter 6's strip (1, 2) with module 1 ONLINE and channel 10 at 0 q. -/
def found (t : Strip) : State :=
  let s := withChans [(10, open_ 0)] State.reset
  { s with surf := { s.surf with
      nextPoll := 1
      modules := s.surf.modules.set 1 { online := true }
      strips := s.surf.strips.set 10 { t with binding := some 10, cal := ⟨37, 991, .calibrated⟩ } } }

/-- The bytes of module 1's reply in which strip (1, 2) reports a raw value and a touch. -/
def replyOf (raw : Nat) (touch : Bool) : List Byte :=
  replyFrame 1 ((List.replicate 2 ⟨0, false, false⟩) ++ [⟨raw, touch, false⟩] ++ List.replicate 5 ⟨0, false, false⟩)

def polling (t : Strip) : State :=
  { found t with surf := { (found t).surf with exchange := some ⟨1, .none, []⟩ } }

theorem test_surface_config :
    after (.surfaceConfig 7 [2, 2, 40, 0xE8, 0x03]) State.reset (fun t => sent t == [0x00, 1, 2, 2, 32, 0xE8, 0x03]
      && decide (t.surf.strips[(15 : StripId)].binding = some 15 ∧ t.surf.strips[(16 : StripId)].binding = none)) = true := by decide +kernel
theorem test_bank_set :
    after (.bankSet 7 [8, 0, 4]) State.reset (fun t => sent t == [0x00, 8, 0, 4, 32, 32]
      && decide (t.surf.strips[(10 : StripId)].binding = some 18)) = true := by decide +kernel
theorem test_bank_set_lowest_strip_wins :
    after (.bankSet 7 [0, 0, 2]) State.reset (fun t => sent t == [0x00, 0, 0, 2, 16, 16]
      && decide (t.surf.strips[(16 : StripId)].binding = none)) = true := by decide +kernel
theorem test_surface_query :
    after (.surfaceQuery 7 []) State.reset (fun t => (sent t).take 14 == [0x00, 4, 2, 4, 0xE8, 0x03, 0, 0, 4, 0, 0, 0, 0, 0]) = true := by
  decide +kernel
theorem test_exchange_start :
    after .exchangeStart (found { lastPos := 175 }) (fun t => decide (t.surf.strips[(10 : StripId)].motorTarget = 753
      ∧ t.surf.strips[(10 : StripId)].drive = true ∧ t.surf.nextPoll = 2)) = true := by decide +kernel
theorem test_exchange_start_held :
    after .exchangeStart { found {} with link := { ({} : Link) with held := true } }
      (fun t => decide (t.surf.exchange = none ∧ t.surf.nextPoll = 1)) = true := by decide +kernel
theorem test_good_reply_arms :
    after (.goodReply (replyOf 200 false)) (polling {}) (fun t => decide (t.surf.strips[(10 : StripId)].lastPos = 175
      ∧ t.surf.strips[(10 : StripId)].armed = true)) = true := by decide +kernel
theorem test_good_reply_touches :
    after (.goodReply (replyOf 753 true)) (polling { lastPos := 769, armed := true, counter := 1 }) (fun t =>
      decide (t.chans[(10 : Chan)].ownership = .touched ∧ t.chans[(10 : Chan)].base = 1 ∧ t.surf.strips[(10 : StripId)].counter = 0)) = true := by
  decide +kernel
theorem test_third_miss :
    after .replyWindowExpiry { polling {} with surf := { (polling {}).surf with
        modules := (polling {}).surf.modules.set 1 { online := true, misses := 2, totalMisses := 8 } } }
      (fun t => decide (t.surf.modules[(1 : ModuleId)].online = false ∧ t.surf.modules[(1 : ModuleId)].totalMisses = 9)) = true := by
  decide +kernel
theorem test_calibrate :
    after (.calibrate 7 [1]) { found { touch := true, armed := true } with
        chans := (found {}).chans.set 10 { open_ 0 with ownership := .touched } }
      (fun t => sent t == [0x01, 1] && decide (t.surf.modules[(1 : ModuleId)].phase = .driveLow ∧ t.chans[(10 : Chan)].ownership = .auto
        ∧ t.surf.strips[(10 : StripId)].armed = false)) = true := by decide +kernel
theorem test_drive_timer_expiry :
    after (.driveTimerExpiry 2) { State.reset with
        clock := { ({} : Clock) with wallTime := 1403 }
        surf := { ({} : Surface) with modules := (Vector.replicate 4 {}).set 2 { online := true, phase := .driveLow, driveTimer := some 1003 } } }
      (fun t => decide (t.surf.modules[(2 : ModuleId)].phase = .sampleLow)) = true := by decide +kernel
theorem test_judgement :
    [(31, 985), (118, 990), (60, 870), (95, 901), (99, 898), (512, 530)].map (fun x => judgeStrip x.1 x.2)
      = [true, false, false, true, false, false] := by decide +kernel

/-- Chapter 7's latched pair 8 after the cue start. -/
def latchedPair : State :=
  { withChans [(16, { open_ (-576) with cueLevel := -320, ownership := .latched, mode := .latch, policy := .glide }),
      (17, { open_ (-640) with cueLevel := -320, ownership := .latched, mode := .latch, policy := .glide })] State.reset with
    pairLinked := State.reset.pairLinked.set 8 true }

theorem test_latch_release :
    after (.latchRelease 7 [255]) latchedPair (fun t => sent t == [0x00, 1, 1, 0]
      && decide (t.chans[(16 : Chan)].claim = some ⟨0, -576, -320⟩ ∧ t.chans[(17 : Chan)].claim = some ⟨0, -640, -320⟩
        ∧ t.chans[(16 : Chan)].ownership = .auto)) = true := by decide +kernel

/-- Chapter 7's channel 12 in PICKUP below a fade, its fader at a position. -/
def pickingUp (t pos : Nat) : State :=
  let s := clockAt .running t (fading 12 3 (fade 12 1 1 50000 4000) (-1280) (-320) State.reset)
  { s with
    chans := s.chans.set 12 { s.chans[(12 : Chan)] with ownership := .pickup, side := some .below, pickupStrip := some 12, mode := .pickup }
    surf := { s.surf with strips := s.surf.strips.set 12 { binding := some 12, lastPos := pos, touch := true, armed := true } } }

theorem test_pickup_waits : (deliverPosition 12 12 (pickingUp 51008 330)).chans[(12 : Chan)].ownership = .pickup := by decide +kernel
theorem test_pickup_crosses :
    let t := deliverPosition 12 12 (pickingUp 51016 362)
    t.chans[(12 : Chan)].ownership = .touched ∧ t.chans[(12 : Chan)].base = -1015 ∧ t.moves[(3 : Slot)] = none := by decide +kernel

/-! ## The output lanes (spec 09, worked example) -/

/-- Chapter 9's part just before the frame start of wall time 5001. -/
def bringUp : State :=
  { State.reset with
    clock := { ({} : Clock) with wallTime := 5001 }
    lanes := { ({} : Lanes) with nextStart := 5001, pending := some ⟨true, 48, 2, true, true⟩, laneA := { ready := true } } }

theorem test_lane_config : after (.laneConfig 7 [1, 48, 2, 1, 1]) State.reset (fun t => sent t == [0x00, 1, 48, 2, 1, 1]
    && decide (t.lanes.pending = some ⟨true, 48, 2, true, true⟩)) = true := by decide +kernel
theorem test_lane_config_partition : after (.laneConfig 7 [0, 50, 2, 1, 1]) State.reset (fun t => sent t == [0x04]) = true := by decide +kernel
theorem test_frame_start :
    after .frameStart bringUp (fun t => t.lanes.nextStart == 5003 && decide (t.lanes.laneA.state = .sending ∧ t.lanes.laneA.counter = 1
      ∧ t.lanes.laneB.state = .waiting ∧ t.lanes.laneB.inFlight = none)
      && (match t.lanes.laneA.inFlight with
        | some w => w.take 12 == [0x5A, 0, 0, 0, 0, 0, 0, 0, 0, 0, 48, 0] && w.length == 12 + 48 * 3 + 2
        | none => false)) = true := by decide +kernel
theorem test_lane_ready_fall :
    after (.laneReadyEdge .laneB false) { State.reset with lanes := { ({} : Lanes) with
        laneB := { state := .sending, ready := true, inFlight := some [], counter := 2 } } }
      (fun t => decide (t.lanes.laneB.state = .waiting ∧ t.lanes.laneB.fallPending = true ∧ t.lanes.laneB.losses = 1)) = true := by decide +kernel
theorem test_lane_ready_rise :
    after (.laneReadyEdge .laneB true) { State.reset with lanes := { ({} : Lanes) with laneB := { state := .waiting, counter := 2 } } }
      (fun t => decide (t.lanes.laneB.state = .sending ∧ t.lanes.laneB.counter = 0)) = true := by decide +kernel
theorem test_frame_completion :
    after (.frameCompletion .laneB) { State.reset with lanes := { ({} : Lanes) with
        laneB := { state := .waiting, inFlight := some [], counter := 2, fallPending := true, sent := 1, losses := 1 } } }
      (fun t => decide (t.lanes.laneB = { state := .waiting, counter := 2, sent := 2, losses := 1 })) = true := by decide +kernel
theorem test_lane_query : after (.laneQuery 7 []) State.reset (fun t =>
    sent t == [0x00, 0, 32, 1, 0, 0, 0, 0, 0, 0, 0, 0, 1, 0, 0, 0] ++ List.replicate 24 0) = true := by decide +kernel

/-! ## The show stop (spec 10, worked example) -/

/-- Chapter 10's part before the stop: channel 0 announces, channel 5 fades, channel 6 is ramping down. -/
def scene : State :=
  let s := clockAt .running 300000 (fading 5 0 (fade 5 14 3 300000 1000) (-700) 0 State.reset)
  { withChans [(0, { open_ 0 with announce := true }), (6, { open_ 0 with ownMute := true, atten := -1232 })] s with
    play := { ({} : Playback) with endWatch := some ⟨14, 2, 0⟩ } }

theorem test_stop_in :
    after .stopInAsserted scene (fun t => decide (t.stop = ⟨true, true, 50⟩ ∧ t.clock.state = .held ∧ t.play.endWatch = none
      ∧ t.chans[(5 : Chan)].base = -700 ∧ t.moves[(0 : Slot)] = none) && composedMute t 5 && !composedMute t 0
      && rampInForce t 6 == 50 && rampInForce t 0 == 10) = true := by decide +kernel
theorem test_stop_notice :
    after (.stop 7 []) scene (fun t => sent t == [0x00, 1, 0]
      && t.link.notices.getLast? == some (.stop .request true false 1 300000 .held)) = true := by decide +kernel
theorem test_stop_clear_line :
    after (.stopClear 7 []) { State.reset with stop := ⟨true, true, 50⟩ } (fun t => sent t == [0x0A]) = true := by decide +kernel
theorem test_stop_clear :
    after (.stopClear 7 []) { State.reset with stop := ⟨true, false, 50⟩ } (fun t => sent t == [0x00, 0, 0] && !t.stop.active) = true := by
  decide +kernel
theorem test_stop_config :
    after (.stopConfig 7 [0xE9, 0x03]) State.reset (fun t => sent t == [0x00, 1, 0xE8, 0x03, 0, 0] && t.stop.ramp == 1000) = true := by
  decide +kernel
theorem test_stop_in_released :
    after .stopInReleased { State.reset with stop := ⟨true, true, 50⟩ } (fun t => decide (t.stop = ⟨true, false, 50⟩)) = true := by decide +kernel

/-! ## The receiver, the transmitter, power-on (spec 11) -/

/-- The link with its receiver in a state. -/
def receiving (r : Receiver) : State := { State.reset with link := { ({} : Link) with receiver := r } }

/-- CLOCK QUERY with TAG 9: LENGTH 2, TYPE 2Eh; the covered bytes sum to 39h, so CHECK is FFC7h. -/
theorem test_character_completes_frame :
    after (.characterReceived 0xFF true) (receiving (.assembling [2, 0, 0x2E, 9, 0xC7] 0)) (fun t =>
      t.link.stats.received == 1 && decide (t.link.receiver = .hunting) && (sent t).take 2 == [0x00, 0]) = true := by decide +kernel
theorem test_character_bad_check :
    after (.characterReceived 0xFE true) (receiving (.assembling [2, 0, 0x2E, 9, 0xC7] 0)) (fun t =>
      t.link.stats.checksum == 1 && t.link.stats.received == 0 && t.link.tx.isNone) = true := by decide +kernel
theorem test_gap_timer_expiry :
    after .gapTimerExpiry { receiving (.assembling [2] 0) with clock := { ({} : Clock) with wallTime := 6 } }
      (fun t => t.link.stats.timeouts == 1 && decide (t.link.receiver = .hunting)) = true := by decide +kernel
theorem test_gap_timer_expiry_not_yet :
    after .gapTimerExpiry { receiving (.assembling [2] 0) with clock := { ({} : Clock) with wallTime := 5 } }
      (fun t => t.link.stats.timeouts == 0 && decide (t.link.receiver = .assembling [2] 0)) = true := by decide +kernel
theorem test_break : after .lineBreak (receiving (.assembling [2] 0)) (fun t => t.link.stats.breaks == 1
    && decide (t.link.receiver = .broken)) = true := by decide +kernel
theorem test_line_high_after_break : after .lineHighAfterBreak (receiving .broken) (fun t => decide (t.link.receiver = .hunting)) = true := by
  decide +kernel
theorem test_transmit_end_notice :
    after .transmitEnd { State.reset with link := { ({} : Link) with
        tx := some [0], overflow := true, notices := [.clock .go .running .internal 258] } }
      (fun t => sent t == [1, 1, 1, 0, 2, 1, 0, 0] && !t.link.overflow && t.link.notices.isEmpty) = true := by decide +kernel
theorem test_power_on_with_stop_in :
    after (.powerOn false .mbit1 true false true) scene (fun t => sent t == [0, 0, 1, 1, 0, 0, 0, 0, 0, 0]
      && decide (t.stop = ⟨true, true, 50⟩ ∧ t.lanes.laneB.ready = true ∧ t.link.rate = .mbit1)) = true := by decide +kernel
theorem test_power_on_held :
    after (.powerOn true .kbit250 true false false) State.reset (fun t => t.link.tx.isNone && t.link.notices.length == 1) = true := by decide +kernel
theorem test_reset_in_released :
    after .resetInReleased { State.reset with link := { ({} : Link) with held := true, notices := [.stop .powerOn true true 0 0 .stopped] } }
      (fun t => !t.link.held && sent t == [0, 0, 1, 1, 0, 0, 0, 0, 0, 0]) = true := by decide +kernel

/-! ## Witnesses: states and operands that meet the hypotheses of each statement, clause by clause -/

theorem idle_reset : LinkIdle State.reset := ⟨rfl, rfl, rfl, rfl⟩

/-- The part with its link in a given condition. -/
def linked (k : Link) : State := { State.reset with link := k }

/-- The part with every slot occupied but those from n on. -/
def slotsTaken (n : Nat) : State :=
  { State.reset with moves := Vector.ofFn fun k => if k.val < n then some { fade 0 1 1 0 9000 with claims := 0 } else none }

/-- The part in a show stop. -/
def stopped : State := { State.reset with stop := ⟨true, false, 50⟩ }

/-- A request frame and the frame of a reply. -/
def query : Frame := ⟨0x2E, 9, []⟩

theorem test_witness_StepRunsFront : State.reset.pending = [] := rfl
theorem test_witness_RequestAnswered :
    frameOfCommand (.cueWrite 7 (List.replicate 1024 0)) = some ⟨0x30, 7, List.replicate 1024 0⟩ ∧ LinkIdle State.reset
      ∧ (List.replicate 1024 (0 : Byte)).length ≤ 1024 := ⟨rfl, idle_reset, by decide +kernel⟩
theorem test_witness_RequestQueued :
    frameOfCommand (.clockQuery 9 []) = some query
      ∧ (linked { held := true }).link.held = true
      ∧ (State.reset.link.held = false ∧ 1024 < tooLong.length)
      ∧ (let k := (linked { tx := some [0], reply := some query, rxQueue := [query, query, query] }).link
         k.held = false ∧ query.payload.length ≤ 1024 ∧ k.tx.isSome = true ∧ k.reply.isSome = true ∧ k.rxQueue.length < 4)
      ∧ 4 ≤ (linked { tx := some [0], reply := some query, rxQueue := [query, query, query, query] }).link.rxQueue.length
      ∧ (let k := (linked { tx := some [0] }).link
         k.held = false ∧ k.tx.isSome = true ∧ k.reply = none ∧ k.rxQueue = []) := by
  refine ⟨rfl, rfl, ⟨rfl, by decide +kernel⟩, ?_, ?_, ?_⟩ <;> decide +kernel
theorem test_witness_RefusedByFrame :
    frameOfCommand (.badType 5 7 []) = some ⟨5, 7, []⟩ ∧ LinkIdle State.reset ∧ (5 : Byte).toNat ∉ requestCodes
      ∧ frameOfCommand (.setWrite 7 [3, 2, 4]) = some ⟨0x18, 7, [3, 2, 4]⟩ ∧ (0x18 : Byte).toNat ∈ requestCodes
      ∧ lengthFits (0x18 : Byte).toNat [3, 2, 4] = false
      ∧ frameOfCommand (.channelQuery 7 [64]) = some ⟨0x11, 7, [64]⟩ ∧ (0x11 : Byte).toNat ∈ requestCodes
      ∧ lengthFits (0x11 : Byte).toNat [64] = true ∧ ¬ ValuesFit (0x11 : Byte).toNat [64] := by
  have hv : ¬ ∃ c : Chan, ([64] : List Byte) = u8 c.val := by decide +kernel
  refine ⟨rfl, idle_reset, ?_, rfl, ?_, ?_, rfl, ?_, ?_, hv⟩ <;> decide +kernel

/-- Table A at power-on meets R12. -/
theorem taperA_law : TableLaw taperAtPowerOnA := by
  unfold TableLaw InScale; decide +kernel

theorem test_witness_ForwardMapping : TableLaw taperAtPowerOnA ∧ 1023 < 1024 ∧ 1023 ≤ 1024 := ⟨taperA_law, by decide⟩
theorem test_witness_InverseMapping :
    TableLaw taperAtPowerOnA ∧ (-3072 : Int) ≤ taperAtPowerOnA[0]
      ∧ (taperAtPowerOnA[0] < 320 ∧ taperAtPowerOnA[32] ≤ 320)
      ∧ (taperAtPowerOnA[0] < -1170 ∧ -1170 < taperAtPowerOnA[32] ∧ -1170 ≤ taperAtPowerOnA[10]
          ∧ ∀ j : Fin 32, -1170 ≤ taperAtPowerOnA[j.val + 1] → (9 : Fin 32) ≤ j)
      ∧ (∀ i : Fin 33, i < 31 → taperAtPowerOnA[i] < taperAtPowerOnA[(31 : Fin 33)])
      ∧ (taperAtPowerOnA[0] < 320 ∧ 320 ≤ taperAtPowerOnA[32]) := ⟨taperA_law, by decide +kernel⟩
theorem test_witness_ProgressCurves : 0 < 600000 ∧ 600000 ≤ 600000 ∧ 4095 ≤ 4096 ∧ 4096 ≤ 4096 := by decide
theorem test_witness_LaneValue : (0 < 4095 ∧ 4095 < 4096) ∧ InScale (-3072) ∧ InScale 320 ∧ 4096 ≤ 4096 := by
  unfold InScale; decide
theorem test_witness_Composition :
    let loud := withChans [(3, open_ 320)] { State.reset with groups := State.reset.groups.set 1 { offset := -3072 } }
    let hushed := withChans [(3, { open_ 320 with groups := 2 })] { State.reset with groups := State.reset.groups.set 1 { offset := -3072 } }
    let shut := withChans [(3, { open_ 320 with atten := -3072 })] State.reset
    ¬ (liveLevel loud 3 = -3072 ∨ ∃ g : Grp, inGroup loud g 3 = true ∧ liveOffset loud g = -3072)
      ∧ (liveLevel State.reset 3 = -3072)
      ∧ (∃ g : Grp, inGroup hushed g 3 = true ∧ liveOffset hushed g = -3072)
      ∧ (composedLevel shut 3 ≠ -3072 ∧ shut.chans[(3 : Chan)].atten = -3072)
      ∧ (composedLevel loud 3 ≠ -3072 ∧ loud.chans[(3 : Chan)].atten ≠ -3072 ∧ loud.chans[(3 : Chan)].atten ≤ 0)
      ∧ (loud.chans[(3 : Chan)].claim = none ∧ loud.groups[(1 : Grp)].claim = none)
      ∧ ((slotZero 12000).moves[(0 : Slot)].map (·.phase) = some (.running 10000)
        ∧ (slotZero 12000).chans[(4 : Chan)].claim = some ⟨0, -1280, -640⟩)
      ∧ (let s : State := { slotZero 12000 with groups := State.reset.groups.set 7 { claim := some ⟨0, 0, 320⟩ } }
         s.groups[(7 : Grp)].claim = some ⟨0, 0, 320⟩) := by
  decide +kernel
theorem test_witness_MuteRamp :
    0 < 1 ∧ 0 < 1000 ∧ ((-3072 : Int) = -3072 ∨ (-3072 : Int) = 0) ∧ (-3072 : Int) ≤ 0 ∧ (0 : Int) ≤ 0 := by decide
theorem test_witness_ChannelConfig : LinkIdle State.reset ∧ 65535 < 65536 := ⟨idle_reset, by decide⟩
theorem test_witness_LevelSet :
    (LinkIdle latchedPair ∧ ∃ d ∈ unitChans latchedPair 16, Held latchedPair d)
      ∧ LinkIdle State.reset ∧ ∀ d ∈ unitChans State.reset 16, ¬ Held State.reset d := by
  unfold Held; exact ⟨⟨⟨rfl, rfl, rfl, rfl⟩, by decide +kernel⟩, idle_reset, by decide +kernel⟩
theorem test_witness_TrimAndMute : LinkIdle State.reset := idle_reset
theorem test_witness_PairLink :
    (LinkIdle latchedPair ∧ latchedPair.chans[evenOf 8].ownership ≠ .auto)
      ∧ (LinkIdle pairFive ∧ pairFive.chans[evenOf 5].ownership = .auto ∧ pairFive.chans[oddOf 5].ownership = .auto
        ∧ pairFive.pairLinked[(5 : PairId)] = false)
      ∧ ({ pairFive with pairLinked := pairFive.pairLinked.set 5 true } : State).pairLinked[(5 : PairId)] = true := by
  refine ⟨⟨⟨rfl, rfl, rfl, rfl⟩, ?_⟩, ⟨⟨rfl, rfl, rfl, rfl⟩, ?_⟩, ?_⟩ <;> decide +kernel
theorem test_witness_GroupSet : LinkIdle State.reset ∧ 255 < 256 ∧ 3 < 4 ∧ 3 ≤ 3 := ⟨idle_reset, by decide⟩
theorem test_witness_GroupMembers :
    LinkIdle State.reset ∧ allFin 64 ≠ [] ∧ (allFin 64).length ≤ 64 := ⟨idle_reset, by decide +kernel⟩
theorem test_witness_SetsAndTapers :
    let low : Vector Int 33 := taperAtPowerOnA.set 0 (-3073)
    LinkIdle State.reset ∧ (allFin 64).length ≤ 64 ∧ (∀ k : Fin 33, -32768 ≤ low[k] ∧ low[k] ≤ 32767)
      ∧ ¬ TableLaw low ∧ (∀ k : Fin 33, -32768 ≤ taperAtPowerOnA[k] ∧ taperAtPowerOnA[k] ≤ 32767)
      ∧ TableLaw taperAtPowerOnA := by
  unfold TableLaw InScale
  exact ⟨idle_reset, by decide +kernel⟩

/-- An action that fits its record. -/
theorem toLevel_fits (v : Int) (d : Nat) (hv : -32768 ≤ v ∧ v ≤ 32767) (hd : d < 16777216) : ActionFits (toLevel v d) :=
  ⟨rfl, hv, by simp [toLevel], hd, by simp [toLevel], fun h => (nomatch h), fun _ => rfl⟩

theorem test_witness_ActionRecord :
    ActionFits (toLevel (-32768) 16777215)
      ∧ ∃ a, parseAction [5, 3, 7, 0x3F, 0xFF, 0xFF, 0xFF, 0xFF, 0xFF, 1, 0, 0, 255] = some a :=
  ⟨toLevel_fits _ _ (by decide) (by decide), _, rfl⟩

/-- A GROUP action on group 7. -/
def toOffset (duration : Nat) : Action := { toLevel (-20) duration with kind := .group, spec := .group 7 }
/-- A MUTE action on channel 3. -/
def muteThree (delay : Nat) : Action := { toLevel 0 0 with kind := .mute, delay := delay }

theorem toOffset_fits : ActionFits (toOffset 0) := ⟨rfl, by decide, by decide, by decide, by decide, fun h => (nomatch h), fun _ => rfl⟩
theorem muteThree_fits (d : Nat) (h : d < 16777216) : ActionFits (muteThree d) :=
  ⟨rfl, by simp [muteThree, toLevel], h, by simp [muteThree, toLevel], by simp [muteThree, toLevel], fun h => (nomatch h), fun _ => rfl⟩

theorem test_witness_MoveStart :
    (LinkIdle stopped ∧ ActionFits (muteThree 0) ∧ stopped.stop.active = true)
      ∧ (LinkIdle State.reset ∧ State.reset.stop.active = false
        ∧ (moveOf State.reset (.live 17) { muteThree 0 with spec := .set 31 }).pending = .chans [])
      ∧ (LinkIdle (slotsTaken 48) ∧ ActionFits (muteThree 1) ∧ 0 < (clampAction (muteThree 1)).delay
        ∧ (moveOf (slotsTaken 48) (.live 17) (clampAction (muteThree 1))).pending ≠ .chans []
        ∧ ∀ k : Slot, (slotsTaken 48).moves[k] ≠ none)
      ∧ (LinkIdle (slotsTaken 47) ∧ (slotsTaken 47).moves[(47 : Slot)] = none ∧ ∀ j : Slot, j < 47 → (slotsTaken 47).moves[j] ≠ none)
      ∧ ((clampAction (muteThree 0)).kind.isInstant = true ∧ (clampAction (muteThree 0)).delay = 0
        ∧ (moveOf State.reset (.live 17) (clampAction (muteThree 0))).pending ≠ .chans []) := by
  refine ⟨⟨⟨rfl, rfl, rfl, rfl⟩, muteThree_fits 0 (by decide), rfl⟩, ⟨idle_reset, ?_⟩,
    ⟨⟨rfl, rfl, rfl, rfl⟩, muteThree_fits 1 (by decide), ?_⟩, ⟨⟨rfl, rfl, rfl, rfl⟩, ?_⟩, ?_⟩ <;> decide +kernel

/-- Without claims, every claim names a slot that holds a move. -/
theorem occupied_of_unclaimed (s : State) (hc : ∀ c : Chan, s.chans[c].claim = none) (hg : ∀ g : Grp, s.groups[g].claim = none) :
    ClaimsOccupied s :=
  ⟨fun c _ h => (nomatch h.symm.trans (hc c)), fun g _ h => (nomatch h.symm.trans (hg g))⟩

/-- Without claims, and with every claim count 0, the law of claims holds. -/
theorem lawful_of_unclaimed (s : State) (hc : ∀ c : Chan, s.chans[c].claim = none) (hg : ∀ g : Grp, s.groups[g].claim = none)
    (hm : ∀ k : Slot, ∀ mv ∈ s.moves[k], mv.claims = 0) : ClaimLaw s :=
  ⟨fun c _ h => (nomatch h.symm.trans (hc c)), fun g _ h => (nomatch h.symm.trans (hg g)),
    fun k mv h => by
      have a : (allFin 64).filter (fun c => claimIs k s.chans[c].claim) = [] :=
        List.filter_eq_nil_iff.2 fun c _ => by rw [hc c]; simp [claimIs]
      have b : (allFin 8).filter (fun g => claimIs k s.groups[g].claim) = [] :=
        List.filter_eq_nil_iff.2 fun g _ => by rw [hg g]; simp [claimIs]
      rw [hm k mv h, claimCount, a, b]; rfl⟩

theorem slotsTaken_lawful (n : Nat) (h : ∀ k : Slot, ∀ mv ∈ (slotsTaken n).moves[k], mv.claims = 0) : ClaimLaw (slotsTaken n) :=
  lawful_of_unclaimed _ (fun c => by simp [slotsTaken, State.reset]) (fun g => by simp [slotsTaken, State.reset]) h

/-- A LEVEL move with recorded targets on channels 3 and 5, and a GROUP move with one on group 7. -/
def recalled : Move := recordedMove .level (.back 4) (.lanes [(3, -960), (5, 320)]) .db .linear .showTime 2000
def recalledGroup : Move := recordedMove .group (.back 4) (.groupTo 7 (-20)) .db .linear .showTime 2000

theorem test_witness_LevelMoveStart :
    LinkIdle (slotsTaken 47) ∧ ActionFits (toLevel 320 0) ∧ (toLevel 320 0).kind = .level ∧ (toLevel 320 0).delay = 0
      ∧ (slotsTaken 47).stop.active = false ∧ resolveChans (slotsTaken 47) (.live 17) (toLevel 320 0).spec ≠ []
      ∧ (slotsTaken 47).moves[(47 : Slot)] = none ∧ (∀ j : Slot, j < 47 → (slotsTaken 47).moves[j] ≠ none)
      ∧ ClaimLaw (slotsTaken 47)
      ∧ (recalled.pending = .lanes [(3, -960), (5, 320)] ∧ ([((3 : Chan), (-960 : Int)), (5, 320)].map (·.1)).Nodup)
      ∧ (ClaimLaw (slotsTaken 48) ∧ ∀ k : Slot, (slotsTaken 48).moves[k] ≠ none) := by
  refine ⟨⟨rfl, rfl, rfl, rfl⟩, toLevel_fits _ _ (by decide) (by decide), rfl, rfl, rfl, ?_, ?_, ?_,
    slotsTaken_lawful 47 ?_, ⟨rfl, ?_⟩, slotsTaken_lawful 48 ?_, ?_⟩ <;> decide +kernel
theorem test_witness_GroupMoveStart :
    LinkIdle State.reset ∧ ActionFits (toOffset 0) ∧ (toOffset 0).kind = .group ∧ (toOffset 0).spec = .group 7
      ∧ (toOffset 0).delay = 0 ∧ State.reset.stop.active = false ∧ State.reset.moves[(0 : Slot)] = none
      ∧ (∀ j : Slot, j < 0 → State.reset.moves[j] ≠ none) ∧ ClaimsOccupied State.reset
      ∧ recalledGroup.pending = .groupTo 7 (-20) ∧ ClaimsOccupied (slotsTaken 48) ∧ ∀ k : Slot, (slotsTaken 48).moves[k] ≠ none :=
  ⟨idle_reset, toOffset_fits, rfl, rfl, rfl, rfl, by decide +kernel, fun j h => absurd h (by simp),
    occupied_of_unclaimed _ (by decide +kernel) (by decide +kernel), rfl,
    occupied_of_unclaimed _ (by decide +kernel) (by decide +kernel), by decide +kernel⟩
theorem test_witness_MoveCancel :
    (LinkIdle State.reset ∧ (48 : Byte).toNat = 48 ∧ (254 : Byte).toNat = 254 ∧ State.reset.moves[(47 : Slot)] = none)
      ∧ LinkIdle (slotZero 12000) ∧ ∃ mv, (slotZero 12000).moves[(0 : Slot)] = some mv :=
  ⟨⟨idle_reset, by decide +kernel⟩, ⟨rfl, rfl, rfl, rfl⟩, _, rfl⟩

/-- A DELAYED move of a kind on a pending set, due at 500 ms. -/
def dueMove (kind : MoveKind) (p : Pending) : Move :=
  { fade 3 1 1 0 500 with kind := kind, pending := p, phase := .delayed, due := 500, claims := 0 }

/-- A part in which slot 0 holds such a move at show time 500, and one whose slot 1 holds another. -/
def waiting (kind : MoveKind) (p : Pending) : State :=
  { clockAt .running 500 State.reset with moves := State.reset.moves.set 0 (some (dueMove kind p)) }
def waitingToo (kind : MoveKind) (p : Pending) (mv : Move) : State :=
  { waiting kind p with moves := (waiting kind p).moves.set 1 (some mv) }

theorem waiting_move (kind : MoveKind) (p : Pending) : (waiting kind p).moves[(0 : Slot)] = some (dueMove kind p) := rfl
theorem waiting_other (kind : MoveKind) (p : Pending) (j : Slot) (h : j ≠ 0) : (waiting kind p).moves[j] = none := by
  have hj : ¬ 0 = j.val := fun e => h (Fin.ext e.symm)
  simp [waiting, clockAt, State.reset, hj]
theorem waiting_only (kind : MoveKind) (p : Pending) (j : Slot) (other : Move) (hj : j ≠ 0)
    (h : (waiting kind p).moves[j] = some other) : isDue other (waiting kind p) = false :=
  nomatch h.symm.trans (waiting_other kind p j hj)
theorem waiting_lawful (kind : MoveKind) (p : Pending) : ClaimLaw (waiting kind p) := by
  refine lawful_of_unclaimed _ (by simp [waiting, clockAt, State.reset]) (by simp [waiting, clockAt, State.reset]) fun k mv h => ?_
  by_cases hk : k = 0
  · subst hk; cases h; rfl
  · rw [waiting_other kind p k hk] at h; cases h
theorem waiting_units (kind : MoveKind) (p : Pending) : UnitLaw (waiting kind p) :=
  ⟨fun k h => absurd h (by simp [waiting, clockAt, State.reset]), fun c _ => by simp [waiting, clockAt, State.reset]⟩

theorem test_witness_StartEvent :
    (∀ mv, State.reset.moves[(0 : Slot)] = some mv →
        mv.phase ≠ .delayed ∨ isDue mv State.reset = false ∨ mayTake mv.timeBase (.start 0) State.reset = false)
      ∧ (∀ mv, (slotZero 12000).moves[(0 : Slot)] = some mv → mv.phase ≠ .delayed)
      ∧ (∀ (kind : MoveKind) (p : Pending), ClaimLaw (waiting kind p) ∧ UnitLaw (waiting kind p)
        ∧ (waiting kind p).moves[(0 : Slot)] = some (dueMove kind p) ∧ (dueMove kind p).phase = .delayed
        ∧ (dueMove kind p).kind = kind ∧ (dueMove kind p).pending = p
        ∧ ∀ (j : Slot) (other : Move), j ≠ 0 → (waiting kind p).moves[j] = some other → isDue other (waiting kind p) = false)
      ∧ ([(MoveKind.level, Pending.chans [3]), (.group, .group 7), (.unmute, .chans [3]), (.groupMute, .group 7), (.release, .chans [3])].all
        fun x => isDue (dueMove x.1 x.2) (waiting x.1 x.2) && mayTake .showTime (.start 0) (waiting x.1 x.2)) = true
      ∧ [(3 : Chan)].Nodup
      ∧ (∀ c : Chan, (waiting .unmute (.chans [3])).pairLinked[pairOf c] = true →
          (waiting .unmute (.chans [3])).chans[evenOf (pairOf c)].safe = (waiting .unmute (.chans [3])).chans[oddOf (pairOf c)].safe)
      ∧ (let b : Move := { dueMove .level (.chans [3]) with seq := 1 }
         (waitingToo .level (.chans [3]) b).moves[(0 : Slot)] = some (dueMove .level (.chans [3]))
           ∧ (waitingToo .level (.chans [3]) b).moves[(1 : Slot)] = some b ∧ b.origin = .cue 1 1 ∧ (dueMove .level (.chans [3])).seq < b.seq)
      ∧ (let a := dueMove .mute (.chans [3])
         let b : Move := { a with origin := .live 9 }
         let s := waitingToo .mute (.chans [3]) b
         (0 : Slot) < 1 ∧ s.moves[(0 : Slot)] = some a ∧ s.moves[(1 : Slot)] = some b ∧ a.kind.isInstant = true ∧ isDue a s = true
           ∧ lateness a s = lateness b s ∧ earlierOfFiring s 1 0 = false
           ∧ ∀ l : Slot, l ≠ 0 → l ≠ 1 → s.moves[l] = none) := by
  have hn : State.reset.moves[(0 : Slot)] = none := by decide +kernel
  refine ⟨fun _ h => (nomatch h.symm.trans hn), fun mv h => ?_,
    fun kind p => ⟨waiting_lawful kind p, waiting_units kind p, waiting_move kind p, rfl, rfl, rfl, waiting_only kind p⟩,
    ?_, ?_, ?_, ⟨rfl, rfl, rfl, ?_⟩, ?_⟩
  · cases h; simp [fade]
  all_goals decide +kernel

/-- Two moves that jump at show time 500, one of firing 1 in slot 0 and one of LIVE origin in slot 1. -/
def jumpOne : Move := { dueMove .level (.chans [3]) with duration := 0 }
def jumpTwo : Move := { jumpOne with origin := .live 9, pending := .chans [4] }
def jumping : State := { clockAt .running 500 State.reset with moves := (State.reset.moves.set 0 (some jumpOne)).set 1 (some jumpTwo) }

theorem jumping_lawful : ClaimLaw jumping :=
  lawful_of_unclaimed _ (by simp [jumping, clockAt, State.reset]) (by simp [jumping, clockAt, State.reset]) (by decide +kernel)
theorem jumping_units : UnitLaw jumping :=
  ⟨fun k h => absurd h (by simp [jumping, clockAt, State.reset]), fun c _ => by simp [jumping, clockAt, State.reset]⟩

/-- R71: of two jumps of one instant the one in the higher slot waits for the other. -/
theorem test_start_event_jumps_in_slot_order :
    (after (.startEvent 1) jumping (fun t => decide (t.moves[(1 : Slot)] = some jumpTwo ∧ t.chans[(4 : Chan)].cueLevel = -3072))
      && after (.startEvent 0) jumping (fun t => decide (t.moves[(0 : Slot)] = none ∧ t.chans[(3 : Chan)].base = -640))) = true := by
  decide +kernel
theorem test_witness_StartEvent_retirements :
    (ClaimLaw jumping ∧ UnitLaw jumping ∧ jumping.moves[(0 : Slot)] = some jumpOne ∧ jumping.moves[(1 : Slot)] = some jumpTwo
      ∧ RetiresAtStart jumping jumpOne ∧ RetiresAtStart jumping jumpTwo ∧ Unclaimed jumping jumpTwo.pending)
      ∧ (isDue jumpOne jumping = true ∧ lateness jumpOne jumping = lateness jumpTwo jumping ∧ earlierOfFiring jumping 1 0 = false
        ∧ ∀ l : Slot, l ≠ 0 → l ≠ 1 → jumping.moves[l] = none)
      ∧ retiresBefore jumping (.start 0) (.start 1) = true :=
  ⟨⟨jumping_lawful, jumping_units, by decide +kernel, by decide +kernel, .inr (.inl ⟨rfl, rfl⟩), .inr (.inl ⟨rfl, rfl⟩), by
    unfold Unclaimed jumpTwo; decide +kernel⟩, by decide +kernel, by decide +kernel⟩
theorem test_witness_TraversalEnd :
    (∀ mv, State.reset.moves[(0 : Slot)] = some mv →
        mv.phase = .delayed ∨ isDue mv State.reset = false ∨ mayTake mv.timeBase (.finish 0) State.reset = false)
      ∧ (∃ mv, (slotZero 14000).moves[(0 : Slot)] = some mv ∧ mv.phase = .running 10000 ∧ isDue mv (slotZero 14000) = true
        ∧ mayTake mv.timeBase (.finish 0) (slotZero 14000) = true ∧ mv.cycle = false)
      ∧ (∀ j : Slot, j ≠ 0 → (slotZero 14000).moves[j] = none)
      ∧ (let s := clockAt .running 500 (fading 4 0 { fade 4 1 12 0 500 with cycle := true, count := 2, remaining := 2 } 0 1 State.reset)
         ∃ mv, s.moves[(0 : Slot)] = some mv ∧ mv.phase = .running 0 ∧ isDue mv s = true ∧ mayTake mv.timeBase (.finish 0) s = true
           ∧ mv.cycle = true ∧ mv.remaining ≠ 1)
      ∧ (let a := fade 4 1 12 10000 4000
         let s : State := { slotZero 14000 with moves := (slotZero 14000).moves.set 1 (some a) }
         (0 : Slot) < 1 ∧ s.moves[(0 : Slot)] = some a ∧ s.moves[(1 : Slot)] = some a ∧ a.cycle = false ∧ isDue a s = true
           ∧ a.phase ≠ .delayed ∧ (∀ l : Slot, l ≠ 0 → l ≠ 1 → s.moves[l] = none)) := by
  have hn : State.reset.moves[(0 : Slot)] = none := by decide +kernel
  exact ⟨fun _ h => (nomatch h.symm.trans hn), ⟨_, rfl, rfl, by decide +kernel, by decide +kernel, rfl⟩, by decide +kernel,
    ⟨_, rfl, rfl, by decide +kernel, by decide +kernel, rfl, by decide +kernel⟩, by decide +kernel⟩

theorem test_witness_ClockSettings :
    (LinkIdle State.reset ∧ State.reset.clock.source ≠ .pulse)
      ∧ (LinkIdle (onPulse 1159) ∧ (onPulse 1159).clock.source = .pulse ∧ (onPulse 1159).clock.lossTimer = some 1000
        ∧ ¬ 4 * max 1 (min (40 : Byte).toNat 100) ≤ wallSince (onPulse 1159).clock.wallTime 1000
        ∧ 4 * max 1 (min (39 : Byte).toNat 100) ≤ wallSince (onPulse 1159).clock.wallTime 1000)
      ∧ ((8 : Byte).toNat ∈ [1, 2, 4, 8] ∧ (9 : Byte).toNat ∉ [1, 2, 4, 8] ∧ 4294967295 < 4294967296)
      ∧ (State.reset.clock.state = .stopped ∧ (∀ k : Slot, State.reset.moves[k] = none) ∧ State.reset.play.follow = none
        ∧ State.reset.play.endWatch = none)
      ∧ (onPulse 1159).clock.state = .running := by
  refine ⟨⟨idle_reset, ?_⟩, ⟨⟨rfl, rfl, rfl, rfl⟩, ?_⟩, ?_, ?_, ?_⟩ <;> decide +kernel
theorem test_witness_ClockRunHold :
    (LinkIdle stopped ∧ stopped.stop.active = true)
      ∧ (LinkIdle State.reset ∧ State.reset.stop.active = false ∧ State.reset.clock.state ≠ .running
        ∧ State.reset.clock.showTime ≠ 4294967295)
      ∧ (clockAt .held 4294967295 State.reset).clock.showTime = 4294967295
      ∧ [ClockState.stopped, .running, .held, .stepping].all (fun st => decide ((clockAt st 0 State.reset).clock.state = st)) = true := by
  refine ⟨⟨⟨rfl, rfl, rfl, rfl⟩, rfl⟩, ⟨idle_reset, ?_⟩, rfl, ?_⟩ <;> decide +kernel
theorem test_witness_ClockStep :
    (LinkIdle stopped ∧ stopped.stop.active = true ∧ 65535 < 65536)
      ∧ (LinkIdle State.reset ∧ State.reset.stop.active = false ∧ State.reset.clock.state = .stopped)
      ∧ (let s := clockAt .held 4294967295 State.reset
         LinkIdle s ∧ s.stop.active = false ∧ s.clock.state = .held ∧ s.clock.showTime = 4294967295)
      ∧ (let s := clockAt .stepping 4294967294 State.reset
         LinkIdle s ∧ s.stop.active = false ∧ s.clock.state = .stepping ∧ s.clock.showTime < 4294967295) := by
  refine ⟨⟨⟨rfl, rfl, rfl, rfl⟩, rfl, ?_⟩, ⟨idle_reset, rfl, rfl⟩, ⟨⟨rfl, rfl, rfl, rfl⟩, rfl, rfl, rfl⟩,
    ⟨⟨rfl, rfl, rfl, rfl⟩, rfl, rfl, ?_⟩⟩ <;> decide +kernel

/-- The clock RUNNING on a source at the last but one show time. -/
def nearEnd (src : Source) : State :=
  { State.reset with clock := { ({} : Clock) with state := .running, source := src, showTime := 4294967294, divisor := 8, divCount := 8 } }

theorem test_witness_WallMillisecond :
    ¬ (State.reset.clock.state = .running ∧ State.reset.clock.source = .freewheel)
      ∧ (nearEnd .freewheel).clock.state = .running ∧ (nearEnd .freewheel).clock.source = .freewheel
      ∧ (nearEnd .freewheel).clock.showTime < 4294967295 := by decide +kernel
theorem test_witness_ClockEvents :
    ¬ (State.reset.clock.state = .running)
      ∧ ((nearEnd .internal).clock.state = .running ∧ (nearEnd .internal).clock.source = .internal
        ∧ (nearEnd .internal).clock.divisor ≤ (nearEnd .internal).clock.divCount ∧ (nearEnd .internal).clock.showTime < 4294967295)
      ∧ (false ≠ (onPulse 1160).clock.rising)
      ∧ ((onPulse 1160).clock.state = .running ∧ (onPulse 1160).clock.source ≠ .internal
        ∧ (onPulse 1160).clock.showTime + (onPulse 1160).clock.weight < 4294967295)
      ∧ ((onPulse 1160).clock.source = .pulse ∧ (onPulse 1160).clock.lossTimer = some 1000
        ∧ 4 * (onPulse 1160).clock.weight ≤ wallSince (onPulse 1160).clock.wallTime 1000)
      ∧ ¬ 4 * (onPulse 1159).clock.weight ≤ wallSince (onPulse 1159).clock.wallTime 1000 := by decide +kernel

/-- A store in number order whose standby cue is stored meets the law of the store. -/
theorem looped_store : StoreLaw looped.play :=
  ⟨by decide +kernel, by decide +kernel, by decide +kernel, fun n h => by cases h; exact ⟨cueTen, by decide +kernel, rfl⟩⟩

/-- A store of one cue that uses the whole pool. -/
def poolTaken : State :=
  { State.reset with play := { ({} : Playback) with store := [{ cueTen with actions := List.replicate 2048 (toLevel 0 0) }] } }
/-- A store that holds 400 cues. -/
def storeTaken : State :=
  { State.reset with play := { ({} : Playback) with store := (List.range 400).map fun n => { cueTen with number := n + 11, actions := [] } } }

theorem cueTen_fits : CueFits cueTen :=
  ⟨by decide, by decide, by decide, by decide, by decide, fun a h => by
    simp only [cueTen, List.mem_singleton] at h; subst h; exact toLevel_fits _ _ (by decide) (by decide)⟩

theorem test_witness_CueWrite :
    (LinkIdle looped ∧ StoreLaw looped.play ∧ CueFits cueTen)
      ∧ (LinkIdle poolTaken ∧ StoreLaw poolTaken.play
        ∧ 2048 < poolUsed (poolTaken.play.store.filter fun d => d.number != 20) + cueTwenty.actions.length)
      ∧ (LinkIdle storeTaken ∧ StoreLaw storeTaken.play ∧ (∀ d ∈ storeTaken.play.store, d.number ≠ 10)
        ∧ 400 ≤ storeTaken.play.store.length) := by
  refine ⟨⟨⟨rfl, rfl, rfl, rfl⟩, looped_store, cueTen_fits⟩,
    ⟨⟨rfl, rfl, rfl, rfl⟩, ⟨?_, ?_, ?_, fun n h => (nomatch h)⟩, ?_⟩,
    ⟨⟨rfl, rfl, rfl, rfl⟩, ⟨?_, ?_, ?_, fun n h => (nomatch h)⟩, ?_, ?_⟩⟩ <;> decide +kernel
theorem test_witness_CueEdits :
    LinkIdle looped ∧ StoreLaw looped.play ∧ (cueTen ∈ looped.play.store ∧ 0 < cueTen.number ∧ cueTen.number < 65536)
      ∧ (cueTwenty ∈ looped.play.store ∧ (∀ e ∈ looped.play.store, 10 < e.number → cueTwenty.number ≤ e.number) ∧ 10 < cueTwenty.number)
      ∧ (∀ d ∈ looped.play.store, d.number ≤ 30) ∧ (11 ≠ 0 ∧ ∀ d ∈ looped.play.store, d.number ≠ 11) ∧ 16777215 < 16777216 := by
  refine ⟨⟨rfl, rfl, rfl, rfl⟩, looped_store, ?_, ?_, ?_, ?_, ?_⟩ <;> decide +kernel
theorem test_witness_GoFiresStandby :
    (LinkIdle stopped ∧ stopped.stop.active = true) ∧ (LinkIdle State.reset ∧ State.reset.play.standby = none)
      ∧ LinkIdle looped ∧ looped.stop.active = false ∧ standbyCue looped = some cueTen :=
  ⟨⟨⟨rfl, rfl, rfl, rfl⟩, rfl⟩, ⟨idle_reset, rfl⟩, ⟨rfl, rfl, rfl, rfl⟩, rfl, by decide +kernel⟩
theorem test_witness_GoFiresStandby_creations :
    (let s := looped
     (actionMove s (.cue 1 10) (toLevel (-320) 1000)).pending = .chans [3] ∧ (toLevel (-320) 1000).kind = .level
       ∧ s.moves[(0 : Slot)] = none ∧ (∀ j : Slot, ¬ j < 0))
      ∧ ((actionMove (slotsTaken 47) (.cue 1 10) (muteThree 1)).pending ≠ .chans [] ∧ 0 < (muteThree 1).delay
        ∧ (slotsTaken 47).moves[(47 : Slot)] = none ∧ ∀ j : Slot, j < 47 → (slotsTaken 47).moves[j] ≠ none)
      ∧ ((actionMove (slotsTaken 48) (.cue 1 10) (toOffset 0)).pending = .group 7 ∧ (toOffset 0).kind = .group ∧ (toOffset 0).delay = 0
        ∧ ∀ k : Slot, (slotsTaken 48).moves[k] ≠ none)
      ∧ ((actionMove State.reset (.cue 1 10) { muteThree 0 with spec := .set 31 }).pending = .chans []
        ∧ (muteThree 0).kind.isInstant = true ∧ (muteThree 0).delay = 0)
      ∧ ClaimLaw (slotsTaken 47) ∧ ClaimsOccupied (slotsTaken 47) := by
  refine ⟨by decide +kernel, by decide +kernel, by decide +kernel, by decide +kernel, slotsTaken_lawful 47 ?_, ?_⟩
  · decide +kernel
  · exact occupied_of_unclaimed _ (fun c => by simp [slotsTaken, State.reset]) (fun g => by simp [slotsTaken, State.reset])
theorem test_witness_FollowTimers :
    let due : State := { looped with play := { looped.play with follow := some 1000 } }
    let watched : State := { looped with play := { looped.play with endWatch := some ⟨1, 0, 500⟩ } }
    (∀ d, State.reset.play.follow = some d → State.reset.clock.showTime < d)
      ∧ (due.play.follow = some 1000 ∧ 1000 ≤ due.clock.showTime ∧ standbyCue due = some cueTen ∧ due.play.endWatch = none)
      ∧ ({ due with play := { due.play with standby := none } } : State).play.standby = none
      ∧ (watched.play.endWatch = some ⟨1, 0, 500⟩) ∧ ∀ u, State.reset.play.endWatch = some u → u.count ≠ 0 :=
  ⟨fun _ h => (nomatch h), ⟨rfl, by decide +kernel, by decide +kernel, rfl⟩, rfl, rfl, fun _ h => (nomatch h)⟩
theorem test_witness_BackUndoesFiring :
    let r : RecallRecord := ⟨30, 5, [(3, -960, false)], [(1, 0, true)]⟩
    let s : State := { beforeBack with play := { beforeBack.play with recalls := [r] } }
    (LinkIdle stopped ∧ stopped.stop.active = true) ∧ (LinkIdle State.reset ∧ State.reset.play.recalls = [])
      ∧ LinkIdle s ∧ s.stop.active = false ∧ s.play.recalls = r :: []
      ∧ ((3, -960, false) ∈ r.chans ∧ (r.chans.map (·.1)).Nodup ∧ s.chans[(3 : Chan)].safe = false ∧ s.pairLinked[pairOf 3] = false)
      ∧ (∀ e ∈ r.chans, (4 : Chan) ∉ unitChans s e.1) ∧ ((1, 0, true) ∈ r.groups ∧ (r.groups.map (·.1)).Nodup) :=
  ⟨⟨⟨rfl, rfl, rfl, rfl⟩, rfl⟩, ⟨idle_reset, rfl⟩, ⟨rfl, rfl, rfl, rfl⟩, rfl, rfl, by decide +kernel, by decide +kernel, by decide +kernel⟩
theorem test_witness_StateQueries :
    (LinkIdle State.reset ∧ State.reset.moves[(47 : Slot)] = none) ∧ LinkIdle (slotZero 12000)
      ∧ ∃ mv, (slotZero 12000).moves[(0 : Slot)] = some mv ∧ mv.isRecorded = false :=
  ⟨⟨idle_reset, by decide +kernel⟩, ⟨rfl, rfl, rfl, rfl⟩, _, rfl, rfl⟩

theorem test_witness_SurfaceConfig :
    LinkIdle State.reset ∧ (5 < 256 ∧ 4 < 5) ∧ (4 = State.reset.surf.expected ∧ 4 ≤ 4 ∧ 1 ≤ 4)
      ∧ (0 ≠ State.reset.surf.expected ∧ 0 ≤ 4 ∧ 1 ≤ 1) ∧ 65535 < 65536 := ⟨idle_reset, by decide +kernel⟩
/-- R125, R149: a bank change releases the unit of a touched strip; the unit in TOUCHED goes back to AUTO. -/
theorem test_bank_set_releases :
    after (.bankSet 7 [8, 0, 4])
      (let s := found { touch := true, armed := true }
       { s with chans := s.chans.set 10 { s.chans[(10 : Chan)] with ownership := .touched } })
      (fun t => decide (t.chans[(10 : Chan)].ownership = .auto ∧ t.surf.strips[(10 : StripId)].touch = false)) = true := by
  decide +kernel
/-- A strip whose touch turns off may be touched or not, and bound or blank. -/
theorem test_witness_releases :
    (found { touch := true }).surf.strips[(10 : StripId)].touch = true ∧ (found { touch := true }).surf.strips[(10 : StripId)].binding = some 10
      ∧ (∀ i ∈ stripsOf 1, (found {}).surf.strips[i].touch = false)
      ∧ (found {}).surf.modules[(1 : ModuleId)].online = true ∧ State.reset.surf.modules[(1 : ModuleId)].online = false := by
  decide +kernel
theorem test_witness_BankSet : LinkIdle State.reset ∧ 63 < 64 ∧ 63 ≤ 63 ∧ 4 < 5 ∧ 4 ≤ 4 := ⟨idle_reset, by decide⟩
theorem test_witness_CalibrateAndDrive :
    let driving : SurfaceModule := { online := true, phase := .driveHigh, driveTimer := some 0 }
    let busy : State := { found {} with surf := { (found {}).surf with modules := (found {}).surf.modules.set 1 driving } }
    let at400 : State := { busy with clock := { busy.clock with wallTime := 400 } }
    let at399 : State := { busy with clock := { busy.clock with wallTime := 399 } }
    (LinkIdle State.reset ∧ State.reset.surf.expected ≤ (4 : Byte).toNat ∧ (3 : ModuleId).val < State.reset.surf.expected
        ∧ State.reset.surf.modules[(3 : ModuleId)].online = false)
      ∧ (LinkIdle busy ∧ busy.surf.modules[(1 : ModuleId)].online = true ∧ busy.surf.modules[(1 : ModuleId)].phase ≠ .none)
      ∧ (LinkIdle (found {}) ∧ (found {}).surf.modules[(1 : ModuleId)].online = true ∧ (found {}).surf.modules[(1 : ModuleId)].phase = .none)
      ∧ (at400.surf.modules[(1 : ModuleId)].phase = .driveHigh ∧ at400.surf.modules[(1 : ModuleId)].driveTimer = some 0
        ∧ 400 ≤ wallSince at400.clock.wallTime 0 ∧ ¬ 400 ≤ wallSince at399.clock.wallTime 0) :=
  ⟨⟨idle_reset, by decide +kernel⟩, ⟨⟨rfl, rfl, rfl, rfl⟩, by decide +kernel⟩, ⟨⟨rfl, rfl, rfl, rfl⟩, by decide +kernel⟩, by decide +kernel⟩

/-- Chapter 7's latched pair meets the laws of units. -/
theorem latched_units : UnitLaw latchedPair := by
  refine ⟨fun k hk => ?_, ?_⟩
  · have h8 : ∀ k : PairId, latchedPair.pairLinked[k] = true → k = 8 := by decide +kernel
    rw [h8 k hk]; rfl
  · unfold Held; decide +kernel

theorem test_witness_LatchRelease :
    LinkIdle latchedPair ∧ UnitLaw latchedPair ∧ (64 : Byte).toNat = 64 ∧ (254 : Byte).toNat = 254
      ∧ latchedPair.chans[(18 : Chan)].ownership ≠ .latched ∧ latchedPair.chans[(17 : Chan)].ownership = .latched
      ∧ latchedPair.chans[(18 : Chan)].policy ≠ .glide
      ∧ (latchedPair.chans[(17 : Chan)].policy = .glide ∧ rejoinLanes latchedPair 17 ≠ [] ∧ latchedPair.surf.glide ≠ 0)
      ∧ (latchedPair.moves[(0 : Slot)] = none
        ∧ ∀ k : Slot, ({ latchedPair with moves := (slotsTaken 48).moves } : State).moves[k] ≠ none) :=
  ⟨⟨rfl, rfl, rfl, rfl⟩, latched_units, by decide +kernel⟩
theorem test_witness_TouchTakesUnit :
    UnitLaw latchedPair ∧ latchedPair.chans[(17 : Chan)].ownership = .latched
      ∧ (latchedPair.chans[(18 : Chan)].ownership = .auto ∧ latchedPair.chans[(18 : Chan)].mode ≠ .pickup)
      ∧ (let s := withChans [(3, { open_ 0 with ownership := .touched })] State.reset
         s.chans[(3 : Chan)].ownership = .touched ∧ isLinked s 3 = false ∧ s.chans[(3 : Chan)].mode ≠ .latch)
      ∧ (let s := deliverTouch 17 17 latchedPair
         s.chans[(17 : Chan)].ownership = .touched ∧ isLinked s 17 = true ∧ s.chans[(17 : Chan)].mode = .latch)
      ∧ (let s := withChans [(3, { open_ 0 with mode := .pickup })] State.reset
         s.chans[(3 : Chan)].ownership = .auto ∧ s.chans[(3 : Chan)].mode = .pickup
           ∧ taperForward (tableOf s s.chans[(3 : Chan)].taper) s.surf.strips[(3 : StripId)].lastPos ≠ liveLevel s 3)
      ∧ (let s := withChans [(3, { open_ (-3072) with mode := .pickup })] State.reset
         taperForward (tableOf s s.chans[(3 : Chan)].taper) s.surf.strips[(3 : StripId)].lastPos = liveLevel s 3)
      ∧ (UnitLaw (pickingUp 51016 362) ∧ (pickingUp 51016 362).chans[(12 : Chan)].ownership = .pickup
        ∧ (pickingUp 51016 362).chans[(12 : Chan)].pickupStrip = some 12 ∧ (pickingUp 51016 362).chans[(12 : Chan)].side = some .below
        ∧ (let s := pickingUp 51016 362
           liveLevel s 12 ≤ taperForward (tableOf s s.chans[(12 : Chan)].taper) s.surf.strips[(12 : StripId)].lastPos)
        ∧ (let s := pickingUp 51008 330
           ¬ liveLevel s 12 ≤ taperForward (tableOf s s.chans[(12 : Chan)].taper) s.surf.strips[(12 : StripId)].lastPos)
        ∧ (pickingUp 51016 362).chans[(12 : Chan)].pickupStrip ≠ some 13) := by
  have hp : ∀ k : PairId, (pickingUp 51016 362).pairLinked[k] = false := by decide +kernel
  have hh : ∀ c : Chan, ¬ Held (pickingUp 51016 362) c := by unfold Held; decide +kernel
  refine ⟨latched_units, ?_, ?_, ?_, ?_, ?_, ?_,
    ⟨fun k h => absurd (h.symm.trans (hp k)) (by decide), fun c h => absurd h (hh c)⟩, ?_⟩ <;> decide +kernel
theorem test_witness_ExchangeStart :
    ((polling {}).surf.exchange.isSome = true) ∧ ((found {}).surf.begun = false ∧ (found {}).link.held = false)
      ∧ (({ State.reset with surf := { State.reset.surf with begun := true } } : State).surf.begun = true)
      ∧ ((linked { held := true }).link.held = true) ∧ ((found {}).surf.exchange = none ∧ (found {}).clock.wallTime % 2 = 0
      ∧ 0 < (found {}).surf.expected ∧ (found {}).surf.expected ≤ 4
      ∧ (1 : ModuleId).val = (if (found {}).surf.nextPoll < (found {}).surf.expected then (found {}).surf.nextPoll else 0))
      ∧ (onPulse 1159).clock.wallTime % 2 = 1
      ∧ ({ State.reset with surf := { State.reset.surf with expected := 0 } } : State).surf.expected = 0 := by decide +kernel
theorem test_witness_GoodReply :
    let rs : List StripReport := List.replicate 8 ⟨1023, true, true⟩
    State.reset.surf.exchange = none ∧ (linked { held := true }).link.held = true
      ∧ (polling {}).link.held = false ∧ (polling {}).surf.exchange = some ⟨1, .none, []⟩ ∧ rs.length = 8
      ∧ (∀ r ∈ rs, r.raw ≤ 1023) ∧ rs[(7 : Fin 8).val]? = some ⟨1023, true, true⟩
      ∧ (polling {}).surf.modules[(1 : ModuleId)].phase = .none
      ∧ (polling {}).surf.strips[stripAt 1 7].armed = false ∧ (polling {}).surf.strips[stripAt 1 7].cal.state ≠ .failed
      ∧ supplyingStrip (found { touch := true }) 10 = some 10 := by
  decide +kernel
/-- Module 1 in a SAMPLE phase, polled in it, with candidate minima or without. -/
def sampling (phase : CalPhase) (lows : Option (List Nat)) : State :=
  { found {} with surf := { (found {}).surf with
      exchange := some ⟨1, phase, []⟩
      modules := (found {}).surf.modules.set 1 { online := true, phase := phase, candMin := lows } } }

/-- The reports of eight raw values. -/
def reporting (raws : List Nat) : List StripReport := raws.map fun raw => ⟨raw, false, false⟩

/-- The sampled minima at R160's first limit: 100, 101, and 512 for a strip that stands in mid-travel. -/
def sampledLows : List Nat := [100, 101, 50, 512, 0, 99, 100, 100]
/-- The sampled maxima at R160's second and third limits: 900 (900 - 100 = 800), 899, and 530 in mid-travel. -/
def sampledHighs : List Nat := [900, 1000, 899, 530, 1023, 900, 901, 899]

theorem test_witness_GoodReply_sampleLow :
    let s := sampling .sampleLow none
    let rs := reporting sampledLows
    (s.link.held = false ∧ s.surf.exchange = some ⟨1, .sampleLow, []⟩ ∧ rs.length = 8 ∧ ∀ r ∈ rs, r.raw ≤ 1023)
      ∧ (takeStrips 1 rs (answerModule 1 s)).surf.modules[(1 : ModuleId)].phase = .sampleLow
      ∧ after (.goodReply (replyFrame 1 rs)) s (fun t => decide (t.surf.modules[(1 : ModuleId)].phase = .driveHigh
          ∧ t.surf.modules[(1 : ModuleId)].candMin = some sampledLows)) = true := by decide +kernel
/-- R160: a minimum of at most 100 and a maximum of at least 900 pass, 101 and 899 fail, mid-travel fails. -/
theorem test_witness_GoodReply_sampleHigh :
    let s := sampling .sampleHigh (some sampledLows)
    let rs := reporting sampledHighs
    (s.link.held = false ∧ s.surf.exchange = some ⟨1, .sampleHigh, []⟩ ∧ rs.length = 8 ∧ ∀ r ∈ rs, r.raw ≤ 1023)
      ∧ ((takeStrips 1 rs (answerModule 1 s)).surf.modules[(1 : ModuleId)].phase = .sampleHigh
        ∧ (takeStrips 1 rs (answerModule 1 s)).surf.modules[(1 : ModuleId)].candMin = some sampledLows
        ∧ sampledLows.length = 8 ∧ (rs.map (·.raw)).length = 8)
      ∧ after (.goodReply (replyFrame 1 rs)) s (fun t => decide (t.surf.modules[(1 : ModuleId)].phase = .none
          ∧ (stripsOf 1).map (fun i => t.surf.strips[i].cal.state) =
            [.calibrated, .failed, .failed, .failed, .calibrated, .calibrated, .calibrated, .failed]
          ∧ t.surf.strips[(8 : StripId)].cal = ⟨100, 900, .calibrated⟩ ∧ t.surf.strips[(8 : StripId)].lastPos = 1024)) = true := by
  decide +kernel
/-- Entries of positive span, the least and chapter 6's, and one bank's candidates that meet (R122, R126). -/
theorem test_witness_rules_of_strips :
    (⟨511, 512, .calibrated⟩ : CalEntry).min < (⟨511, 512, .calibrated⟩ : CalEntry).max
      ∧ (⟨37, 991, .calibrated⟩ : CalEntry).min < (⟨37, 991, .calibrated⟩ : CalEntry).max
      ∧ ([0, 12, 16, 24, 28] : List StripId).map (bindingOf { ({} : Surface) with offsetB := 4, split := 2 })
        = [some 0, some 12, none, none, some 16]
      ∧ ([3, 4] : List StripId).map (bindingOf { ({} : Surface) with offsetA := 60 }) = [some 63, none]
      ∧ ([23, 24] : List StripId).map (bindingOf { ({} : Surface) with expected := 3 }) = [some 23, none] := by decide +kernel
theorem test_witness_ReplyMiss :
    let twice : SurfaceModule := { online := true, misses := 2 }
    let third : State := { polling {} with surf := { (polling {}).surf with modules := (polling {}).surf.modules.set 1 twice } }
    State.reset.surf.exchange = none ∧ ((polling {}).surf.exchange = some ⟨1, .none, []⟩ ∧ parseReply 1 [] = none)
      ∧ (polling {}).surf.modules[(1 : ModuleId)].misses < 2
      ∧ (third.surf.exchange = some ⟨1, .none, []⟩ ∧ third.surf.modules[(1 : ModuleId)].online = true
        ∧ 2 ≤ third.surf.modules[(1 : ModuleId)].misses) := by decide +kernel
theorem test_witness_LaneInputs :
    let flying : State := { State.reset with lanes := { ({} : Lanes) with laneB := { state := .waiting, inFlight := some [] } } }
    LinkIdle State.reset ∧ ((4 ∈ [1, 2, 4]) ∧ 8 ≤ 56 ∧ 56 ≤ 56 ∧ 56 % 8 = 0) ∧ ¬ 57 ≤ 56
      ∧ (laneOf .laneB State.reset.lanes).inFlight = none ∧ (laneOf .laneB flying.lanes).inFlight ≠ none :=
  ⟨idle_reset, by decide +kernel⟩
theorem test_witness_FrameStart : frameStartDue State.reset = false ∧ frameStartDue bringUp = true ∧ 56 ≤ 64 := by decide +kernel

theorem test_witness_StopEntry :
    (LinkIdle stopped ∧ stopped.stop.active = true) ∧ LinkIdle scene ∧ scene.stop.active = false :=
  ⟨⟨⟨rfl, rfl, rfl, rfl⟩, rfl⟩, ⟨rfl, rfl, rfl, rfl⟩, rfl⟩
theorem test_witness_StopClearConfig :
    (let s : State := { State.reset with stop := ⟨true, true, 50⟩ }
     LinkIdle s ∧ s.stop.active = true ∧ s.stop.line = true)
      ∧ (LinkIdle stopped ∧ stopped.stop.active = true ∧ stopped.stop.line = false)
      ∧ LinkIdle State.reset ∧ State.reset.stop.active = false ∧ 65535 < 65536 :=
  ⟨⟨⟨rfl, rfl, rfl, rfl⟩, rfl, rfl⟩, ⟨⟨rfl, rfl, rfl, rfl⟩, rfl, rfl⟩, idle_reset, rfl, by decide⟩
theorem test_witness_SoftReset : LinkIdle (slotZero 12000) := ⟨rfl, rfl, rfl, rfl⟩
theorem test_witness_LinkSettings :
    LinkIdle State.reset ∧ 1 < (2 : Byte).toNat ∧ 511 < 512 ∧ 512 ≤ 512 ∧ 65535 < 65536 := ⟨idle_reset, by decide⟩
theorem test_witness_Receiver :
    (List.replicate 1024 (0 : Byte)).length ≤ 1024 ∧ (linked { held := true }).link.held = true ∧ (State.reset.link.held = false ∧ State.reset.link.receiver = .hunting)
      ∧ ((receiving (.assembling ((query.wire.drop 1).take 5) 0)).link.receiver = .assembling ((query.wire.drop 1).take 5) 0
        ∧ query.payload.length ≤ 1024 ∧ 5 < query.wire.length - 1 ∧ query.wire[5 + 1]? = some 0xFF)
      ∧ ((receiving (.assembling [3] 0)).link.receiver = .assembling [3] 0 ∧ 1026 < le16 3 4 ∧ le16 1 0 < 2)
      ∧ (u16 (le16 0xC7 0xFE) ≠ query.wire.drop (query.wire.length - 2)
        ∧ (receiving (.assembling ((query.wire.drop 1).take (query.wire.length - 3) ++ [0xC7]) 0)).link.receiver
          = .assembling ((query.wire.drop 1).take (query.wire.length - 3) ++ [0xC7]) 0)
      ∧ State.reset.link.receiver ≠ .broken ∧ (receiving .broken).link.receiver = .broken
      ∧ (5 < (6 + 4294967296 - 0) % 4294967296 ∧ (5 + 4294967296 - 0) % 4294967296 ≤ 5)
      ∧ ∀ taken since, State.reset.link.receiver = .assembling taken since → (0 + 4294967296 - since) % 4294967296 ≤ 5 := by
  refine ⟨List.length_replicate.le, rfl, ⟨rfl, rfl⟩, ⟨rfl, ?_⟩, ⟨rfl, ?_⟩, ⟨?_, rfl⟩, ?_, rfl, ?_, fun taken since h => (nomatch h)⟩ <;> decide +kernel
theorem test_witness_Transmitter :
    let n : Notice := .clock .go .running .internal 0
    State.reset.link.tx = none
      ∧ (let k := (linked { tx := some [0], reply := some query }).link
         k.held = false ∧ k.tx ≠ none ∧ k.reply = some query ∧ k.rxQueue = [])
      ∧ (linked { tx := some [0], reply := some query, rxQueue := [query] }).link.rxQueue = query :: []
      ∧ (let k := (linked { tx := some [0], notices := [n] }).link
         k.held = false ∧ k.tx ≠ none ∧ k.reply = none ∧ k.rxQueue = [] ∧ k.notices = n :: [])
      ∧ (let k := (linked { tx := some [0] }).link
         k.held = false ∧ k.tx ≠ none ∧ k.reply = none ∧ k.rxQueue = [] ∧ k.notices = [])
      ∧ (let k := (linked { held := true, notices := [n] }).link
         k.tx = none ∧ k.reply = none ∧ k.notices = n :: [])
      ∧ (let k := (linked { held := true }).link
         k.tx = none ∧ k.reply = none ∧ k.notices = []) := by decide +kernel
/-- A kind not enabled, a queue with one place left and a full one; a retirement of an instant in hand; and a good reply, its bits 2 to 7 set (R193). -/
theorem test_witness_NoticeQueue :
    let n : Notice := .clock .go .running .internal 0
    let k (m : Nat) : Link := { notices := List.replicate m n }
    ({ mask := 0x01EF } : Link).mask.getLsbD n.bit = false ∧ (k 31).mask.getLsbD n.bit = true
      ∧ (k 31).notices.length < 32 ∧ 32 ≤ (k 32).notices.length
      ∧ (let r : Retirement := ⟨7, fade 4 1 12 0 0, .completed, 0⟩
         ({ instant := some [r.notice] } : Link).instant = some ([r].map Retirement.notice))
      ∧ (let covered : List Byte := [2] ++ (List.replicate 8 [0xFF, 0x03, 0xFD]).flatten
         parseReply 1 ([0x3C] ++ covered ++ u16 (checksum covered)) = some (List.replicate 8 ⟨1023, true, false⟩)) := by decide +kernel

/-! ### Witnesses for the laws: a running fade at its end, with the command that ends it in front -/

/-- Chapter 3's slot 0 at its due time, TRAVERSAL_END in front. -/
def ending : State := { slotZero 14000 with pending := [.traversalEnd 0] }

theorem ending_moves (k : Slot) (mv : Move) (h : ending.moves[k] = some mv) : k = 0 ∧ mv = fade 4 1 12 10000 4000 := by
  have h0 : ∀ k : Slot, k ≠ 0 → ending.moves[k] = none := by decide +kernel
  by_cases hk : k = 0
  · subst hk
    have h1 : ending.moves[(0 : Slot)] = some (fade 4 1 12 10000 4000) := by decide +kernel
    exact ⟨rfl, Option.some.inj (h.symm.trans h1)⟩
  · rw [h0 k hk] at h; cases h

theorem test_witness_LevelsStayInRange : LevelLaw ending ∧ ∃ t, step ending = .next t := by
  refine ⟨⟨?_, ?_, ?_, ?_, fun c h => (nomatch h), fun r h => (nomatch h)⟩, _, rfl⟩
  · unfold ClaimInScale InScale; decide +kernel
  · unfold ClaimInScale InScale; decide +kernel
  · unfold TableLaw InScale; decide +kernel
  · intro k mv h
    obtain ⟨-, rfl⟩ := ending_moves k mv h
    exact ⟨by simp only [fade, ValueInRange, InScale]; decide, trivial⟩
theorem test_witness_ClaimsStayCounted : ClaimLaw ending ∧ ∃ t, step ending = .next t := by
  have hc : ∀ c : Chan, ∀ cl ∈ ending.chans[c].claim, cl.slot = 0 := by decide +kernel
  have hg : ∀ g : Grp, ending.groups[g].claim = none := by decide +kernel
  have h1 : ending.moves[(0 : Slot)] = some (fade 4 1 12 10000 4000) := by decide +kernel
  refine ⟨⟨fun c cl h => ?_, fun g _ h => (nomatch h.symm.trans (hg g)), fun k mv h => ?_⟩, _, rfl⟩
  · have h0 : cl.slot = 0 := hc c cl h
    obtain ⟨k, a, b⟩ := cl
    subst h0
    exact ⟨_, h1, by simp [fade], rfl⟩
  · obtain ⟨rfl, rfl⟩ := ending_moves k mv h
    decide +kernel
theorem test_witness_UnitsStayWhole :
    UnitLaw { latchedPair with pending := [.latchRelease 7 [255]] }
      ∧ ∃ t, step { latchedPair with pending := [.latchRelease 7 [255]] } = .next t := ⟨⟨latched_units.1, latched_units.2⟩, _, rfl⟩
theorem test_witness_StoreStaysOrdered :
    StoreLaw ({ looped with pending := [.go 7 []] } : State).play ∧ ∃ t, step { looped with pending := [.go 7 []] } = .next t :=
  ⟨looped_store, _, rfl⟩
theorem test_witness_StopStaysInForce :
    let s : State := { State.reset with stop := ⟨true, true, 50⟩, pending := [.stopInReleased] }
    StopLaw s ∧ ∃ t, step s = .next t := by
  have hm : ∀ k : Slot, State.reset.moves[k] = none := by decide +kernel
  exact ⟨⟨fun _ k _ h => (nomatch h.symm.trans (hm k)), fun _ => by decide +kernel, fun _ => by decide +kernel, fun _ => ⟨rfl, rfl⟩, fun _ => rfl⟩, _, rfl⟩
/-- Show time may not fall: at a tick of the divider, and where TRANSMIT_END brings a CLOCK QUERY to dispatch. -/
theorem test_witness_ShowTimeKept :
    let tick : State := { clockAt .running 4294967295 State.reset with pending := [.dividerCount] }
    let sent : State := { tick with
      link := { ({} : Link) with tx := some [0], reply := some query, rxQueue := [query] }, pending := [.transmitEnd] }
    (tick.clock.showTime ≤ 4294967295 ∧ typesInReach tick .dividerCount = [])
      ∧ (sent.clock.showTime ≤ 4294967295 ∧ typesInReach sent .transmitEnd = [0x2E])
      ∧ typesInReach (receiving (.assembling ((query.wire.drop 1).take 7) 0)) (.characterReceived 0xFE true) = [0x2E]
      ∧ (∃ t, step tick = .next t) ∧ ∃ t, step sent = .next t :=
  ⟨by decide +kernel, by decide +kernel, by decide +kernel, ⟨_, rfl⟩, _, rfl⟩
theorem test_witness_LinkStaysLawful :
    let s : State := { State.reset with
      link := { ({} : Link) with tx := some [0], reply := some query, rxQueue := [query] }, pending := [.transmitEnd] }
    LinkLaw s.link ∧ ∃ t, step s = .next t :=
  ⟨⟨by decide, by decide, by decide, by decide, fun _ => rfl, fun _ => rfl, fun h => absurd rfl h, fun h => (nomatch h), rfl⟩, _, rfl⟩

end Sys2Proof.Tests
end

section
/-! Proofs about the level arithmetic of spec 01 (R13, R18, R19, R21 to R23) and the mix of a channel (R2 to R8). -/

namespace Sys2Proof.LevelScale

open Sys2Proof Sys2Proof.Machine

/-! ## The taper tables and the forward mapping (R12, R13) -/

@[simp] theorem taperEntry_eq_getElem (t : Vector Int 33) {k : Nat} (h : k < 33) : taperEntry t k = t[k] := by
  simp [taperEntry, h]

/-- R12 on the entries: the table never falls. -/
theorem taperEntry_mono {t : Vector Int 33} (ht : TableLaw t) {j k : Nat} (hjk : j ≤ k) (hk : k ≤ 32) :
    taperEntry t j ≤ taperEntry t k := by
  obtain ⟨-, hmono⟩ := ht
  have h := hmono ⟨j, by omega⟩ ⟨k, by omega⟩ (by simpa using hjk)
  rwa [taperEntry_eq_getElem t (by omega), taperEntry_eq_getElem t (by omega)]

/-- What R13 adds to T[k] inside the segment of a position. -/
def segmentProduct (t : Vector Int 33) (x : Nat) : Int :=
  (taperEntry t (x / 32 + 1) - taperEntry t (x / 32)) * ((x % 32 : Nat) : Int)

theorem taperForward_of_lt (t : Vector Int 33) {x : Nat} (h : x < 1024) :
    taperForward t x = taperEntry t (x / 32) + Int.tdiv (segmentProduct t x) 32 :=
  if_pos h

@[simp] theorem taperForward_top (t : Vector Int 33) : taperForward t 1024 = taperEntry t 32 :=
  if_neg (by decide)

/-- At the ends of the segments the mapping is the table itself. -/
theorem taperForward_node (t : Vector Int 33) {k : Nat} (hk : k ≤ 32) :
    taperForward t (32 * k) = taperEntry t k := by
  rcases Nat.lt_or_eq_of_le hk with hlt | rfl
  · rw [taperForward_of_lt t (by omega), segmentProduct]
    simp
  · exact taperForward_top t

section TableMeetsLaw

variable {t : Vector Int 33} (ht : TableLaw t)
include ht

theorem segmentRise_nonneg {x : Nat} (h : x < 1024) :
    0 ≤ taperEntry t (x / 32 + 1) - taperEntry t (x / 32) :=
  Int.sub_nonneg_of_le (taperEntry_mono ht (Nat.le_succ _) (by omega))

theorem segmentProduct_nonneg {x : Nat} (h : x < 1024) : 0 ≤ segmentProduct t x :=
  Int.mul_nonneg (segmentRise_nonneg ht h) (Int.natCast_nonneg _)

/-- The truncation of R13 is a floor. -/
theorem taperForward_eq_floor {x : Nat} (h : x < 1024) :
    taperForward t x = taperEntry t (x / 32) + segmentProduct t x / 32 := by
  rw [taperForward_of_lt t h, Int.tdiv_eq_ediv_of_nonneg (segmentProduct_nonneg ht h)]

theorem taperEntry_le_taperForward {x : Nat} (h : x < 1024) : taperEntry t (x / 32) ≤ taperForward t x := by
  have hprod := segmentProduct_nonneg ht h
  rw [taperForward_eq_floor ht h]
  omega

theorem taperForward_le_next_taperEntry {x : Nat} (h : x < 1024) :
    taperForward t x ≤ taperEntry t (x / 32 + 1) := by
  have hprod : segmentProduct t x ≤ (taperEntry t (x / 32 + 1) - taperEntry t (x / 32)) * 32 :=
    Int.mul_le_mul_of_nonneg_left (by omega) (segmentRise_nonneg ht h)
  rw [taperForward_eq_floor ht h]
  omega

theorem taperForward_mono_in_segment {x y : Nat} (hxy : x ≤ y) (hy : y < 1024) (hseg : x / 32 = y / 32) :
    taperForward t x ≤ taperForward t y := by
  have hx : x < 1024 := by omega
  have hprod : segmentProduct t x ≤ segmentProduct t y := by
    unfold segmentProduct
    rw [hseg]
    exact Int.mul_le_mul_of_nonneg_left (by omega) (segmentRise_nonneg ht hy)
  rw [taperForward_eq_floor ht hx, taperForward_eq_floor ht hy, hseg]
  omega

/-- Within a segment the product grows; between two segments an entry of the table stands between. -/
theorem taperForward_mono {x y : Nat} (hxy : x ≤ y) (hy : y ≤ 1024) : taperForward t x ≤ taperForward t y := by
  have across {z : Nat} (hx : x < 1024) (hlt : x / 32 < z) (hz : z ≤ 32) : taperForward t x ≤ taperEntry t z :=
    (taperForward_le_next_taperEntry ht hx).trans (taperEntry_mono ht hlt hz)
  rcases Nat.lt_or_eq_of_le hy with hy | rfl
  · rcases Nat.lt_or_eq_of_le (Nat.div_le_div_right (c := 32) hxy) with hlt | hseg
    · exact (across (by omega) hlt (by omega)).trans (taperEntry_le_taperForward ht hy)
    · exact taperForward_mono_in_segment ht hxy hy hseg
  · rcases Nat.lt_or_eq_of_le hxy with hx | rfl
    · exact (across hx (by omega) le_rfl).trans_eq (taperForward_top t).symm
    · exact le_rfl

theorem taperForward_between_ends {x : Nat} (hx : x ≤ 1024) :
    taperEntry t 0 ≤ taperForward t x ∧ taperForward t x ≤ taperEntry t 32 :=
  ⟨(taperForward_node t (Nat.zero_le 32)).symm.trans_le (taperForward_mono ht (Nat.zero_le x) hx),
    (taperForward_mono ht hx le_rfl).trans_eq (taperForward_top t)⟩

end TableMeetsLaw

/-- The product of R13 in the table's own entries. -/
theorem segmentProduct_eq_getElem (t : Vector Int 33) {x : Nat} (h : x < 1024) :
    segmentProduct t x = (t[x / 32 + 1] - t[x / 32]) * ((x % 32 : Nat) : Int) := by
  rw [segmentProduct, taperEntry_eq_getElem t (by omega), taperEntry_eq_getElem t (by omega)]

/-- Settles O6: the formula of R13, then its three consequences for a table that never falls. -/
theorem forwardMapping : Obligations.ForwardMapping := by
  unfold Obligations.ForwardMapping
  refine ⟨fun t x h => ?formula, fun t => ?top, fun t ht =>
    ⟨fun x h => ?product, fun x y hxy hy => taperForward_mono ht hxy hy, fun k => ?nodes, fun x hx => ?ends⟩⟩
  case formula =>
    rw [taperForward_of_lt t h, segmentProduct_eq_getElem t h, taperEntry_eq_getElem t (by omega)]
  case top => simp
  case product =>
    rw [← segmentProduct_eq_getElem t h]
    exact segmentProduct_nonneg ht h
  case nodes => simp [taperForward_node t (Nat.le_of_lt_succ k.isLt)]
  case ends => simpa using taperForward_between_ends ht hx

/-! ## The progress (R18) and the curves (R19) -/

@[simp] theorem progress_zero (e : Nat) : progress e 0 = 4096 := rfl

theorem progress_of_pos (e : Nat) {d : Nat} (hd : 0 < d) : progress e d = min e d * 4096 / d :=
  if_neg (by omega)

theorem progress_of_le {e d : Nat} (h : d ≤ e) : progress e d = 4096 := by
  rcases Nat.eq_zero_or_pos d with rfl | hd
  · rfl
  · rw [progress_of_pos e hd, Nat.min_eq_right h, Nat.mul_div_cancel_left 4096 hd]

theorem progress_mono {e e' : Nat} (d : Nat) (h : e ≤ e') : progress e d ≤ progress e' d := by
  rcases Nat.eq_zero_or_pos d with rfl | hd
  · simp
  · rw [progress_of_pos e hd, progress_of_pos e' hd]
    gcongr

/-- The progress of any instant is at most that of one after the duration. -/
theorem progress_le (e d : Nat) : progress e d ≤ 4096 :=
  (progress_mono d (Nat.le_add_right e d)).trans_eq (progress_of_le (Nat.le_add_left d e))

theorem shape_zero (u : Curve) : shape u 0 = 0 := by
  cases u <;> rfl

theorem shape_full (u : Curve) : shape u 4096 = 4096 := by
  cases u <;> simp [shape]

/-- The parabola of FAST_START rises up to its vertex at 4096. -/
theorem fastStart_product_mono {p q : Nat} (hpq : p ≤ q) (hq : q ≤ 4096) : p * (8192 - p) ≤ q * (8192 - q) := by
  obtain ⟨d, rfl⟩ := Nat.exists_eq_add_of_le hpq
  obtain ⟨r, hr⟩ := Nat.exists_eq_add_of_le (show p + d ≤ 8192 by omega)
  have hright : 8192 - (p + d) = r := by omega
  have hleft : 8192 - p = r + d := by omega
  have hcross : p * d ≤ r * d := Nat.mul_le_mul_right d (by omega)
  rw [hright, hleft, Nat.mul_add, Nat.add_mul, Nat.mul_comm d r]
  omega

/-- The square that either half of S_CURVE is made of. -/
theorem sCurve_square_le {p : Nat} (hp : p ≤ 2048) : p * p / 2048 ≤ 2048 :=
  Nat.div_le_of_le_mul (Nat.mul_le_mul hp hp)

theorem shape_sCurve_low {p : Nat} (hp : p ≤ 2048) : shape .sCurve p = p * p / 2048 :=
  if_pos hp

theorem shape_sCurve_high {p : Nat} (hp : 2048 < p) :
    shape .sCurve p = 4096 - (4096 - p) * (4096 - p) / 2048 :=
  if_neg (by omega)

/-- The lower half rises to 2048, the upper half from there on. -/
theorem shape_sCurve_mono {p q : Nat} (hpq : p ≤ q) (hq : q ≤ 4096) : shape .sCurve p ≤ shape .sCurve q := by
  rcases Nat.lt_or_ge 2048 p with hp | hp
  · rw [shape_sCurve_high hp, shape_sCurve_high (hp.trans_le hpq)]
    gcongr
  · rw [shape_sCurve_low hp]
    rcases Nat.lt_or_ge 2048 q with hq' | hq'
    · have hlow := sCurve_square_le hp
      have hhigh := sCurve_square_le (show 4096 - q ≤ 2048 by omega)
      rw [shape_sCurve_high hq']
      omega
    · rw [shape_sCurve_low hq']
      gcongr

theorem shape_mono (u : Curve) {p q : Nat} (hpq : p ≤ q) (hq : q ≤ 4096) : shape u p ≤ shape u q := by
  cases u with
  | linear => exact hpq
  | slowStart => exact Nat.div_le_div_right (Nat.mul_le_mul hpq hpq)
  | fastStart => exact Nat.div_le_div_right (fastStart_product_mono hpq hq)
  | sCurve => exact shape_sCurve_mono hpq hq

theorem shape_le (u : Curve) {p : Nat} (hp : p ≤ 4096) : shape u p ≤ 4096 :=
  (shape_mono u hp le_rfl).trans_eq (shape_full u)

/-- Settles O8: the progress first, then the curves one by one. -/
theorem progressCurves : Obligations.ProgressCurves := by
  unfold Obligations.ProgressCurves
  refine ⟨progress_zero, fun e d hd => progress_of_pos e hd, progress_le, fun e e' d h => progress_mono d h,
    fun e d h => progress_of_le h, fun e d hd => ?product, fun p _ => ⟨rfl, rfl, rfl, rfl⟩,
    fun u => ⟨shape_zero u, shape_full u⟩, fun u p q hpq hq => ⟨shape_mono u hpq hq, shape_le u hq⟩, rfl⟩
  case product => omega

/-! ## The lane value (R21 to R23) -/

theorem laneValue_db (t : Vector Int 33) (a b : Int) (c : Nat) :
    laneValue .db t a b c = a + Int.tdiv ((b - a) * c) 4096 := rfl

theorem laneValue_taper_zero (t : Vector Int 33) (a b : Int) : laneValue .taper t a b 0 = a := rfl

theorem laneValue_taper_full (t : Vector Int 33) (a b : Int) : laneValue .taper t a b 4096 = b := rfl

theorem laneValue_taper_inside (t : Vector Int 33) (a b : Int) {c : Nat} (h0 : 0 < c) (h1 : c < 4096) :
    laneValue .taper t a b c =
      max (min a b) (min (max a b) (taperForward t
        ((taperInverse t a : Int)
          + Int.tdiv (((taperInverse t b : Int) - taperInverse t a) * c) 4096).toNat)) :=
  (if_neg (by omega)).trans (if_neg (by omega))

/-- Truncation goes toward zero. -/
theorem abs_tdiv_mul_le (n : Int) {d : Int} (hd : 0 ≤ d) : |Int.tdiv n d| * d ≤ |n| := by
  obtain ⟨d, rfl⟩ := Int.eq_ofNat_of_zero_le hd
  rw [Int.abs_eq_natAbs, Int.abs_eq_natAbs, Int.natAbs_tdiv]
  exact_mod_cast Nat.div_mul_le_self n.natAbs d

/-- A part c / 4096 of a distance that is not negative lies between nothing and the whole. -/
theorem tdiv_part_between {n : Int} (hn : 0 ≤ n) {c : Nat} (hc : c ≤ 4096) :
    0 ≤ Int.tdiv (n * c) 4096 ∧ Int.tdiv (n * c) 4096 ≤ n := by
  have hlow : 0 ≤ n * c := Int.mul_nonneg hn (Int.natCast_nonneg c)
  have hhigh : n * c ≤ n * 4096 := Int.mul_le_mul_of_nonneg_left (by omega) hn
  rw [Int.tdiv_eq_ediv_of_nonneg hlow]
  omega

/-- A fall is a rise with the sign turned. -/
theorem laneValue_db_between (t : Vector Int 33) (a b : Int) {c : Nat} (hc : c ≤ 4096) :
    min a b ≤ laneValue .db t a b c ∧ laneValue .db t a b c ≤ max a b := by
  rw [laneValue_db]
  rcases Int.le_total a b with hab | hab
  · have hrise := tdiv_part_between (Int.sub_nonneg_of_le hab) hc
    omega
  · have hfall := tdiv_part_between (Int.sub_nonneg_of_le hab) hc
    rw [← Int.neg_sub a b, Int.neg_mul, Int.neg_tdiv]
    omega

/-- The ends are the law's own; everywhere else R22 clamps. -/
theorem laneValue_taper_between (t : Vector Int 33) (a b : Int) {c : Nat} (hc : c ≤ 4096) :
    min a b ≤ laneValue .taper t a b c ∧ laneValue .taper t a b c ≤ max a b := by
  rcases Nat.eq_zero_or_pos c with rfl | h0
  · rw [laneValue_taper_zero]
    omega
  · rcases Nat.lt_or_eq_of_le hc with h1 | rfl
    · rw [laneValue_taper_inside t a b h0 h1]
      omega
    · rw [laneValue_taper_full]
      omega

theorem laneValue_between (law : Law) (t : Vector Int 33) (a b : Int) {c : Nat} (hc : c ≤ 4096) :
    min a b ≤ laneValue law t a b c ∧ laneValue law t a b c ≤ max a b := by
  cases law with
  | db => exact laneValue_db_between t a b hc
  | taper => exact laneValue_taper_between t a b hc

theorem laneValue_ends (law : Law) (t : Vector Int 33) (a b : Int) :
    laneValue law t a b 0 = a ∧ laneValue law t a b 4096 = b := by
  cases law with
  | db => simp [laneValue_db]
  | taper => exact ⟨laneValue_taper_zero t a b, laneValue_taper_full t a b⟩

/-- Two levels of the scale are at most 3392 q apart. -/
theorem abs_lane_product_le {a b : Int} {c : Nat} (ha : InScale a) (hb : InScale b) (hc : c ≤ 4096) :
    |(b - a) * c| ≤ 3392 * 4096 := by
  obtain ⟨ha0, ha1⟩ := ha
  obtain ⟨hb0, hb1⟩ := hb
  have hdist : |b - a| ≤ 3392 := abs_le.mpr (by omega)
  rw [abs_mul, Nat.abs_cast]
  exact mul_le_mul hdist (by omega) (by omega) (by omega)

/-- Settles O9: the formulas of both laws, then the bounds each law has from truncation or from its clamp. -/
theorem laneValue : Obligations.LaneValue := by
  unfold Obligations.LaneValue
  refine ⟨laneValue_db, fun t a b c h0 h1 => laneValue_taper_inside t a b h0 h1, fun t a b c => ?error,
    fun a b c ha hb hc => abs_lane_product_le ha hb hc, laneValue_ends,
    fun law t a b c hc => laneValue_between law t a b hc⟩
  case error =>
    rw [laneValue_db, add_sub_cancel_left]
    exact abs_tdiv_mul_le _ (by decide)

/-! ## Live levels and offsets (R2, R3) -/

theorem liveLevel_of_unclaimed {s : State} {c : Chan} (h : s.chans[c].claim = none) :
    liveLevel s c = s.chans[c].base := by
  simp only [liveLevel, h]

theorem liveLevel_of_claim {s : State} {c : Chan} {cl : Claim} (h : s.chans[c].claim = some cl) :
    liveLevel s c = claimValue s (tableOf s s.chans[c].taper) cl s.chans[c].base := by
  simp only [liveLevel, h]

theorem liveOffset_of_unclaimed {s : State} {g : Grp} (h : s.groups[g].claim = none) :
    liveOffset s g = s.groups[g].offset := by
  simp only [liveOffset, h]

theorem liveOffset_of_claim {s : State} {g : Grp} {cl : Claim} (h : s.groups[g].claim = some cl) :
    liveOffset s g = claimValue s s.taperA cl s.groups[g].offset := by
  simp only [liveOffset, h]

theorem tableOf_eq_ite (s : State) (sel : TaperSel) :
    tableOf s sel = if sel = .a then s.taperA else s.taperB := by
  cases sel <;> rfl

theorem moveProgress_of_running {mv : Move} {start : Nat} (h : mv.phase = .running start) (s : State) :
    moveProgress mv s = shape mv.curve (progress (elapsedSince mv.timeBase start s) mv.duration) := by
  simp only [moveProgress, h]

theorem claimValue_of_slot {s : State} {cl : Claim} {mv : Move} (h : s.moves[cl.slot] = some mv)
    (t : Vector Int 33) (held : Int) :
    claimValue s t cl held = Machine.laneValue mv.law t cl.start cl.target (moveProgress mv s) := by
  simp only [claimValue, h]

/-! ## The mix of a channel (R5 to R8) -/

theorem mem_groupsOf {s : State} {c : Chan} {g : Grp} : g ∈ groupsOf s c ↔ inGroup s g c = true := by
  simp [groupsOf, allFin]

/-- Some member group, as the lists of the model and as the rules say it. -/
theorem groupsOf_any {s : State} {c : Chan} (P : Grp → Bool) :
    (groupsOf s c).any P = true ↔ ∃ g : Grp, inGroup s g c = true ∧ P g = true := by
  simp only [List.any_eq_true, mem_groupsOf]

theorem groupsOf_sum (s : State) (c : Chan) (f : Grp → Int) :
    ((groupsOf s c).map f).sum = ∑ g ∈ (Finset.univ : Finset Grp).filter (fun g => inGroup s g c = true), f g := by
  have hnodup : (groupsOf s c).Nodup := (List.nodup_finRange 8).filter _
  have hset : (groupsOf s c).toFinset = (Finset.univ : Finset Grp).filter (fun g => inGroup s g c = true) := by
    ext g
    simp [mem_groupsOf]
  rw [← hset, List.sum_toFinset f hnodup]

theorem rawSum_eq (s : State) (c : Chan) :
    rawSum s c = liveLevel s c + s.chans[c].trim
      + ∑ g ∈ (Finset.univ : Finset Grp).filter (fun g => inGroup s g c = true), liveOffset s g := by
  rw [rawSum, groupsOf_sum]

theorem isSilenced_iff (s : State) (c : Chan) :
    isSilenced s c = true ↔
      liveLevel s c = -3072 ∨ ∃ g : Grp, inGroup s g c = true ∧ liveOffset s g = -3072 := by
  simp only [isSilenced, Bool.or_eq_true, groupsOf_any, beq_iff_eq, Config.off]

theorem composed_of_silenced {s : State} {c : Chan} (h : isSilenced s c = true) :
    composedLevel s c = -3072 ∧ ceilingFlag s c = false := by
  simp [composedLevel, ceilingFlag, h, Config.off]

theorem composed_of_not_silenced {s : State} {c : Chan} (h : ¬ isSilenced s c = true) :
    composedLevel s c = max (-3072) (min 320 (rawSum s c)) ∧ (ceilingFlag s c = true ↔ 320 < rawSum s c) := by
  refine ⟨if_neg h, ?_⟩
  rw [ceilingFlag, Bool.eq_false_iff.mpr h, Bool.not_false, Bool.true_and, decide_eq_true_iff]
  rfl

theorem composedLevel_inScale (s : State) (c : Chan) : InScale (composedLevel s c) := by
  unfold InScale
  by_cases h : isSilenced s c = true
  · obtain ⟨hlevel, -⟩ := composed_of_silenced h
    omega
  · obtain ⟨hlevel, -⟩ := composed_of_not_silenced h
    omega

theorem effectiveLevel_off {s : State} {c : Chan} (h : composedLevel s c = -3072 ∨ s.chans[c].atten = -3072) :
    effectiveLevel s c = -3072 := by
  rcases h with hS | hm
  · exact if_pos hS
  · unfold effectiveLevel
    rw [if_pos (show s.chans[c].atten = Config.off from hm), ite_self]
    rfl

theorem effectiveLevel_on {s : State} {c : Chan} (hS : composedLevel s c ≠ -3072)
    (hm : s.chans[c].atten ≠ -3072) :
    effectiveLevel s c = max (-3072) (composedLevel s c + s.chans[c].atten) :=
  (if_neg hS).trans (if_neg hm)

theorem effectiveLevel_inScale {s : State} {c : Chan} (hm : s.chans[c].atten ≤ 0) :
    InScale (effectiveLevel s c) := by
  have hscale := composedLevel_inScale s c
  unfold InScale at hscale ⊢
  by_cases hoff : composedLevel s c = -3072 ∨ s.chans[c].atten = -3072
  · have hE := effectiveLevel_off hoff
    omega
  · obtain ⟨hS, hm'⟩ := not_or.mp hoff
    have hE := effectiveLevel_on hS hm'
    omega

theorem underStop_iff (s : State) (c : Chan) :
    underStop s c = true ↔ s.stop.active = true ∧ s.chans[c].announce = false := by
  simp [underStop]

theorem composedMute_iff (s : State) (c : Chan) :
    composedMute s c = true ↔
      s.chans[c].ownMute = true ∨ (∃ g : Grp, inGroup s g c = true ∧ s.groups[g].mute = true)
        ∨ (s.stop.active = true ∧ s.chans[c].announce = false) := by
  simp only [composedMute, Bool.or_eq_true, groupsOf_any, underStop_iff, or_assoc]

theorem rampInForce_eq (s : State) (c : Chan) :
    rampInForce s c =
      if s.stop.active = true ∧ s.chans[c].announce = false then s.stop.ramp else s.chans[c].ramp := by
  simp only [rampInForce, underStop_iff]

/-- Settles O10: the live values under a running move, then the mix from the channel's groups and the stop. -/
theorem composition : Obligations.Composition := by
  unfold Obligations.Composition
  refine ⟨fun s c h => liveLevel_of_unclaimed h, fun s g h => liveOffset_of_unclaimed h,
    fun s k mv start hslot hphase => ?running, fun s c => ?mix⟩
  case running =>
    intro elapsed curve
    have value : ∀ (t : Vector Int 33) (cl : Claim) (free : Int), cl.slot = k →
        claimValue s t cl free = Machine.laneValue mv.law t cl.start cl.target curve := by
      rintro t cl free rfl
      rw [claimValue_of_slot hslot, moveProgress_of_running hphase]
      rfl
    refine ⟨value, fun c cl hcl hk => ?_, fun g cl hcl hk => ?_⟩
    · rw [liveLevel_of_claim hcl, value _ cl _ hk, tableOf_eq_ite]
    · rw [liveOffset_of_claim hcl, value _ cl _ hk]
  case mix =>
    intro raw silent
    have hraw : rawSum s c = raw := rawSum_eq s c
    have hsilent : isSilenced s c = true ↔ silent := isSilenced_iff s c
    rw [← hsilent, ← hraw]
    exact ⟨composed_of_silenced, composed_of_not_silenced, effectiveLevel_off, effectiveLevel_on,
      effectiveLevel_inScale, composedMute_iff s c, rampInForce_eq s c⟩

end Sys2Proof.LevelScale
end

section
/-! SUPPORT. What one step can do, said once: a request command hands its frame to the link, an accepted request does
one of the works of `Works`, an event command does one of those of `Happens`, and everything else moves the link
alone. -/

namespace Sys2Proof.Steps

open Sys2Proof Sys2Proof.Machine

/-! ## Requests (R185) -/

/-- The state that an accepted request of a TYPE leaves, without its reply. -/
inductive Works (ty : Byte) (s : State) : State → Prop where
  | nothing : Works ty s s
  | setAttributes (c : Chan) (a : Attributes) : Works ty s (settle (Machine.setAttributes c a s))
  | setLevel (c : Chan) (level : Int) (free : ∀ d ∈ unitChans s c, isHeld s d = false) :
      Works ty s (settle (Machine.setLevel c (clampLevel level) s))
  | setTrim (c : Chan) (trim : Int) :
      Works ty s (updChan c (fun ch => { ch with trim := clampInt (-Config.trimMax) Config.trimMax trim }) s)
  | setOwnMute (c : Chan) (on : Bool) : Works ty s (Machine.setOwnMute c on s)
  | linkPair (k : PairId) (even : isAuto s (evenOf k) = true) (odd : isAuto s (oddOf k) = true) :
      Works ty s (settle (Machine.linkPair k s))
  | unlinkPair (k : PairId) : Works ty s (settle (setLink k false s))
  | setGroup (g : Grp) (level : Int) (offset mute on : Bool) :
      Works ty s (settle
        (if mute then setGroupMute g on (if offset then setOffset g (clampLevel level) s else s)
        else if offset then setOffset g (clampLevel level) s else s))
  | changeMembers (g : Grp) (add : Bool) (cs : List Chan) : Works ty s (Machine.changeMembers g add cs s)
  | setEntry (e : SetId) (cs : List Chan) : Works ty s { s with sets := s.sets.set e (distinctChans cs) }
  | setTable (t : TaperSel) (levels : List Int) (many : levels.length = 33) (allowed : taperAllowed levels = true) :
      Works ty s (Machine.setTable t (tableFrom levels) s)
  | createMove (tag : Byte) (a : Action) (clear : s.stop.active = false) :
      Works ty s (settle (Machine.createMove (.live tag) (clampAction a) s.clock.showTime s).1)
  | cancelLive : Works ty s (settle (cancelWhere Move.isLive .cancelled s))
  | cancelMove (k : Slot) : Works ty s (settle (Machine.cancelMove k .cancelled s))
  | tickFree : Works ty s (Machine.tickFree s)
  | setSource (pulse : Bool) (w : Nat) (rising : Bool) : Works ty s (Machine.setSource pulse w rising s)
  | setRate (d : Nat) :
      Works ty s (updClock (fun k => if k.divisor = d then k else { k with divisor := d, divCount := 0 }) s)
  | runClock (clear : s.stop.active = false) : Works ty s (Machine.runClock .request s)
  | holdClock : Works ty s (Machine.holdClock .request s)
  | stepClock (n : Nat) (clear : s.stop.active = false) : Works ty s (Machine.stepClock n s)
  | locate (type : ty = 0x2D) (t : Nat) (bound : t ≤ Config.showMax) (can : canLocate s = true) :
      Works ty s (updClock (fun k => { k with showTime := t, divCount := 0 }) s)
  | writeCue (c : Cue) (room : storeFull (clampCue c) s.play.store = false) :
      Works ty s (updPlay (fun p => { p with store := insertCue (clampCue c) p.store }) s)
  | deleteCue (n : Nat) : Works ty s (updPlay (Machine.deleteCue n) s)
  | clearCues :
      Works ty s (updPlay (fun p => { p with store := [], standby := none, follow := none, endWatch := none }) s)
  | go (c : Cue) (clear : s.stop.active = false) (standby : standbyCue s = some c) :
      Works ty s (settle (fireCue c none s).1)
  | back (r : RecallRecord) (rest : List RecallRecord) (clear : s.stop.active = false)
      (top : s.play.recalls = r :: rest) : Works ty s (settle (undoFiring r rest s).1)
  | jump (n : Nat) (stored : (findCue n s.play.store).isSome = true) : Works ty s (updPlay (jumpTo n) s)
  | setBackTime (n : Nat) : Works ty s (updPlay (fun p => { p with backTime := n }) s)
  | configSurface (a : SurfaceSettings) : Works ty s (settle (Machine.configSurface a s))
  | setBanks (a b split : Nat) : Works ty s (settle (Machine.setBanks a b split s))
  | startCalibration (m : ModuleId) : Works ty s (settle (Machine.startCalibration m s))
  | releaseUnits (cs : List Chan) (latched : ∀ c ∈ cs, s.chans[c].ownership = .latched) :
      Works ty s (settle (Machine.releaseUnits cs s).state)
  | setLanes (a : LaneSettings) : Works ty s (updLanes (fun l => { l with pending := some a }) s)
  | enterStop (clear : s.stop.active = false) : Works ty s (Machine.enterStop .request s)
  | clearStop (line : s.stop.line = false) : Works ty s (Machine.clearStop s)
  | setStopRamp (n : Nat) : Works ty s (Machine.setStopRamp n s)
  | clearStats : Works ty s (updLink (fun k => { k with stats := {} }) s)
  | setMask (m : Nat) (bound : m < 512) : Works ty s (updLink (fun k => { k with mask := BitVec.ofNat 16 m }) s)
  | softReset (type : ty = 0x02) : Works ty s (Machine.softReset s)

/-- A request is answered by its status and its fields; one that is refused does nothing and has no fields (R33,
R185). -/
inductive Answers (ty : Byte) (s : State) : State × List Byte → Prop where
  | refuse (st : Status) : Answers ty s (s, [st.byte])
  | accept (fields : List Byte) (w : State) (h : Works ty s w) : Answers ty s (w, Status.ok.byte :: fields)
  | accepted (fields : List Byte) (w : State) (h : Works ty s w) : Answers ty s (w, Status.accepted.byte :: fields)

section

variable {ty : Byte}

/-! ### The requests, owner by owner -/

theorem reqIdentify_answers (p : List Byte) (s : State) : Answers ty s (reqIdentify p s) := by
  unfold reqIdentify
  split
  · exact .accept _ _ .nothing
  · exact .refuse _

theorem reqReset_answers (type : ty = 0x02) (p : List Byte) (s : State) : Answers ty s (reqReset p s) := by
  unfold reqReset
  split
  · exact .accept _ _ (.softReset type)
  · exact .refuse _

theorem reqLinkStatus_answers (p : List Byte) (s : State) : Answers ty s (reqLinkStatus p s) := by
  unfold reqLinkStatus
  split
  · split
    · exact .refuse _
    · refine .accept _ _ ?_
      split
      · exact .clearStats
      · exact .nothing
  · exact .refuse _

theorem reqNoticeEnable_answers (p : List Byte) (s : State) : Answers ty s (reqNoticeEnable p s) := by
  unfold reqNoticeEnable
  split
  · split
    · exact .refuse _
    · exact .accept _ _ (.setMask _ (by omega))
  · exact .refuse _

theorem reqChannelConfig_answers (p : List Byte) (s : State) : Answers ty s (reqChannelConfig p s) := by
  unfold reqChannelConfig
  split
  · split
    · exact .accept _ _ (.setAttributes _ _)
    · exact .refuse _
  · exact .refuse _

theorem reqChannelQuery_answers (p : List Byte) (s : State) : Answers ty s (reqChannelQuery p s) := by
  unfold reqChannelQuery
  split
  · split
    · exact .accept _ _ .nothing
    · exact .refuse _
  · exact .refuse _

theorem reqLevelSet_answers (p : List Byte) (s : State) : Answers ty s (reqLevelSet p s) := by
  unfold reqLevelSet
  split
  · split
    · split
      · exact .refuse _
      · rename_i free
        exact .accept _ _ (.setLevel _ _ (by simpa using free))
    · exact .refuse _
  · exact .refuse _

theorem reqTrimSet_answers (p : List Byte) (s : State) : Answers ty s (reqTrimSet p s) := by
  unfold reqTrimSet
  split
  · split
    · exact .accept _ _ (.setTrim _ _)
    · exact .refuse _
  · exact .refuse _

theorem reqMuteSet_answers (p : List Byte) (s : State) : Answers ty s (reqMuteSet p s) := by
  unfold reqMuteSet
  split
  · split
    · exact .accept _ _ (.setOwnMute _ _)
    · exact .refuse _
  · exact .refuse _

theorem reqPairLink_answers (p : List Byte) (s : State) : Answers ty s (reqPairLink p s) := by
  unfold reqPairLink
  split
  · split
    · rename_i k link _ _
      split
      · exact .refuse _
      · rename_i autos
        simp only [Bool.not_eq_true', Bool.not_eq_false, Bool.and_eq_true] at autos
        obtain ⟨even, odd⟩ := autos
        refine .accept _ _ ?_
        cases link
        · exact .unlinkPair k
        · exact .linkPair k even odd
    · exact .refuse _
  · exact .refuse _

theorem reqGroupSet_answers (p : List Byte) (s : State) : Answers ty s (reqGroupSet p s) := by
  unfold reqGroupSet
  split
  · split
    · split
      · exact .refuse _
      · exact .accept _ _ (.setGroup _ _ _ _ _)
    · exact .refuse _
  · exact .refuse _

theorem reqGroupMembers_answers (p : List Byte) (s : State) : Answers ty s (reqGroupMembers p s) := by
  unfold reqGroupMembers
  split
  · split
    · exact .refuse _
    · split
      · split
        · exact .refuse _
        · exact .accept _ _ (.changeMembers _ _ _)
      · exact .refuse _
  · exact .refuse _

theorem reqSetWrite_answers (p : List Byte) (s : State) : Answers ty s (reqSetWrite p s) := by
  unfold reqSetWrite
  split
  · split
    · exact .refuse _
    · split
      · split
        · exact .refuse _
        · exact .accept _ _ (.setEntry _ _)
      · exact .refuse _
  · exact .refuse _

theorem reqSetRead_answers (p : List Byte) (s : State) : Answers ty s (reqSetRead p s) := by
  unfold reqSetRead
  split
  · split
    · exact .accept _ _ .nothing
    · exact .refuse _
  · exact .refuse _

/-- A level stands in two bytes (R193). -/
theorem length_levelsOf : ∀ bs : List Byte, (levelsOf bs).length = bs.length / 2
  | [] => rfl
  | [_] => by simp [levelsOf]
  | _ :: _ :: bs => by simp [levelsOf, length_levelsOf bs]; omega

theorem reqTaperWrite_answers (p : List Byte) (s : State) : Answers ty s (reqTaperWrite p s) := by
  unfold reqTaperWrite
  split
  · split
    · exact .refuse _
    · split
      · split
        · rename_i bs many _ _ _ allowed
          refine .accept _ _ (.setTable _ _ ?_ allowed)
          rw [length_levelsOf]
          omega
        · exact .refuse _
      · exact .refuse _
  · exact .refuse _

theorem reqTaperRead_answers (p : List Byte) (s : State) : Answers ty s (reqTaperRead p s) := by
  unfold reqTaperRead
  split
  · split
    · exact .accept _ _ .nothing
    · exact .refuse _
  · exact .refuse _

theorem reqMoveStart_answers (p : List Byte) (s : State) : Answers ty s (reqMoveStart p s) := by
  unfold reqMoveStart
  split
  · exact .refuse _
  · rename_i tag record
    split
    · exact .refuse _
    · split
      · exact .refuse _
      · rename_i a _
        split
        · exact .refuse _
        · rename_i clear
          have work := Works.createMove (ty := ty) (s := s) tag a (by simpa using clear)
          unfold answerMoveStart
          split
          · exact .refuse _
          · exact .refuse _
          all_goals
            rename_i made
            rw [made] at work
            exact .accept _ _ work

theorem reqMoveCancel_answers (p : List Byte) (s : State) : Answers ty s (reqMoveCancel p s) := by
  unfold reqMoveCancel
  split
  · split
    · exact .accept _ _ .cancelLive
    · split
      · exact .refuse _
      · split
        · exact .refuse _
        · exact .accept _ _ (.cancelMove _)
  · exact .refuse _

theorem reqMoveQuery_answers (p : List Byte) (s : State) : Answers ty s (reqMoveQuery p s) := by
  unfold reqMoveQuery
  split
  · split
    · exact .refuse _
    · split
      · exact .accept _ _ .nothing
      · refine .accept _ _ ?_
        split
        · exact .tickFree
        · exact .nothing
  · exact .refuse _

theorem reqClockSource_answers (p : List Byte) (s : State) : Answers ty s (reqClockSource p s) := by
  unfold reqClockSource
  split
  · split
    · exact .accept _ _ (.setSource _ _ _)
    · exact .refuse _
  · exact .refuse _

theorem reqClockRate_answers (p : List Byte) (s : State) : Answers ty s (reqClockRate p s) := by
  unfold reqClockRate
  split
  · split
    · exact .accept _ _ (.setRate _)
    · exact .refuse _
  · exact .refuse _

theorem reqClockRun_answers (p : List Byte) (s : State) : Answers ty s (reqClockRun p s) := by
  unfold reqClockRun
  split
  · split
    · exact .refuse _
    · rename_i clear
      split
      · exact .accept _ _ .nothing
      · exact .accept _ _ (.runClock (by simpa using clear))
  · exact .refuse _

theorem reqClockHold_answers (p : List Byte) (s : State) : Answers ty s (reqClockHold p s) := by
  unfold reqClockHold
  split
  · split
    · exact .refuse _
    · exact .accept _ _ .nothing
    · exact .accept _ _ .holdClock
    · exact .accept _ _ .holdClock
  · exact .refuse _

theorem reqClockStep_answers (p : List Byte) (s : State) : Answers ty s (reqClockStep p s) := by
  unfold reqClockStep
  split
  · split
    · exact .refuse _
    · rename_i clear
      split
      · exact .refuse _
      · exact .accept _ _ (.stepClock _ (by simpa using clear))
  · exact .refuse _

/-- Four bytes hold no show time beyond the last one (R78). -/
theorem le32_le (b0 b1 b2 b3 : Byte) : le32 b0 b1 b2 b3 ≤ Config.showMax := by
  have := b0.isLt
  have := b1.isLt
  have := b2.isLt
  have := b3.isLt
  unfold le32 Config.showMax
  omega

theorem reqClockLocate_answers (type : ty = 0x2D) (p : List Byte) (s : State) : Answers ty s (reqClockLocate p s) := by
  unfold reqClockLocate
  split
  · split
    · rename_i can
      exact .accept _ _ (.locate type _ (le32_le _ _ _ _) can)
    · exact .refuse _
  · exact .refuse _

theorem reqClockQuery_answers (p : List Byte) (s : State) : Answers ty s (reqClockQuery p s) := by
  unfold reqClockQuery
  split
  · exact .accept _ _ .nothing
  · exact .refuse _

theorem writeCue_answers (c : Cue) (s : State) : Answers ty s (writeCue c s) := by
  unfold writeCue
  dsimp only
  split
  · exact .refuse _
  · rename_i room
    exact .accept _ _ (.writeCue c (by simpa using room))

theorem reqCueWrite_answers (p : List Byte) (s : State) : Answers ty s (reqCueWrite p s) := by
  unfold reqCueWrite
  split
  · split
    · exact .refuse _
    · split
      · exact writeCue_answers _ _
      · exact .refuse _
  · exact .refuse _

theorem answerCue_answers (found : Option Cue) (s : State) : Answers ty s (answerCue found s) := by
  unfold answerCue
  split
  · exact .accept _ _ .nothing
  · exact .refuse _

theorem reqCueRead_answers (p : List Byte) (s : State) : Answers ty s (reqCueRead p s) := by
  unfold reqCueRead
  split
  · split
    · exact .refuse _
    · split
      · exact .refuse _
      · exact answerCue_answers _ _
    · exact answerCue_answers _ _
  · exact .refuse _

theorem reqCueDelete_answers (p : List Byte) (s : State) : Answers ty s (reqCueDelete p s) := by
  unfold reqCueDelete
  split
  · split
    · exact .refuse _
    · split
      · exact .refuse _
      · exact .accept _ _ (.deleteCue _)
  · exact .refuse _

theorem reqCueClear_answers (p : List Byte) (s : State) : Answers ty s (reqCueClear p s) := by
  unfold reqCueClear
  split
  · exact .accept _ _ .clearCues
  · exact .refuse _

theorem reqGo_answers (p : List Byte) (s : State) : Answers ty s (reqGo p s) := by
  unfold reqGo
  split
  · split
    · exact .refuse _
    · rename_i clear
      split
      · exact .refuse _
      · rename_i standby
        exact .accept _ _ (.go _ (by simpa using clear) standby)
  · exact .refuse _

theorem reqBack_answers (p : List Byte) (s : State) : Answers ty s (reqBack p s) := by
  unfold reqBack
  split
  · split
    · exact .refuse _
    · rename_i clear
      split
      · exact .refuse _
      · rename_i top
        exact .accept _ _ (.back _ _ (by simpa using clear) top)
  · exact .refuse _

theorem reqJump_answers (p : List Byte) (s : State) : Answers ty s (reqJump p s) := by
  unfold reqJump
  split
  · split
    · exact .refuse _
    · split
      · exact .refuse _
      · rename_i stored
        exact .accept _ _ (.jump _ (by simpa [Option.isNone_iff_eq_none, Option.isSome_iff_ne_none] using stored))
  · exact .refuse _

theorem reqPlaybackQuery_answers (p : List Byte) (s : State) : Answers ty s (reqPlaybackQuery p s) := by
  unfold reqPlaybackQuery
  split
  · exact .accept _ _ .nothing
  · exact .refuse _

theorem reqPlaybackConfig_answers (p : List Byte) (s : State) : Answers ty s (reqPlaybackConfig p s) := by
  unfold reqPlaybackConfig
  split
  · exact .accept _ _ (.setBackTime _)
  · exact .refuse _

theorem reqSurfaceConfig_answers (p : List Byte) (s : State) : Answers ty s (reqSurfaceConfig p s) := by
  unfold reqSurfaceConfig
  split
  · split
    · exact .refuse _
    · exact .accept _ _ (.configSurface _)
  · exact .refuse _

theorem reqBankSet_answers (p : List Byte) (s : State) : Answers ty s (reqBankSet p s) := by
  unfold reqBankSet
  split
  · split
    · exact .refuse _
    · exact .accept _ _ (.setBanks _ _ _)
  · exact .refuse _

theorem reqSurfaceQuery_answers (p : List Byte) (s : State) : Answers ty s (reqSurfaceQuery p s) := by
  unfold reqSurfaceQuery
  split
  · exact .accept _ _ .nothing
  · exact .refuse _

theorem reqCalibrate_answers (p : List Byte) (s : State) : Answers ty s (reqCalibrate p s) := by
  unfold reqCalibrate
  split
  · split
    · exact .refuse _
    · split
      · exact .refuse _
      · split
        · exact .refuse _
        · exact .accepted _ _ (.startCalibration _)
  · exact .refuse _

/-- A unit is LATCHED with its lower channel (R148). -/
theorem latchedUnits_latched {s : State} {c : Chan} (h : c ∈ latchedUnits s) : s.chans[c].ownership = .latched := by
  unfold latchedUnits at h
  simp only [List.mem_filter, Bool.and_eq_true, beq_iff_eq] at h
  obtain ⟨-, -, latched⟩ := h
  exact latched

theorem reqLatchRelease_answers (p : List Byte) (s : State) : Answers ty s (reqLatchRelease p s) := by
  unfold reqLatchRelease
  split
  · split
    · exact .accept _ _ (.releaseUnits _ fun _ => latchedUnits_latched)
    · split
      · exact .refuse _
      · split
        · rename_i latched
          refine .accept _ _ (.releaseUnits _ fun d hd => ?_)
          rw [List.mem_singleton.mp hd]
          exact latched
        · exact .refuse _
  · exact .refuse _

theorem reqLaneConfig_answers (p : List Byte) (s : State) : Answers ty s (reqLaneConfig p s) := by
  unfold reqLaneConfig
  split
  · split
    · exact .accept _ _ (.setLanes _)
    · exact .refuse _
  · exact .refuse _

theorem reqLaneQuery_answers (p : List Byte) (s : State) : Answers ty s (reqLaneQuery p s) := by
  unfold reqLaneQuery
  split
  · exact .accept _ _ .nothing
  · exact .refuse _

theorem reqStop_answers (p : List Byte) (s : State) : Answers ty s (reqStop p s) := by
  unfold reqStop
  split
  · refine .accept _ _ ?_
    split
    · exact .nothing
    · rename_i clear
      exact .enterStop (by simpa using clear)
  · exact .refuse _

theorem reqStopClear_answers (p : List Byte) (s : State) : Answers ty s (reqStopClear p s) := by
  unfold reqStopClear
  split
  · split
    · exact .refuse _
    · rename_i released
      refine .accept _ _ ?_
      split
      · rename_i active
        exact .clearStop (by simpa [active] using released)
      · exact .nothing
  · exact .refuse _

theorem reqStopConfig_answers (p : List Byte) (s : State) : Answers ty s (reqStopConfig p s) := by
  unfold reqStopConfig
  split
  · exact .accept _ _ (.setStopRamp _)
  · exact .refuse _

end

/-- A request of any TYPE is answered (R185). -/
theorem serve_answers (f : Frame) (s : State) : Answers f.type s (serve f s) := by
  unfold serve
  split
  · exact reqIdentify_answers _ _
  · rename_i type
    exact reqReset_answers (BitVec.eq_of_toNat_eq type) _ _
  · exact reqLinkStatus_answers _ _
  · exact reqNoticeEnable_answers _ _
  · exact reqChannelConfig_answers _ _
  · exact reqChannelQuery_answers _ _
  · exact reqLevelSet_answers _ _
  · exact reqTrimSet_answers _ _
  · exact reqMuteSet_answers _ _
  · exact reqPairLink_answers _ _
  · exact reqGroupSet_answers _ _
  · exact reqGroupMembers_answers _ _
  · exact reqSetWrite_answers _ _
  · exact reqSetRead_answers _ _
  · exact reqTaperWrite_answers _ _
  · exact reqTaperRead_answers _ _
  · exact reqMoveStart_answers _ _
  · exact reqMoveCancel_answers _ _
  · exact reqMoveQuery_answers _ _
  · exact reqClockSource_answers _ _
  · exact reqClockRate_answers _ _
  · exact reqClockRun_answers _ _
  · exact reqClockHold_answers _ _
  · exact reqClockStep_answers _ _
  · rename_i type
    exact reqClockLocate_answers (BitVec.eq_of_toNat_eq type) _ _
  · exact reqClockQuery_answers _ _
  · exact reqCueWrite_answers _ _
  · exact reqCueRead_answers _ _
  · exact reqCueDelete_answers _ _
  · exact reqCueClear_answers _ _
  · exact reqGo_answers _ _
  · exact reqBack_answers _ _
  · exact reqJump_answers _ _
  · exact reqPlaybackQuery_answers _ _
  · exact reqPlaybackConfig_answers _ _
  · exact reqSurfaceConfig_answers _ _
  · exact reqBankSet_answers _ _
  · exact reqSurfaceQuery_answers _ _
  · exact reqCalibrate_answers _ _
  · exact reqLatchRelease_answers _ _
  · exact reqLaneConfig_answers _ _
  · exact reqLaneQuery_answers _ _
  · exact reqStop_answers _ _
  · exact reqStopClear_answers _ _
  · exact reqStopConfig_answers _ _
  · exact .refuse _

/-! ## Events -/

/-- The state that an event leaves, before the transmitter chooses; `power` says whether POWER_ON may be the event.
Events of the link alone are not among them. -/
inductive Happens (power : Bool) (s : State) : State → Prop where
  | powerOn (on : power = true) (resetIn : Bool) (rate : LineRate) (stopIn readyA readyB : Bool) :
      Happens power s (poweredOn resetIn rate stopIn readyA readyB s)
  | wallMillisecond : Happens power s (Machine.wallMillisecond s)
  | dividerCount : Happens power s (expireDivider s)
  | syncInEdge (rising : Bool) : Happens power s (takeEdge rising s)
  | pulseLoss : Happens power s (takeLoss s)
  | startEvent (k : Slot) : Happens power s (takeStart k s)
  | traversalEnd (k : Slot) : Happens power s (takeEnd k s)
  | endWatchExpiry : Happens power s (takeWatch s)
  | followExpiry : Happens power s (takeFollow s)
  | exchangeStart : Happens power s (beginExchange s)
  | goodReply (bytes : List Byte) : Happens power s (takeReply bytes s)
  | replyWindowExpiry : Happens power s (closeWindow s)
  | driveTimerExpiry (m : ModuleId) : Happens power s (endDrive m s)
  | frameStart : Happens power s (takeFrameStart s)
  | frameCompletion (id : LaneId) : Happens power s (takeCompletion id s)
  | laneReadyEdge (id : LaneId) (rising : Bool) : Happens power s (readyEdge id rising s)
  | stopInAsserted : Happens power s (assertStopIn s)
  | stopInReleased : Happens power s (releaseStopIn s)

/-! ## The whole command -/

/-- A request command hands its frame to the link (log entry 2). -/
theorem exec_request {c : Instr} {f : Frame} (h : frameOfCommand c = some f) (s : State) :
    exec c s = .next (submitFrame f s) := by
  cases c <;> cases h <;> rfl

/-- The link may change from s to t, and nothing else. -/
def OnlyLink (s t : State) : Prop := ∃ k : Link, t = { s with link := k }

theorem OnlyLink.refl (s : State) : OnlyLink s s := ⟨s.link, rfl⟩

theorem OnlyLink.trans {a b c : State} (h : OnlyLink a b) (h' : OnlyLink b c) : OnlyLink a c := by
  obtain ⟨k, rfl⟩ := h
  obtain ⟨k', rfl⟩ := h'
  exact ⟨k', rfl⟩

theorem OnlyLink.updLink (f : Link → Link) (s : State) : OnlyLink s (updLink f s) := ⟨f s.link, rfl⟩

theorem OnlyLink.queueNotice (n : Notice) (s : State) : OnlyLink s (queueNotice n s) := ⟨s.link.queue n, rfl⟩

theorem choose_onlyLink (s : State) : OnlyLink s (choose s) := by
  unfold choose
  split
  · exact .refl s
  · exact .updLink _ s

theorem setReceiver_onlyLink (r : Receiver) (s : State) : OnlyLink s (setReceiver r s) := .updLink _ s

theorem countLink_onlyLink (f : LinkStats → LinkStats) (s : State) : OnlyLink s (countLink f s) := .updLink _ s

theorem expireGap_onlyLink (s : State) : OnlyLink s (expireGap s) := by
  unfold expireGap
  split
  · split
    · exact (setReceiver_onlyLink _ s).trans (countLink_onlyLink _ _)
    · exact .refl s
  · exact .refl s
  · exact .refl s

theorem takeBreak_onlyLink (s : State) : OnlyLink s (takeBreak s) := by
  unfold takeBreak
  split
  · exact .refl s
  · split
    · exact .refl s
    · exact (setReceiver_onlyLink _ s).trans (countLink_onlyLink _ _)
    · exact (setReceiver_onlyLink _ s).trans (countLink_onlyLink _ _)

theorem endBreak_onlyLink (s : State) : OnlyLink s (endBreak s) := by
  unfold endBreak
  split
  · exact setReceiver_onlyLink _ s
  · exact .refl s
  · exact .refl s

theorem framingError_onlyLink (s : State) : OnlyLink s (framingError s) := by
  unfold framingError
  split
  · exact .refl s
  · exact countLink_onlyLink _ s
  · exact (setReceiver_onlyLink _ s).trans (countLink_onlyLink _ _)

theorem releaseResetIn_onlyLink (s : State) : OnlyLink s (releaseResetIn s) :=
  (OnlyLink.updLink _ s).trans (choose_onlyLink _)

theorem choose_rxQueue (s : State) : (choose s).link.rxQueue = s.link.rxQueue := by
  unfold choose
  split
  · rfl
  · simp only [updLink_link, Link.choose]
    split
    · rfl
    · split <;> rfl

/-- A property that the link does not touch, that every request of an allowed TYPE keeps, and every event, POWER_ON
where it is allowed. -/
structure Kept (Ty : Byte → Prop) (power : Bool) (P : State → Prop) : Prop where
  link : ∀ (s : State) (k : Link), P s → P { s with link := k }
  works : ∀ (ty : Byte) (s w : State), Ty ty → Works ty s w → P s → P w
  happens : ∀ s w : State, Happens power s w → P s → P w

namespace Kept

variable {Ty : Byte → Prop} {power : Bool} {P : State → Prop} (K : Kept Ty power P)

/-- The frames that can be dispatched are the first two of the queue, and their TYPEs are allowed. -/
def Reach (Ty : Byte → Prop) (queue : List Frame) : Prop := ∀ ty ∈ (queue.map Frame.type).take 2, Ty ty

theorem Reach.tail {queue : List Frame} {f : Frame} (h : Reach Ty (f :: queue)) : Ty f.type ∧
    ∀ g ∈ queue.head?, Ty g.type := by
  refine ⟨h _ (by simp), fun g hg => h _ ?_⟩
  cases queue with
  | nil => cases hg
  | cons g' queue =>
    cases hg
    simp

theorem Reach.head {queue : List Frame} (h : Reach Ty queue) : ∀ f ∈ queue.head?, Ty f.type := by
  intro f hf
  cases queue with
  | nil => cases hf
  | cons g rest =>
    cases hf
    exact h.tail.1

/-- The frame at the head of the queue after a dispatch was within reach before it. -/
theorem Reach.dispatchHead {s : State} (h : Reach Ty s.link.rxQueue) :
    ∀ f ∈ (Machine.dispatchHead s).link.rxQueue.head?, Ty f.type := by
  unfold Machine.dispatchHead
  split
  · exact h.head
  · split
    · exact h.head
    · rename_i f rest queue
      rw [queue] at h
      intro g hg
      have path := serve_path f (updLink (fun k => { k with rxQueue := rest }) s)
      change g ∈ (Machine.serve f (updLink (fun k => { k with rxQueue := rest }) s)).1.link.rxQueue.head? at hg
      rcases path.queue with same | none
      · rw [same] at hg
        exact h.tail.2 g hg
      · rw [none] at hg
        cases hg

/-- A frame taken whole carries the third of its bytes as its TYPE, or is none: of TYPE 0 (R182). -/
theorem frameOf_reach {queue : List Frame} {taken : List Byte} (zero : Ty 0)
    (h : ∀ ty ∈ (queue.map Frame.type ++ taken[2]?.toList).take 2, Ty ty) : Reach Ty (queue ++ [frameOf taken]) := by
  intro ty hty
  rw [List.map_append] at hty
  unfold frameOf at hty
  split at hty
  · exact h ty (by simpa using hty)
  · rw [List.take_append, List.mem_append] at hty
    rcases hty with queued | last
    · exact h ty (by rw [List.take_append]; exact List.mem_append_left _ queued)
    · have := List.mem_of_mem_take last
      simp only [List.map_cons, List.map_nil, List.mem_singleton] at this
      exact this ▸ zero

/-- A frame discarded as an overrun is out of reach (R184). -/
theorem Reach.enqueue {k : Link} {f : Frame} (h : Reach Ty (k.rxQueue ++ [f])) : Reach Ty (k.enqueue f).rxQueue := by
  unfold Link.enqueue
  dsimp only
  split
  · exact h
  · intro ty hty
    refine h ty ?_
    rw [List.map_append, List.take_append]
    exact List.mem_append_left _ hty

include K

theorem onlyLink {s t : State} (h : OnlyLink s t) (hs : P s) : P t := by
  obtain ⟨k, rfl⟩ := h
  exact K.link s k hs

theorem serve {s : State} (f : Frame) (allowed : Ty f.type) (hs : P s) : P (serve f s).1 := by
  have answer := serve_answers f s
  revert answer
  generalize Machine.serve f s = r
  rintro (_ | ⟨-, w, work⟩ | ⟨-, w, work⟩)
  · exact hs
  · exact K.works _ s w allowed work hs
  · exact K.works _ s w allowed work hs

theorem dispatchHead {s : State} (head : ∀ f ∈ s.link.rxQueue.head?, Ty f.type) (hs : P s) : P (dispatchHead s) := by
  unfold Machine.dispatchHead
  split
  · exact hs
  · split
    · exact hs
    · rename_i queue
      rw [queue] at head
      exact K.onlyLink (.updLink _ _) (K.serve _ (head _ rfl) (K.onlyLink (.updLink _ _) hs))

theorem pump {s : State} (reach : Reach Ty s.link.rxQueue) (hs : P s) : P (pump s) := by
  refine K.dispatchHead ?_ (K.onlyLink (choose_onlyLink _) (K.dispatchHead reach.head hs))
  rw [choose_rxQueue]
  exact reach.dispatchHead

theorem completeRequest {s : State} (f : Frame) (reach : Reach Ty (s.link.rxQueue ++ [f])) (hs : P s) :
    P (completeRequest f s) :=
  K.pump reach.enqueue (K.onlyLink (.updLink _ _) hs)

theorem submitFrame {s : State} (f : Frame) (reach : Reach Ty (s.link.rxQueue ++ [f])) (hs : P s) :
    P (submitFrame f s) := by
  unfold Machine.submitFrame
  split
  · exact hs
  · split
    · exact K.onlyLink (countLink_onlyLink _ s) hs
    · exact K.completeRequest f reach hs

/-- A character, where what it completes is allowed. -/
theorem takeCharacter {s : State} (c : Byte) (stopBit : Bool) (zero : Ty 0)
    (reach : ∀ ty ∈ typesInReach s (.characterReceived c stopBit), Ty ty) (hs : P s) : P (takeCharacter c s) := by
  unfold Machine.takeCharacter
  unfold typesInReach at reach
  split
  · exact hs
  · split
    · exact K.onlyLink (setReceiver_onlyLink _ s) hs
    · exact hs
  · rename_i taken _ receiver
    rw [receiver] at reach
    split
    · exact K.onlyLink (setReceiver_onlyLink _ s) hs
    · exact K.onlyLink ((setReceiver_onlyLink _ s).trans (countLink_onlyLink _ _)) hs
    · exact K.onlyLink ((setReceiver_onlyLink _ s).trans (countLink_onlyLink _ _)) hs
    · rename_i f complete
      refine K.completeRequest _ ?_ (K.onlyLink (setReceiver_onlyLink _ s) hs)
      have whole : f = frameOf (taken ++ [c]) := by
        unfold assemble at complete
        split at complete <;> [cases complete; skip]
        split at complete <;> [cases complete; skip]
        split at complete <;> [cases complete; skip]
        split at complete <;> cases complete
        rfl
      rw [whole]
      exact frameOf_reach zero reach

theorem receiveCharacter {s : State} (c : Byte) (stopBit : Bool) (zero : Ty 0)
    (reach : ∀ ty ∈ typesInReach s (.characterReceived c stopBit), Ty ty) (hs : P s) :
    P (receiveCharacter c stopBit s) := by
  unfold Machine.receiveCharacter
  split
  · exact hs
  · split
    · exact K.takeCharacter c stopBit zero reach hs
    · exact K.onlyLink (framingError_onlyLink s) hs

theorem endTransmit {s : State} (reach : Reach Ty s.link.rxQueue) (hs : P s) : P (endTransmit s) := by
  unfold Machine.endTransmit
  split
  · exact K.pump reach (K.onlyLink (.updLink _ _) hs)
  · exact hs

theorem event {s w : State} (h : Happens power s w) (hs : P s) : P (choose w) :=
  K.onlyLink (choose_onlyLink _) (K.happens s w h hs)

/-- A request command, where its frame is allowed. -/
theorem request {c : Instr} {f : Frame} {s : State} (hf : frameOfCommand c = some f)
    (reach : ∀ ty ∈ typesInReach s c, Ty ty) (hs : P s) : P (Machine.submitFrame f s) := by
  refine K.submitFrame f (fun ty hty => reach ty ?_) hs
  rw [List.map_append] at hty
  cases c <;> cases hf <;> exact hty

/-- Every command keeps what the requests and events that it can bring about keep. -/
theorem execBut {c : Instr} {s t : State} (zero : Ty 0) (reach : ∀ ty ∈ typesInReach s c, Ty ty)
    (on : ∀ held rate stop a b, c = .powerOn held rate stop a b → power = true)
    (h : exec c s = .next t) (hs : P s) : P t := by
  cases hf : frameOfCommand c with
  | some f =>
    rw [exec_request hf] at h
    cases h
    exact K.request hf reach hs
  | none =>
    cases c <;> cases hf <;> cases h
    case none.characterReceived.refl.refl => exact K.receiveCharacter _ _ zero reach hs
    case none.gapTimerExpiry.refl.refl => exact K.onlyLink (expireGap_onlyLink s) hs
    case none.lineBreak.refl.refl => exact K.onlyLink (takeBreak_onlyLink s) hs
    case none.transmitEnd.refl.refl => exact K.endTransmit reach hs
    case none.powerOn.refl.refl => exact K.event (.powerOn (on _ _ _ _ _ rfl) _ _ _ _ _) hs
    case none.wallMillisecond.refl.refl => exact K.event .wallMillisecond hs
    case none.dividerCount.refl.refl => exact K.event .dividerCount hs
    case none.syncInEdge.refl.refl => exact K.event (.syncInEdge _) hs
    case none.pulseLoss.refl.refl => exact K.event .pulseLoss hs
    case none.startEvent.refl.refl => exact K.event (.startEvent _) hs
    case none.traversalEnd.refl.refl => exact K.event (.traversalEnd _) hs
    case none.endWatchExpiry.refl.refl => exact K.event .endWatchExpiry hs
    case none.followExpiry.refl.refl => exact K.event .followExpiry hs
    case none.exchangeStart.refl.refl => exact K.happens s _ .exchangeStart hs
    case none.goodReply.refl.refl => exact K.event (.goodReply _) hs
    case none.replyWindowExpiry.refl.refl => exact K.event .replyWindowExpiry hs
    case none.driveTimerExpiry.refl.refl => exact K.happens s _ (.driveTimerExpiry _) hs
    case none.frameStart.refl.refl => exact K.event .frameStart hs
    case none.frameCompletion.refl.refl => exact K.event (.frameCompletion _) hs
    case none.laneReadyEdge.refl.refl => exact K.event (.laneReadyEdge _ _) hs
    case none.stopInAsserted.refl.refl => exact K.event .stopInAsserted hs
    case none.stopInReleased.refl.refl => exact K.event .stopInReleased hs
    case none.lineHighAfterBreak.refl.refl => exact K.onlyLink (endBreak_onlyLink s) hs
    case none.resetInReleased.refl.refl => exact K.onlyLink (releaseResetIn_onlyLink s) hs

end Kept

/-- Where every TYPE and POWER_ON are allowed, every command keeps the property. -/
theorem Kept.exec {P : State → Prop} (K : Kept (fun _ => True) true P) {c : Instr} {s t : State}
    (h : exec c s = .next t) (hs : P s) : P t :=
  K.execBut trivial (fun _ _ => trivial) (fun _ _ _ _ _ _ => rfl) h hs

/-- Every step keeps what requests, events and the taking of a command from the queue keep. -/
theorem Kept.step {P : State → Prop} (K : Kept (fun _ => True) true P)
    (pending : ∀ (s : State) (cs : List Instr), P s → P { s with pending := cs }) {s t : State}
    (h : step s = .next t) (hs : P s) : P t := by
  unfold Machine.step at h
  split at h
  · cases h
    exact hs
  · exact K.exec h (pending s _ hs)

end Sys2Proof.Steps
end

section
/-! SUPPORT. What requests and events do to the queue of commands and to the link: they take nothing from the queue,
and but for the link's own requests and POWER_ON they do no more to the link than queue notices (R187). -/

namespace Sys2Proof.Steps

open Sys2Proof Sys2Proof.Machine

/-- From s to t the queue of commands stays and the link is only queued to. -/
structure Quiet (s t : State) : Prop where
  pending : t.pending = s.pending
  link : QueuesOnly s.link t.link

namespace Quiet

theorem refl (s : State) : Quiet s s := ⟨rfl, .refl _⟩

theorem trans {a b c : State} (h : Quiet a b) (h' : Quiet b c) : Quiet a c :=
  ⟨h'.pending.trans h.pending, h.link.trans h'.link⟩

theorem of_keeps {s t : State} (h : Keeps s t) : Quiet s t := ⟨h.pending, h.link⟩

theorem of_show {s t : State} (h : KeepsShow s t) : Quiet s t := of_keeps h.toKeeps

theorem of_eq {s t : State} (hp : t.pending = s.pending) (hl : t.link = s.link) : Quiet s t :=
  ⟨hp, hl ▸ .refl _⟩

theorem ite {p : Prop} [Decidable p] {s a b : State} (ha : Quiet s a) (hb : Quiet s b) :
    Quiet s (if p then a else b) := by split <;> assumption

theorem settle {s t : State} (h : Quiet s t) : Quiet s (settle t) :=
  h.trans (of_keeps (settle_surface t).toKeeps)

theorem queueNotice (n : Notice) (s : State) : Quiet s (queueNotice n s) := of_show (queueNotice_show n s)

end Quiet

theorem updChans_pending (cs : List Chan) (f : Channel → Channel) (s : State) :
    (updChans cs f s).pending = s.pending :=
  List.foldlRecOn (motive := fun t : State => t.pending = s.pending) cs _ rfl fun _ h _ _ => h

theorem updChans_quiet (cs : List Chan) (f : Channel → Channel) (s : State) : Quiet s (updChans cs f s) :=
  .of_eq (updChans_pending cs f s) (updChans_link cs f s)

theorem resnap_quiet (before after : State) : Quiet after (resnap before after) := .of_show (resnap_show _ _)

theorem setAttributes_quiet (c : Chan) (a : Attributes) (s : State) : Quiet s (setAttributes c a s) :=
  ((updChans_quiet _ _ s).trans (resnap_quiet _ _)).trans (.of_show (removeClaims_show _ _))

theorem linkPair_quiet (k : PairId) (s : State) : Quiet s (linkPair k s) := by
  unfold linkPair
  split
  · exact .refl s
  · exact (((Quiet.of_eq rfl rfl : Quiet s (updChan _ _ s)).trans (resnap_quiet _ _)).trans
      (.of_show (removeClaims_show _ _))).trans (.of_eq rfl rfl)

theorem setGroup_quiet (g : Grp) (level : Int) (offset mute on : Bool) (s : State) :
    Quiet s (if mute then setGroupMute g on (if offset then setOffset g level s else s)
      else if offset then setOffset g level s else s) := by
  have first : Quiet s (if offset then setOffset g level s else s) :=
    .ite (.of_show (setOffset_show _ _ _)) (.refl s)
  exact .ite (first.trans (.of_show (setGroupMute_show _ _ _))) first

theorem changeMembers_quiet (g : Grp) (add : Bool) (cs : List Chan) (s : State) :
    Quiet s (changeMembers g add cs s) :=
  (updChans_quiet _ _ s).trans (resnap_quiet _ _)

theorem setSource_quiet (pulse : Bool) (w : Nat) (rising : Bool) (s : State) :
    Quiet s (setSource pulse w rising s) := by
  have set (f : Clock → Clock) : Quiet s (updClock f s) := .of_eq rfl rfl
  have notice (before : Source) (t : State) : Quiet t (noticeIfSource before t) :=
    .ite (.refl t) (.of_show (clockNotice_show _ t))
  have loss (t : State) : Quiet t (lossAtChange t) :=
    .ite (.of_keeps (expireLoss_surface t).toKeeps) (.refl t)
  exact ((set _).trans (notice _ _)).trans (loss _)

theorem advance_quiet (n : Nat) (s : State) : Quiet s (advance n s) := .of_keeps (advance_surface n s).toKeeps

theorem stepClock_quiet (n : Nat) (s : State) : Quiet s (stepClock n s) := by
  have enter : Quiet s (enterStepping s) :=
    .ite (.refl s) ((Quiet.of_eq rfl rfl : Quiet s (updClock _ s)).trans (.of_show (clockNotice_show _ _)))
  exact .ite (.refl s) (enter.trans (advance_quiet n _))

theorem enterStop_quiet (cause : StopCause) (s : State) : Quiet s (enterStop cause s) := by
  have activate : Quiet s (activateStop s) :=
    (Quiet.of_eq rfl rfl : Quiet s (updStop _ s)).trans (resnap_quiet _ _)
  have drop (t : State) : Quiet t (updPlay Playback.dropFollow (holdForStop t)) :=
    (Quiet.of_keeps (holdForStop_surface t).toKeeps).trans (.of_eq rfl rfl)
  exact ((activate.trans (drop _)).trans (.of_show (cancelWhere_show _ _ _))).trans
    (.of_show (stopNotice_show _ _ _))

theorem clearStop_quiet (s : State) : Quiet s (clearStop s) :=
  ((Quiet.of_eq rfl rfl : Quiet s (updStop _ s)).trans (resnap_quiet _ _)).trans (.of_show (stopNotice_show _ _ _))

theorem setStopRamp_quiet (n : Nat) (s : State) : Quiet s (setStopRamp n s) :=
  (Quiet.of_eq rfl rfl : Quiet s (updStop _ s)).trans (resnap_quiet _ _)

theorem setTable_quiet (t : TaperSel) (table : Vector Int 33) (s : State) : Quiet s (setTable t table s) := by
  cases t <;> exact .of_eq rfl rfl

/-- What an accepted request does to the link: it queues notices, or it is one of the link's own requests. -/
theorem Works.quiet {ty : Byte} {s w : State} (h : Works ty s w) :
    Quiet s w ∨ w = updLink (fun k => { k with stats := {} }) s
      ∨ (∃ m < 512, w = updLink (fun k => { k with mask := BitVec.ofNat 16 m }) s) ∨ w = Machine.softReset s := by
  cases h with
  | clearStats => exact .inr (.inl rfl)
  | setMask m bound => exact .inr (.inr (.inl ⟨m, bound, rfl⟩))
  | softReset => exact .inr (.inr (.inr rfl))
  | nothing => exact .inl (.refl s)
  | setAttributes => exact .inl (setAttributes_quiet _ _ s).settle
  | setLevel => exact .inl (Quiet.of_show (setLevel_show _ _ s)).settle
  | setTrim => exact .inl (.of_eq rfl rfl)
  | setOwnMute => exact .inl (.of_show (setOwnMute_show _ _ s))
  | linkPair => exact .inl (linkPair_quiet _ s).settle
  | unlinkPair => exact .inl (Quiet.of_eq rfl rfl : Quiet s (setLink _ _ s)).settle
  | setGroup => exact .inl (setGroup_quiet _ _ _ _ _ s).settle
  | changeMembers => exact .inl (changeMembers_quiet _ _ _ s)
  | setEntry => exact .inl (.of_eq rfl rfl)
  | setTable => exact .inl (setTable_quiet _ _ s)
  | createMove => exact .inl (Quiet.of_show (createMove_show _ _ _ s)).settle
  | cancelLive => exact .inl (Quiet.of_show (cancelWhere_show Move.isLive .cancelled s)).settle
  | cancelMove => exact .inl (Quiet.of_show (cancelMove_show _ _ s)).settle
  | tickFree => exact .inl (.of_eq rfl rfl)
  | setSource => exact .inl (setSource_quiet _ _ _ s)
  | setRate => exact .inl (.of_eq rfl (by rfl))
  | runClock => exact .inl (.of_keeps (runClock_surface _ s).toKeeps)
  | holdClock => exact .inl (.of_keeps (holdClock_surface _ s).toKeeps)
  | stepClock => exact .inl (stepClock_quiet _ s)
  | locate => exact .inl (.of_eq rfl rfl)
  | writeCue => exact .inl (.of_eq rfl rfl)
  | deleteCue => exact .inl (.of_eq rfl rfl)
  | clearCues => exact .inl (.of_eq rfl rfl)
  | go => exact .inl (Quiet.of_keeps (fireCue_surface _ _ s).toKeeps).settle
  | back => exact .inl (Quiet.of_keeps (undoFiring_surface _ _ s).toKeeps).settle
  | jump => exact .inl (.of_eq rfl rfl)
  | setBackTime => exact .inl (.of_eq rfl rfl)
  | configSurface => exact .inl (Quiet.of_keeps (configSurface_keepsClock _ s).toKeeps).settle
  | setBanks => exact .inl (Quiet.of_keeps (setBanks_keepsClock _ _ _ s).toKeeps).settle
  | startCalibration => exact .inl (Quiet.of_keeps (startCalibration_keepsClock _ s).toKeeps).settle
  | releaseUnits => exact .inl (Quiet.of_show (releaseUnits_show _ s)).settle
  | setLanes => exact .inl (.of_eq rfl rfl)
  | enterStop => exact .inl (enterStop_quiet _ s)
  | clearStop => exact .inl (clearStop_quiet s)
  | setStopRamp => exact .inl (setStopRamp_quiet _ s)

/-! ## Events -/

theorem stepRamps_quiet (s : State) : Quiet s (stepRamps s) := .of_eq (by simp [stepRamps]) (by simp [stepRamps])

theorem wallMillisecond_quiet (s : State) : Quiet s (wallMillisecond s) := by
  have tick : Quiet s (tickWall s) := .of_eq rfl rfl
  have count (t : State) : Quiet t (countDivider t) := .ite (.of_eq rfl rfl) (.refl t)
  have free (t : State) : Quiet t (tickFree t) := .of_eq rfl rfl
  refine .ite (.ite ?_ ?_) ((tick.trans (count _)).trans (stepRamps_quiet _))
  · exact (((tick.trans (free _)).trans (stepRamps_quiet _)).trans (advance_quiet 1 _)).settle
  · exact ((tick.trans (free _)).trans (advance_quiet 1 _)).settle.trans (stepRamps_quiet _)

theorem expireDivider_quiet (s : State) : Quiet s (expireDivider s) :=
  .ite ((Quiet.of_eq rfl rfl : Quiet s (updClock _ s)).trans (advance_quiet 1 _)).settle (.refl s)

theorem countEdge_quiet (s : State) : Quiet s (countEdge s) :=
  (Quiet.of_eq rfl rfl : Quiet s (armLoss s)).trans (advance_quiet _ _)

theorem takeEdge_quiet (rising : Bool) (s : State) : Quiet s (takeEdge rising s) := by
  unfold takeEdge
  split
  · split
    · exact .refl s
    · exact (countEdge_quiet s).settle
    · exact (((Quiet.of_eq rfl rfl : Quiet s (updClock _ s)).trans (countEdge_quiet _)).trans
        (.of_show (clockNotice_show _ _))).settle
  · exact .refl s

theorem takeStart_quiet (k : Slot) (s : State) : Quiet s (takeStart k s) := by
  unfold takeStart
  split
  · exact .refl s
  · exact .ite (Quiet.of_show (startDelayed_show k s)).settle (.refl s)

theorem takeEnd_quiet (k : Slot) (s : State) : Quiet s (takeEnd k s) := by
  unfold takeEnd
  split
  · exact .refl s
  · exact .ite (Quiet.of_show (endTraversal_show k s)).settle (.refl s)

theorem takeFollow_quiet (s : State) : Quiet s (takeFollow s) := by
  unfold takeFollow
  split
  · exact .ite (Quiet.of_keeps (expireFollow_surface s).toKeeps).settle (.refl s)
  · exact .refl s

theorem beginExchange_quiet (s : State) : Quiet s (beginExchange s) := by
  unfold beginExchange
  split
  · exact .refl s
  · split
    · exact .of_keeps (startExchange_keepsClock _ s).toKeeps
    · exact .refl s

theorem takeReply_quiet (bytes : List Byte) (s : State) : Quiet s (takeReply bytes s) := by
  unfold takeReply
  split
  · exact .refl s
  · split
    · exact .refl s
    · split
      · exact (Quiet.of_keeps ((endExchange_keepsClock s).trans (takeGoodReply_keepsClock _ _ _)).toKeeps).settle
      · exact .refl s

theorem closeWindow_quiet (s : State) : Quiet s (closeWindow s) := by
  unfold closeWindow
  split
  · exact .refl s
  · exact (Quiet.of_keeps ((endExchange_keepsClock s).trans (takeMiss_keepsClock _ _)).toKeeps).settle

theorem endDrive_quiet (m : ModuleId) (s : State) : Quiet s (endDrive m s) := by
  unfold endDrive
  dsimp only
  split
  · exact .refl s
  · split
    · split
      · exact .of_eq rfl rfl
      · exact .of_eq rfl rfl
      · exact .refl s
      · exact .refl s
      · exact .refl s
    · exact .refl s

theorem changeLane_quiet (id : LaneId) (cause : LaneCause) (f : Lane → Lane) (s : State) :
    Quiet s (changeLane id cause f s) := by
  have set : Quiet s (updLane id (fun _ => f (laneOf id s.lanes)) s) := .of_eq rfl rfl
  exact .ite set (set.trans (.queueNotice _ _))

theorem takeFrameStart_quiet (s : State) : Quiet s (takeFrameStart s) := by
  have apply : Quiet s (applyPending s) := by
    unfold applyPending
    split
    · exact .refl s
    · exact ((Quiet.of_eq rfl rfl : Quiet s (updLanes _ s)).trans (changeLane_quiet _ _ _ _)).trans
        (changeLane_quiet _ _ _ _)
  have begin (id : LaneId) (t : State) : Quiet t (beginFrame id t) := .ite (.of_eq rfl rfl) (.refl t)
  have schedule (t : State) : Quiet t (scheduleNext t) := .of_eq rfl rfl
  exact .ite (((apply.trans (schedule _)).trans (begin _ _)).trans (begin _ _)) (.refl s)

theorem readyEdge_quiet (id : LaneId) (rising : Bool) (s : State) : Quiet s (readyEdge id rising s) :=
  .ite (changeLane_quiet _ _ _ s) (changeLane_quiet _ _ _ s)

theorem assertStopIn_quiet (s : State) : Quiet s (assertStopIn s) := by
  have line : Quiet s (updStop (fun u => { u with line := true }) s) := .of_eq rfl rfl
  exact .ite (line.trans (.of_show (stopNotice_show _ _ _))) (line.trans (enterStop_quiet _ _))

theorem releaseStopIn_quiet (s : State) : Quiet s (releaseStopIn s) := by
  have line : Quiet s (updStop (fun u => { u with line := false }) s) := .of_eq rfl rfl
  exact .ite (line.trans (.of_show (stopNotice_show _ _ _))) line

/-- Every event but POWER_ON does no more to the link than queue notices. -/
theorem Happens.quiet {power : Bool} {s w : State} (h : Happens power s w) :
    Quiet s w ∨ ∃ resetIn rate stopIn readyA readyB, w = poweredOn resetIn rate stopIn readyA readyB s := by
  cases h with
  | powerOn resetIn rate stopIn readyA readyB => exact .inr ⟨_, _, _, _, _, rfl⟩
  | wallMillisecond => exact .inl (wallMillisecond_quiet s)
  | dividerCount => exact .inl (expireDivider_quiet s)
  | syncInEdge => exact .inl (takeEdge_quiet _ s)
  | pulseLoss => exact .inl (.ite (.of_keeps (expireLoss_surface s).toKeeps) (.refl s))
  | startEvent => exact .inl (takeStart_quiet _ s)
  | traversalEnd => exact .inl (takeEnd_quiet _ s)
  | endWatchExpiry => exact .inl (Quiet.of_show (expireEndWatch_show _ s)).settle
  | followExpiry => exact .inl (takeFollow_quiet s)
  | exchangeStart => exact .inl (beginExchange_quiet s)
  | goodReply => exact .inl (takeReply_quiet _ s)
  | replyWindowExpiry => exact .inl (closeWindow_quiet s)
  | driveTimerExpiry => exact .inl (endDrive_quiet _ s)
  | frameStart => exact .inl (takeFrameStart_quiet s)
  | frameCompletion => exact .inl (.ite (changeLane_quiet _ _ _ s) (.refl s))
  | laneReadyEdge => exact .inl (readyEdge_quiet _ _ s)
  | stopInAsserted => exact .inl (assertStopIn_quiet s)
  | stopInReleased => exact .inl (releaseStopIn_quiet s)

/-! ## The queue of commands (log entry 1) -/

theorem poweredOn_pending (resetIn : Bool) (rate : LineRate) (stopIn readyA readyB : Bool) (s : State) :
    (poweredOn resetIn rate stopIn readyA readyB s).pending = s.pending := by
  cases stopIn <;> rfl

theorem softReset_pending (s : State) : (Machine.softReset s).pending = s.pending := by
  unfold Machine.softReset
  rfl

theorem softReset_link (s : State) : (Machine.softReset s).link = s.link.softReset := by
  unfold Machine.softReset
  rfl

theorem kept_pending (cs : List Instr) : Kept (fun _ => True) true fun s => s.pending = cs where
  link _ _ h := h
  works _ s w _ work h := by
    rcases work.quiet with quiet | rfl | ⟨m, -, rfl⟩ | rfl
    · exact quiet.pending.trans h
    · exact h
    · exact h
    · exact (softReset_pending s).trans h
  happens s w event h := by
    rcases event.quiet with quiet | ⟨resetIn, rate, stopIn, readyA, readyB, rfl⟩
    · exact quiet.pending.trans h
    · exact (poweredOn_pending ..).trans h

/-- Every command has a next state. -/
theorem exec_next (c : Instr) (s : State) : ∃ t, exec c s = .next t := by
  cases c <;> exact ⟨_, rfl⟩

/-- Settles O1: the step is defined so. -/
theorem stepRunsFront : Obligations.StepRunsFront := by
  refine ⟨fun c rest s => rfl, fun s h => ?_⟩
  unfold step
  rw [h]

/-- Settles O2: a command has a next state, and neither requests nor events change the queue. -/
theorem everyStepGoesOn : Obligations.EveryStepGoesOn := by
  intro s
  cases h : s.pending with
  | nil => exact ⟨s, stepRunsFront.2 s h, h⟩
  | cons c rest =>
    obtain ⟨t, ht⟩ := exec_next c { s with pending := rest }
    refine ⟨t, ?_, (kept_pending rest).exec ht rfl⟩
    unfold step
    rw [h]
    exact ht

end Sys2Proof.Steps
end

section
/-! Proofs about the law of the control link (R184 to R189, R192): its bounds are kept by everything the link does,
and the transmitter's choice with the dispatches around it brings its order about. -/

namespace Sys2Proof.LinkOrder

open Sys2Proof Sys2Proof.Machine Sys2Proof.Steps

/-! ## The bounds -/

/-- The statistics stop at 65535 (R189). -/
structure StatsBound (t : LinkStats) : Prop where
  received : t.received ≤ 65535
  checksum : t.checksum ≤ 65535
  length : t.length ≤ 65535
  timeouts : t.timeouts ≤ 65535
  framing : t.framing ≤ 65535
  breaks : t.breaks ≤ 65535
  overruns : t.overruns ≤ 65535
  dropped : t.dropped ≤ 65535

/-- The part of the law of the link that says nothing of its order. -/
structure Bounds (k : Link) : Prop where
  queue : k.rxQueue.length ≤ 4
  notices : k.notices.length ≤ 32
  mask : k.mask.toNat < 512
  stats : StatsBound k.stats
  instant : k.instant = none

theorem bounds_of_law {k : Link} (h : LinkLaw k) : Bounds k := by
  obtain ⟨a, b, c, d, e, f, g, i⟩ := h.stats
  exact ⟨h.queue, h.notices, h.mask, ⟨a, b, c, d, e, f, g, i⟩, h.instant⟩

/-- The order of the link: nothing that it could send waits for an idle transmitter, and nothing is in hand while RESET
IN is held (R185, R186, R192). -/
structure Order (k : Link) : Prop where
  dispatched : k.rxQueue ≠ [] → k.reply.isSome = true
  replying : k.reply.isSome = true → k.tx.isSome = true
  sending : k.notices ≠ [] → k.tx.isSome = true ∨ k.held = true
  held : k.held = true → k.rxQueue = [] ∧ k.reply = none ∧ k.tx = none

theorem law_of_parts {k : Link} (b : Bounds k) (o : Order k) : LinkLaw k where
  queue := b.queue
  notices := b.notices
  mask := b.mask
  stats := ⟨b.stats.received, b.stats.checksum, b.stats.length, b.stats.timeouts, b.stats.framing, b.stats.breaks,
    b.stats.overruns, b.stats.dropped⟩
  dispatched := o.dispatched
  replying := o.replying
  sending := o.sending
  held := o.held
  instant := b.instant

theorem order_of_law {k : Link} (h : LinkLaw k) : Order k := ⟨h.dispatched, h.replying, h.sending, h.held⟩

theorem bump_le (n : Nat) : bump n ≤ 65535 := min_le_right _ _

theorem bounds_post {k : Link} (n : Notice) (h : Bounds k) : Bounds (k.post n) := by
  unfold Link.post
  split
  · exact h
  · split
    · rename_i room
      refine { h with notices := ?_ }
      simp only [Config.noticePlaces] at room
      simp only [List.length_append, List.length_singleton]
      omega
    · exact { h with stats := { h.stats with dropped := bump_le _ } }

theorem bounds_postAll (ns : List Notice) {k : Link} (h : Bounds k) : Bounds (ns.foldl (fun k n => k.post n) k) :=
  List.foldlRecOn (motive := Bounds) ns _ h fun _ hk n _ => bounds_post n hk

/-- With no instant in hand before, none is in hand after. -/
theorem bounds_queuesOnly {k k' : Link} (q : QueuesOnly k k') (h : Bounds k) : Bounds k' := by
  obtain ⟨ns, waiting, hw, rfl⟩ := q
  have none : waiting = none := by simpa [h.instant] using hw
  exact { bounds_postAll ns h with instant := none }

theorem bounds_works {ty : Byte} {s w : State} (work : Works ty s w) (h : Bounds s.link) : Bounds w.link := by
  rcases work.quiet with quiet | rfl | ⟨m, hm, rfl⟩ | rfl
  · exact bounds_queuesOnly quiet.link h
  · exact { h with stats := ⟨by simp, by simp, by simp, by simp, by simp, by simp, by simp, by simp⟩ }
  · refine { h with mask := ?_ }
    simp only [updLink_link, BitVec.toNat_ofNat]
    omega
  · rw [softReset_link]
    exact { h with queue := Nat.zero_le _, notices := Nat.zero_le _ }

/-- A property that every answer of a request has of the state it leaves. -/
theorem of_serve {P : State → Prop} {s : State} (refused : P s) (f : Frame) (worked : ∀ w, Works f.type s w → P w) :
    P (serve f s).1 := by
  have answer := serve_answers f s
  revert answer
  generalize serve f s = r
  rintro (_ | ⟨-, w, work⟩ | ⟨-, w, work⟩)
  · exact refused
  · exact worked w work
  · exact worked w work

theorem bounds_serve (f : Frame) {s : State} (h : Bounds s.link) : Bounds (serve f s).1.link :=
  of_serve (P := fun w => Bounds w.link) h f fun _ work => bounds_works work h

theorem bounds_dispatchHead {s : State} (h : Bounds s.link) : Bounds (dispatchHead s).link := by
  unfold dispatchHead
  split
  · exact h
  · split
    · exact h
    · rename_i f rest queue
      have shorter : Bounds (updLink (fun k => { k with rxQueue := rest }) s).link := by
        refine { h with queue := ?_ }
        have := h.queue
        rw [queue, List.length_cons] at this
        exact Nat.le_of_succ_le this
      have served := bounds_serve f shorter
      exact { served with }

theorem bounds_choose {s : State} (h : Bounds s.link) : Bounds (choose s).link := by
  unfold choose
  split
  · exact h
  · simp only [updLink_link]
    unfold Link.choose
    split
    · exact { h with }
    · split
      · rename_i n rest waiting
        refine { h with notices := ?_ }
        have := h.notices
        rw [waiting, List.length_cons] at this
        exact Nat.le_of_succ_le this
      · exact h

/-! ## The order -/

theorem dispatchHead_of_empty {s : State} (empty : s.link.rxQueue = []) : dispatchHead s = s := by
  unfold dispatchHead
  rw [empty]
  exact ite_self s

/-- After a dispatch a reply waits or no frame does (R185). -/
theorem dispatchHead_cases (s : State) (released : s.link.held = false) :
    (dispatchHead s).link.held = false ∧ (dispatchHead s).link.tx = s.link.tx ∧
      ((dispatchHead s).link.reply.isSome = true ∨
        (dispatchHead s).link.rxQueue = [] ∧ (dispatchHead s).link.reply = none ∧ dispatchHead s = s) := by
  unfold dispatchHead
  rw [released, Bool.false_or]
  split
  · rename_i reply
    exact ⟨released, rfl, .inl reply⟩
  · rename_i none
    split
    · rename_i empty
      exact ⟨released, rfl, .inr ⟨empty, by simpa using none, rfl⟩⟩
    · rename_i f rest _
      have path := serve_path f (updLink (fun k => { k with rxQueue := rest }) s)
      exact ⟨path.held.trans released, path.tx, .inl rfl⟩

/-- What an IDLE transmitter chooses (R186). -/
theorem choose_cases (s : State) (released : s.link.held = false) :
    (choose s).link.held = false ∧
      ((choose s).link.tx.isSome = true
        ∨ (choose s = s ∧ s.link.reply = none ∧ s.link.notices = [] ∧ s.link.tx = none)) := by
  unfold choose
  rw [released, Bool.false_or]
  split
  · rename_i sending
    exact ⟨released, .inl sending⟩
  · rename_i idle
    cases noReply : s.link.reply with
    | some r => simp [Link.choose, noReply, released]
    | none =>
      cases noNotice : s.link.notices with
      | cons n rest => simp [Link.choose, noReply, noNotice, released]
      | nil =>
        have same : s.link.choose = s.link := by simp [Link.choose, noReply, noNotice]
        have still : updLink Link.choose s = s := by rw [updLink, same]
        rw [still]
        exact ⟨released, .inr ⟨rfl, rfl, rfl, by simpa using idle⟩⟩

/-- A dispatch, the choice and the dispatch it allows leave the link in order (R185, R186; log entry 3). -/
theorem order_pump (s : State) (released : s.link.held = false) : Order (pump s).link := by
  unfold pump
  obtain ⟨released₁, -, first⟩ := dispatchHead_cases s released
  obtain ⟨released₂, chosen⟩ := choose_cases (dispatchHead s) released₁
  obtain ⟨released₃, tx, last⟩ := dispatchHead_cases (choose (dispatchHead s)) released₂
  have notHeld {p : Prop} : (dispatchHead (choose (dispatchHead s))).link.held = true → p := by simp [released₃]
  rcases chosen with sending | ⟨same, noReply, noNotice, idle⟩
  · rw [← tx] at sending
    refine ⟨fun queued => ?_, fun _ => sending, fun _ => .inl sending, notHeld⟩
    rcases last with reply | ⟨empty, -, -⟩
    · exact reply
    · exact absurd empty queued
  · have empty : (dispatchHead s).link.rxQueue = [] := by
      rcases first with reply | ⟨empty, -, -⟩
      · simp [noReply] at reply
      · exact empty
    have still : dispatchHead (choose (dispatchHead s)) = dispatchHead s := by rw [same, dispatchHead_of_empty empty]
    rw [still] at notHeld ⊢
    exact ⟨fun queued => absurd empty queued, fun reply => by simp [noReply] at reply,
      fun notices => absurd noNotice notices, notHeld⟩

/-- The choice after the notices of an event keeps the order (R186). -/
theorem order_choose {s w : State} (h : Order s.link) (path : KeepsPath s.link w.link) : Order (choose w).link := by
  have queue : w.link.rxQueue ≠ [] → s.link.rxQueue ≠ [] := by
    rcases path.queue with e | e <;> rw [e]
    · exact id
    · exact fun h => absurd rfl h
  have whole (sent : w.link.tx.isSome = true ∨ w.link.held = true ∨ w.link.notices = []) : Order w.link := by
    refine ⟨fun hq => by rw [path.reply]; exact h.dispatched (queue hq),
      fun hr => by rw [path.tx]; exact h.replying (path.reply ▸ hr), fun hn => ?_, fun hh => ?_⟩
    · rcases sent with tx | held | empty
      · exact .inl tx
      · exact .inr held
      · exact absurd empty hn
    · obtain ⟨noQueue, noReply, noTx⟩ := h.held (path.held ▸ hh)
      refine ⟨?_, path.reply.trans noReply, path.tx.trans noTx⟩
      rcases path.queue with e | e
      · exact e.trans noQueue
      · exact e
  cases held : w.link.held with
  | true =>
    have same : choose w = w := by simp [choose, held]
    rw [same]
    exact whole (.inr (.inl held))
  | false =>
    cases tx : w.link.tx with
    | some bytes =>
      have same : choose w = w := by simp [choose, tx]
      rw [same]
      exact whole (.inl (by simp [tx]))
    | none =>
      have noReply : w.link.reply = none := by
        cases hr : w.link.reply with
        | none => rfl
        | some r =>
          have := h.replying (by rw [← path.reply, hr]; rfl)
          rw [← path.tx, tx] at this
          cases this
      have noQueue : w.link.rxQueue = [] := by
        by_contra hq
        have := h.dispatched (queue hq)
        rw [← path.reply, noReply] at this
        cases this
      unfold choose
      rw [held, tx, if_neg (by simp), updLink_link]
      unfold Link.choose
      rw [noReply]
      dsimp only
      split
      · exact ⟨fun hq => absurd noQueue hq, fun hr => by simp at hr, fun _ => .inl rfl,
          fun hh => by simp [held] at hh⟩
      · rename_i noNotice
        exact whole (.inr (.inr noNotice))

/-! ## The law, command by command -/

theorem law_pump {s : State} (h : Bounds s.link) (released : s.link.held = false) : LinkLaw (pump s).link :=
  law_of_parts (bounds_dispatchHead (bounds_choose (bounds_dispatchHead h))) (order_pump s released)

theorem law_choose {s w : State} (h : LinkLaw s.link) (quiet : QueuesOnly s.link w.link) :
    LinkLaw (choose w).link :=
  law_of_parts (bounds_choose (bounds_queuesOnly quiet (bounds_of_law h))) (order_choose (order_of_law h) quiet.path)

/-- Counting and the receiver touch neither bounds nor order. -/
theorem law_count {k : Link} {f : LinkStats → LinkStats} (hf : ∀ t, StatsBound t → StatsBound (f t))
    (h : LinkLaw k) : LinkLaw (k.count f) :=
  law_of_parts { bounds_of_law h with stats := hf _ (bounds_of_law h).stats } { order_of_law h with }

theorem law_receiver {s : State} (r : Receiver) (h : LinkLaw s.link) : LinkLaw (setReceiver r s).link :=
  law_of_parts { bounds_of_law h with } { order_of_law h with }

theorem bounds_enqueue {k : Link} (f : Frame) (h : Bounds k) : Bounds (k.enqueue f) := by
  unfold Link.enqueue
  dsimp only
  split
  · rename_i room
    refine { h with
      queue := ?_
      stats := { h.stats with received := bump_le _ } }
    simp only [Config.rxPlaces] at room
    simp only [List.length_append, List.length_singleton]
    omega
  · exact { h with stats := { h.stats with received := bump_le _, overruns := bump_le _ } }

theorem enqueue_held (f : Frame) (k : Link) : (k.enqueue f).held = k.held := by
  unfold Link.enqueue
  dsimp only
  split <;> rfl

theorem law_completeRequest {s : State} (f : Frame) (h : LinkLaw s.link) (released : s.link.held = false) :
    LinkLaw (completeRequest f s).link :=
  law_pump (bounds_enqueue f (bounds_of_law h)) ((enqueue_held f s.link).trans released)

theorem law_submitFrame {s : State} (f : Frame) (h : LinkLaw s.link) : LinkLaw (submitFrame f s).link := by
  unfold submitFrame
  split
  · exact h
  · rename_i released
    split
    · exact law_count (f := fun t => { t with length := bump t.length })
        (fun t ht => { ht with length := bump_le _ }) h
    · exact law_completeRequest f h (by simpa using released)

theorem law_takeCharacter {s : State} (c : Byte) (h : LinkLaw s.link) (released : s.link.held = false) :
    LinkLaw (takeCharacter c s).link := by
  unfold takeCharacter
  split
  · exact h
  · split
    · exact law_receiver _ h
    · exact h
  · split
    · exact law_receiver _ h
    · exact law_count (f := fun t => { t with length := bump t.length })
        (fun t ht => { ht with length := bump_le _ }) (law_receiver .hunting h)
    · exact law_count (f := fun t => { t with checksum := bump t.checksum })
        (fun t ht => { ht with checksum := bump_le _ }) (law_receiver .hunting h)
    · exact law_completeRequest _ (law_receiver _ h) released

theorem law_framingError {s : State} (h : LinkLaw s.link) : LinkLaw (framingError s).link := by
  have counted {k : Link} (hk : LinkLaw k) : LinkLaw (k.count fun t => { t with framing := bump t.framing }) :=
    law_count (fun t ht => { ht with framing := bump_le _ }) hk
  unfold framingError
  split
  · exact h
  · exact counted h
  · exact counted (law_receiver .hunting h)

theorem law_receiveCharacter {s : State} (c : Byte) (stopBit : Bool) (h : LinkLaw s.link) :
    LinkLaw (receiveCharacter c stopBit s).link := by
  unfold receiveCharacter
  split
  · exact h
  · rename_i released
    split
    · exact law_takeCharacter c h (by simpa using released)
    · exact law_framingError h

theorem law_expireGap {s : State} (h : LinkLaw s.link) : LinkLaw (expireGap s).link := by
  unfold expireGap
  split
  · split
    · exact law_count (f := fun t => { t with timeouts := bump t.timeouts })
        (fun t ht => { ht with timeouts := bump_le _ }) (law_receiver .hunting h)
    · exact h
  · exact h
  · exact h

theorem law_takeBreak {s : State} (h : LinkLaw s.link) : LinkLaw (takeBreak s).link := by
  have counted : LinkLaw (countLink (fun t => { t with breaks := bump t.breaks }) (setReceiver .broken s)).link :=
    law_count (f := fun t => { t with breaks := bump t.breaks })
        (fun t ht => { ht with breaks := bump_le _ }) (law_receiver .broken h)
  unfold takeBreak
  split
  · exact h
  · split
    · exact h
    · exact counted
    · exact counted

theorem law_endBreak {s : State} (h : LinkLaw s.link) : LinkLaw (endBreak s).link := by
  unfold endBreak
  split
  · exact law_receiver _ h
  · exact h
  · exact h

/-- A frame is being sent only while RESET IN is released (R192). -/
theorem released_of_sending {k : Link} (h : LinkLaw k) (tx : k.tx.isSome = true) : k.held = false := by
  by_contra held
  obtain ⟨-, -, none⟩ := h.held (by simpa using held)
  simp [none] at tx

theorem law_endTransmit {s : State} (h : LinkLaw s.link) : LinkLaw (endTransmit s).link := by
  unfold endTransmit
  split
  · rename_i tx
    have released : s.link.held = false := released_of_sending h tx
    exact law_pump { bounds_of_law h with } released
  · exact h

/-- A fresh link holds nothing (R192). -/
theorem law_fresh (rate : LineRate) (held : Bool) : LinkLaw { rate := rate, held := held } where
  queue := by simp
  notices := by simp
  mask := (by decide : (0x01FF : BitVec 16).toNat < 512)
  stats := by simp
  dispatched h := absurd rfl h
  replying h := by simp at h
  sending h := absurd rfl h
  held _ := ⟨rfl, rfl, rfl⟩
  instant := rfl

theorem law_powerOn (resetIn : Bool) (rate : LineRate) (stopIn readyA readyB : Bool) (s : State) :
    LinkLaw (choose (poweredOn resetIn rate stopIn readyA readyB s)).link := by
  let fresh : State := { State.reset with link := { rate := rate, held := resetIn } }
  refine law_choose (s := fresh) (law_fresh rate resetIn) ?_
  cases stopIn
  · exact .refl _
  · exact QueuesOnly.queue (.stop .powerOn true true 0 0 .stopped) fresh.link

/-- With no frame to dispatch the choice is all that a dispatch and a choice do. -/
theorem pump_of_empty {s : State} (empty : s.link.rxQueue = []) : pump s = choose s := by
  unfold pump
  rw [dispatchHead_of_empty empty, dispatchHead_of_empty ((choose_rxQueue s).trans empty)]

theorem law_releaseResetIn {s : State} (h : LinkLaw s.link) : LinkLaw (releaseResetIn s).link := by
  unfold releaseResetIn
  cases held : s.link.held with
  | true =>
    obtain ⟨noQueue, -, -⟩ := h.held held
    have bounds : Bounds (updLink (fun k => { k with held := false }) s).link := { bounds_of_law h with }
    rw [← pump_of_empty (s := updLink (fun k => { k with held := false }) s) noQueue]
    exact law_pump bounds rfl
  | false =>
    have same : updLink (fun k => { k with held := false }) s = s := by
      unfold updLink
      rw [← held]
    rw [same]
    exact law_choose h (.refl _)

theorem beginExchange_link (s : State) : (beginExchange s).link = s.link := by
  unfold beginExchange
  split
  · rfl
  · split
    · rename_i m _
      exact List.foldlRecOn (motive := fun t : State => t.link = s.link) (stripsOf m) _ rfl fun _ h _ _ => h
    · rfl

theorem endDrive_link (m : ModuleId) (s : State) : (endDrive m s).link = s.link := by
  unfold endDrive
  dsimp only
  split
  · rfl
  · split
    · split <;> rfl
    · rfl

theorem law_event {s w : State} (h : LinkLaw s.link) (event : Happens true s w) : LinkLaw (choose w).link := by
  rcases event.quiet with quiet | ⟨resetIn, rate, stopIn, readyA, readyB, rfl⟩
  · exact law_choose h quiet.link
  · exact law_powerOn resetIn rate stopIn readyA readyB s

theorem law_exec {c : Instr} {s t : State} (h : LinkLaw s.link) (next : exec c s = .next t) : LinkLaw t.link := by
  cases hf : frameOfCommand c with
  | some f =>
    rw [exec_request hf] at next
    cases next
    exact law_submitFrame f h
  | none =>
    cases c <;> cases hf <;> cases next
    case none.characterReceived.refl.refl => exact law_receiveCharacter _ _ h
    case none.gapTimerExpiry.refl.refl => exact law_expireGap h
    case none.lineBreak.refl.refl => exact law_takeBreak h
    case none.transmitEnd.refl.refl => exact law_endTransmit h
    case none.powerOn.refl.refl => exact law_event h (.powerOn rfl _ _ _ _ _)
    case none.wallMillisecond.refl.refl => exact law_event h .wallMillisecond
    case none.dividerCount.refl.refl => exact law_event h .dividerCount
    case none.syncInEdge.refl.refl => exact law_event h (.syncInEdge _)
    case none.pulseLoss.refl.refl => exact law_event h .pulseLoss
    case none.startEvent.refl.refl => exact law_event h (.startEvent _)
    case none.traversalEnd.refl.refl => exact law_event h (.traversalEnd _)
    case none.endWatchExpiry.refl.refl => exact law_event h .endWatchExpiry
    case none.followExpiry.refl.refl => exact law_event h .followExpiry
    case none.exchangeStart.refl.refl => rw [beginExchange_link]; exact h
    case none.goodReply.refl.refl => exact law_event h (.goodReply _)
    case none.replyWindowExpiry.refl.refl => exact law_event h .replyWindowExpiry
    case none.driveTimerExpiry.refl.refl => rw [endDrive_link]; exact h
    case none.frameStart.refl.refl => exact law_event h .frameStart
    case none.frameCompletion.refl.refl => exact law_event h (.frameCompletion _)
    case none.laneReadyEdge.refl.refl => exact law_event h (.laneReadyEdge _ _)
    case none.stopInAsserted.refl.refl => exact law_event h .stopInAsserted
    case none.stopInReleased.refl.refl => exact law_event h .stopInReleased
    case none.lineHighAfterBreak.refl.refl => exact law_endBreak h
    case none.resetInReleased.refl.refl => exact law_releaseResetIn h

/-- Settles O60: bounds and order, command by command. -/
theorem linkStaysLawful : Obligations.LinkStaysLawful := by
  intro s t h next
  unfold step at next
  split at next
  · cases next
    exact h
  · rename_i c rest _
    exact law_exec (s := { s with pending := rest }) h next

end Sys2Proof.LinkOrder
end

section
/-! SUPPORT. The work of the Move Engine, the Takeover Unit, the Surface Controller and the Playback Controller as made
of a few operations: a property that these operations keep is kept by all of that work. Each law of the device is
proved through it. -/

namespace Sys2Proof.Closure

open Sys2Proof Sys2Proof.Machine

/-! ## The operations -/

/-- The state in which a LEVEL or GROUP move has started, before the retirements of its start (R56, R57, R59). -/
def started (k : Slot) (mv : Move) (start : Nat) (s : State) : State :=
  startPending k mv (setSlot k (some { mv with
    phase := .running start
    remaining := traversals mv
    due := addTime mv.timeBase start mv.duration }) s)

/-- The removal of claims and the retirement of the moves it empties keep P. -/
structure Claims (P : State → Prop) : Prop where
  link : ∀ (s : State) (k : Link), P s → P { s with link := k }
  report : ∀ (s : State) (firing r : Nat), P s → P (reportRetirement firing r s)
  unclaimChan : ∀ (s : State) (c : Chan), P s → P (unclaimChan c s)
  unclaimGroup : ∀ (s : State) (g : Grp), P s → P (unclaimGroup g s)
  free : ∀ (s : State) (k : Slot), isEmptied k s = true → P s → P (setSlot k none s)

/-- The operations that moves, hand-backs and the surface are made of keep P, where the moves that may be created are
those of `Fits`. -/
structure Core (Fits : Move → Prop) (P : State → Prop) : Prop extends Claims P where
  surf : ∀ (s : State) (u : Surface), P s → P { s with surf := u }
  ownMute : ∀ (s : State) (c : Chan) (on : Bool), P s → P (setOwnMute c on s)
  groupMute : ∀ (s : State) (g : Grp) (on : Bool), P s → P (setGroupMute g on s)
  cancel : ∀ (s : State) (k : Slot), P s → P (setSlot k none (freezeClaims k s))
  complete : ∀ (s : State) (k : Slot), P s → P (setSlot k none (completeClaims k s))
  place : ∀ (s : State) (k : Slot) (mv : Move) (created : Nat), s.moves[k] = none → Fits mv → P s →
    P (placeMove k mv created s)
  start : ∀ (s : State) (k : Slot) (mv : Move) (start : Nat), s.moves[k] = some mv → mv.kind.isInstant = false → P s →
    P (started k mv start s)
  turn : ∀ (s : State) (k : Slot) (mv : Move) (start : Nat), s.moves[k] = some mv → mv.phase = .running start → P s →
    P (turnRound k mv start s)
  auto : ∀ (s : State) (c : Chan), P s → P (setOwnership c .auto s)
  latch : ∀ (s : State) (c : Chan), s.chans[c].ownership = .touched → P s → P (setOwnership c .latched s)
  touch : ∀ (s : State) (c : Chan) (cause : TakeoverCause), P s → P (takeTouched c cause s)
  pickup : ∀ (s : State) (c : Chan) (side : Side) (i : StripId), P s →
    P (updChans (unitChans s c)
      (fun ch => { ch with ownership := .pickup, side := some side, pickupStrip := some i, balance := none }) s)
  side : ∀ (s : State) (c : Chan) (side : Option Side) (i : Option StripId), P s →
    P (updChans (unitChans s c) (fun ch => { ch with side := side, pickupStrip := i }) s)
  fader : ∀ (s t : State) (c : Chan) (i : StripId), P s → P t → P (writeFader c (faderLevel s i c) t)
  glide : ∀ (s : State) (c : Chan), P s → Fits (glideMove s c)
  act : ∀ (s : State) (k : Slot) (mv : Move), s.moves[k] = some mv → mv.phase = .delayed → mv.kind.isInstant = true →
    P s → P (actInstant mv s) → P (setSlot k none (actInstant mv s))

/-! ## Shared facts about slots -/

theorem setSlot_self {k : Slot} {s : State} {mv : Option Move} (h : s.moves[k] = mv) : setSlot k mv s = s := by
  subst h
  have same : s.moves.set k s.moves[k] = s.moves := by
    ext i hi
    simp only [Fin.getElem_fin, Vector.getElem_set]
    split
    · subst_vars; rfl
    · rfl
  unfold setSlot
  rw [same]

/-- The slot that a creation takes is FREE (R53). -/
theorem freeSlot_none {s : State} {k : Slot} (h : freeSlot s = some k) : s.moves[k] = none := by
  have := List.find?_some h
  simpa using this

theorem placeMove_moves (k j : Slot) (mv : Move) (created : Nat) (s : State) :
    (placeMove k mv created s).moves[j] =
      if k = j then some { mv with
        phase := .delayed
        due := addTime mv.timeBase created mv.delay
        remaining := traversals mv
        claims := 0
        seq := s.moveSeq } else s.moves[j] :=
  getSlot_setSlot k j _ s

theorem completeClaims_moves (k : Slot) (s : State) : (completeClaims k s).moves = s.moves := by
  simp [completeClaims]

theorem freezeClaims_moves (k : Slot) (s : State) : (freezeClaims k s).moves = s.moves := by
  simp [freezeClaims]

/-- A property of the state is kept by a fold whose steps keep it. -/
theorem foldl_keeps {α β : Type} {P : β → Prop} (f : β → α → β) (h : ∀ s a, P s → P (f s a)) (l : List α) {s : β}
    (hs : P s) : P (l.foldl f s) :=
  List.foldlRecOn l f hs fun s hs a _ => h s a hs

theorem ite_keeps {α : Type} {P : α → Prop} {p : Prop} [Decidable p] {a b : α} (ha : P a) (hb : P b) :
    P (if p then a else b) := by split <;> assumption

/-! ## What is made of them -/

namespace Claims

variable {P : State → Prop} (C : Claims P)
include C

theorem queueNotice {s : State} (n : Notice) (h : P s) : P (queueNotice n s) := C.link s _ h

/-- A retirement is its notice, its slot emptied, and its report (R71, R72). -/
theorem retire {s : State} {k : Slot} (reason : Reason) (r : Nat) (h : P (setSlot k none s)) :
    P (retire k reason r s) := by
  unfold Machine.retire
  split
  · rename_i free
    rwa [setSlot_self free] at h
  · have emptied (n : Notice) : P (setSlot k none (Machine.queueNotice n s)) := C.queueNotice n h
    dsimp only
    split
    · exact ite_keeps (C.report _ _ _ (emptied _)) (emptied _)
    · exact emptied _

theorem retireEmptied {s : State} (ks : List Slot) (h : P s) : P (retireEmptied ks s) := by
  refine foldl_keeps _ (fun s k hs => ?_) _ h
  split
  · rename_i emptied
    exact C.retire _ _ (C.free s k emptied.2 hs)
  · exact hs

theorem removeClaims {s : State} (cs : List Chan) (h : P s) : P (removeClaims cs s) :=
  C.retireEmptied _ (foldl_keeps _ (fun s c hs => C.unclaimChan s c hs) cs h)

theorem removeGroupClaim {s : State} (g : Grp) (h : P s) : P (removeGroupClaim g s) :=
  C.retireEmptied _ (C.unclaimGroup s g h)

end Claims

namespace Core

variable {Fits : Move → Prop} {P : State → Prop} (C : Core Fits P)
include C

theorem updSurf {s : State} (f : Surface → Surface) (h : P s) : P (updSurf f s) := C.surf s _ h

theorem inOneInstant {α : Type} {steps : State → State × α} (h : ∀ s, P s → P (steps s).1) {s : State} (hs : P s) :
    P (inOneInstant steps s).1 :=
  C.link _ _ (h _ (C.link s _ hs))

theorem cancelMove {s : State} (k : Slot) (reason : Reason) (h : P s) : P (cancelMove k reason s) :=
  C.retire _ _ (C.cancel s k h)

theorem cancelWhere {s : State} (p : Move → Bool) (reason : Reason) (h : P s) : P (cancelWhere p reason s) :=
  foldl_keeps _ (fun _ k hs => C.cancelMove k reason hs) _ h

theorem completeMove {s : State} (k : Slot) (h : P s) : P (completeMove k s) := by
  unfold Machine.completeMove
  split
  · exact h
  · exact C.retire _ _ (C.complete s k h)

theorem finishStart {s : State} (k : Slot) (h : P s) : P (finishStart k s) := by
  unfold Machine.finishStart
  split
  · exact h
  · rename_i mv occupied
    split
    · rename_i none
      exact C.retire _ _ (C.free s k (by simp [isEmptied, occupied, none]) h)
    · exact ite_keeps (C.completeMove k h) h

theorem sweepStart {s : State} (k : Slot) (stolen : List Slot) (h : P s) : P (sweepStart k stolen s) := by
  refine foldl_keeps _ (fun s j hs => ?_) _ h
  split
  · exact C.finishStart k hs
  · split
    · rename_i emptied
      exact C.retire _ _ (C.free s j emptied.2 hs)
    · exact hs

theorem startFading {s : State} {k : Slot} (start : Nat) (fades : ∀ mv, s.moves[k] = some mv → mv.kind.isInstant = false)
    (h : P s) : P (startFading k start s) := by
  unfold Machine.startFading
  split
  · exact h
  · rename_i mv occupied
    exact C.sweepStart k _ (C.start s k mv start occupied (fades mv occupied) h)

/-- The start that follows a placing: the slot holds the move placed. -/
theorem startPlaced {s : State} {k : Slot} {mv : Move} (created start : Nat) (free : s.moves[k] = none)
    (fades : mv.kind.isInstant = false) (fits : Fits mv) (h : P s) :
    P (Machine.startFading k start (placeMove k mv created s)) := by
  refine C.startFading start (fun mv' occupied => ?_) (C.place s k mv created free fits h)
  rw [placeMove_moves, if_pos rfl] at occupied
  cases occupied
  exact fades

theorem createRecorded {s : State} {mv : Move} (fades : mv.kind.isInstant = false) (fits : Fits mv) (h : P s) :
    P (createRecorded mv s).1 := by
  unfold Machine.createRecorded
  split
  · exact h
  · rename_i free
    exact C.startPlaced _ _ (freeSlot_none free) fades fits h

theorem endTraversal {s : State} (k : Slot) (h : P s) : P (endTraversal k s) := by
  unfold Machine.endTraversal
  split
  · exact h
  · rename_i mv occupied
    split
    · exact h
    · rename_i running
      exact ite_keeps (C.completeMove k h) (C.turn s k mv _ occupied running h)

/-! ### Hand-backs and deliveries (spec 07) -/

theorem askGlide {s : State} (c : Chan) (h : P s) : P (askGlide c s).1 := by
  unfold Machine.askGlide
  split
  · exact h
  · have made := C.createRecorded (mv := glideMove s c) rfl (C.glide s c h) h
    split
    · rename_i eq
      rw [eq] at made
      exact C.queueNotice _ made
    · rename_i eq
      rw [eq] at made
      exact made

theorem handBackGlide {s : State} (c : Chan) (cause : TakeoverCause) (h : P s) : P (handBackGlide c cause s).1 := by
  have back (n : Notice) : P (Machine.queueNotice n (setOwnership c .auto s)) := C.queueNotice n (C.auto s c h)
  unfold Machine.handBackGlide
  dsimp only
  split
  · exact back _
  · exact C.askGlide c (back _)

theorem handBack {s : State} (c : Chan) (cause : TakeoverCause) (h : P s) : P (handBack c cause s) :=
  C.handBackGlide c cause h

theorem enterPickup {s : State} (c : Chan) (side : Side) (i : StripId) (h : P s) : P (enterPickup c side i s) :=
  C.queueNotice _ (C.pickup s c side i h)

theorem deliverTouch {s : State} (c : Chan) (i : StripId) (h : P s) : P (deliverTouch c i s) := by
  unfold Machine.deliverTouch
  split
  · split
    · exact C.touch s c _ h
    · exact C.touch s c _ h
    · exact ite_keeps (C.touch s c _ h) (ite_keeps (C.enterPickup c _ i h) (C.enterPickup c _ i h))
  · exact C.touch s c _ h
  · exact h
  · exact h

theorem completeCrossing {s : State} (c : Chan) (i : StripId) (h : P s) : P (completeCrossing c i s) :=
  C.fader s _ c i h (C.touch s c _ h)

theorem deliverPosition {s : State} (c : Chan) (i : StripId) (h : P s) : P (deliverPosition c i s) := by
  unfold Machine.deliverPosition
  split
  · exact C.fader s s c i h h
  · dsimp only
    exact ite_keeps (ite_keeps (C.completeCrossing c i h) h)
      (ite_keeps (C.completeCrossing c i h) (C.side s c _ _ h))
  · exact h
  · exact h

theorem deliverRelease {s : State} (c : Chan) (h : P s) : P (deliverRelease c s) := by
  unfold Machine.deliverRelease
  split
  · exact C.queueNotice _ (C.auto s c h)
  · rename_i touched
    split
    · exact C.queueNotice _ (C.latch s c touched h)
    · exact C.handBack c _ h
    · exact C.handBack c _ h
  · exact h
  · exact h

theorem releaseUnits {s : State} (cs : List Chan) (h : P s) : P (releaseUnits cs s).state :=
  foldl_keeps (P := fun acc : HandBacks => P acc.state) _ (fun _ c hs => C.handBackGlide c _ hs) cs h

/-! ### Actions (R52 to R58) -/

theorem actGroup {s : State} (mv : Move) (on : Bool) (h : P s) : P (actGroup mv on s) := by
  unfold Machine.actGroup
  split
  · exact C.groupMute s _ on h
  · exact h

theorem actInstant {s : State} (mv : Move) (h : P s) : P (actInstant mv s) := by
  unfold Machine.actInstant
  split
  · exact foldl_keeps _ (fun s c hs => C.ownMute s c true hs) _ h
  · exact foldl_keeps _ (fun s c hs => C.ownMute s c false hs) _ h
  · exact C.actGroup mv true h
  · exact C.actGroup mv false h
  · exact foldl_keeps _ (fun s c hs => ite_keeps (C.handBack c _ hs) hs) _ h
  · exact h
  · exact h

theorem createMove {s : State} (o : Origin) (a : Action) (fireTime : Nat) (fits : Fits (moveOf s o a)) (h : P s) :
    P (createMove o a fireTime s).1 := by
  unfold Machine.createMove
  dsimp only
  split
  · exact h
  · split
    · exact C.actInstant _ h
    · rename_i fades
      split
      · exact h
      · rename_i free
        split
        · exact C.place s _ _ _ (freeSlot_none free) fits h
        · rename_i atOnce
          refine C.startPlaced _ _ (freeSlot_none free) ?_ fits h
          simp only [not_lt, Nat.le_zero] at atOnce
          simpa [atOnce] using fades

theorem startDelayed {s : State} (k : Slot) (h : P s) : P (startDelayed k s) := by
  unfold Machine.startDelayed
  split
  · exact h
  · rename_i mv occupied
    split
    · exact h
    · rename_i delayed
      split
      · rename_i instant
        exact C.retire _ _ (C.act s k mv occupied delayed instant h (C.actInstant mv h))
      · rename_i fades
        refine C.startFading _ (fun mv' occupied' => ?_) h
        rw [occupied] at occupied'
        cases occupied'
        simpa using fades

/-! ### The surface (specs 06 and 08) -/

theorem dropTouch {s : State} (i : StripId) (h : P s) : P (dropTouch i s) := by
  have off : P (updStrip i (fun t => { t with touch := false, counter := 0 }) s) := C.updSurf _ h
  unfold Machine.dropTouch
  dsimp only
  split
  · split
    · exact ite_keeps off (C.deliverRelease _ off)
    · exact off
  · exact off

theorem disarm {s : State} (i : StripId) (h : P s) : P (disarm i s) :=
  C.surf s _ h

theorem withdrawStrips {s : State} (m : ModuleId) (h : P s) : P (withdrawStrips m s) :=
  foldl_keeps _ (fun _ i hs => C.disarm i hs) _ (foldl_keeps _ (fun _ i hs => C.dropTouch i hs) _ h)

theorem goOffline {s : State} (m : ModuleId) (cause : ModuleCause) (h : P s) : P (goOffline m cause s) :=
  have offline : P (moduleNotice m cause (updModule m (fun r => { r with online := false, misses := 0 }) s)) :=
    C.queueNotice _ (C.updSurf _ h)
  C.withdrawStrips m (ite_keeps (C.queueNotice _ (C.updSurf _ offline)) offline)

theorem takeMiss {s : State} (m : ModuleId) (h : P s) : P (takeMiss m s) :=
  have counted : P (updModule m SurfaceModule.countMiss s) := C.updSurf _ h
  ite_keeps (ite_keeps (C.updSurf _ counted) (C.goOffline m _ counted)) counted

theorem rebind {s : State} (h : P s) : P (rebind s) :=
  foldl_keeps _ (fun _ i hs => C.disarm i (C.updSurf _ hs)) _ (foldl_keeps _ (fun _ i hs => C.dropTouch i hs) _ h)

theorem startExchange {s : State} (m : ModuleId) (h : P s) : P (startExchange m s) :=
  C.surf _ _ (foldl_keeps _ (fun s _ hs => C.surf s _ hs) (stripsOf m) h)

theorem deliverQualified {s : State} (i : StripId) (on : Bool) (h : P s) : P (deliverQualified i on s) := by
  have set : P (updStrip i (fun t => { t with touch := on, counter := 0 }) s) := C.updSurf _ h
  unfold Machine.deliverQualified
  dsimp only
  split
  · exact set
  · exact ite_keeps (ite_keeps set (C.deliverTouch _ i set)) (ite_keeps set (C.deliverRelease _ set))

theorem qualifyTouch {s : State} (i : StripId) (touch : Bool) (h : P s) : P (qualifyTouch i touch s) :=
  ite_keeps (ite_keeps h (C.updSurf _ h))
    (ite_keeps (C.updSurf _ h) (ite_keeps (C.deliverQualified i touch h) (C.updSurf _ h)))

theorem reportPosition {s : State} (i : StripId) (h : P s) : P (reportPosition i s) := by
  unfold Machine.reportPosition
  split
  · exact h
  · exact ite_keeps (C.deliverPosition _ i h) h

theorem takeKey {acc : State × List PairId} (i : StripId) (key : Bool) (h : P acc.1) : P (takeKey i key acc).1 := by
  unfold Machine.takeKey
  split
  · exact h
  · split
    · split
      · exact h
      · exact C.ownMute _ _ _ h
    · exact h

theorem takeStrip {acc : State × List PairId} (i : StripId) (r : StripReport) (h : P acc.1) :
    P (takeStrip i r acc).1 :=
  have recorded : P (updStrip i (recordReport r) acc.1) := C.updSurf _ h
  C.takeKey i _ (ite_keeps (C.reportPosition i (C.qualifyTouch i _ recorded)) recorded)

theorem takeStrips {s : State} (m : ModuleId) (rs : List StripReport) (h : P s) : P (takeStrips m rs s) :=
  C.inOneInstant (fun s hs => foldl_keeps (P := fun acc : State × List PairId => P acc.1) _
    (fun _ x hx => C.takeStrip x.1 x.2 hx) _ (s := (s, [])) hs) h

theorem evaluate {s : State} (m : ModuleId) (h : P s) : P (evaluate m s) :=
  C.queueNotice _ (C.updSurf _ (foldl_keeps _ (fun _ _ hs => C.updSurf _ hs) _ h))

theorem takeSample {s : State} (m : ModuleId) (startedIn : CalPhase) (raws : List Nat) (h : P s) :
    P (takeSample m startedIn raws s) := by
  unfold Machine.takeSample
  split
  · exact ite_keeps (C.updSurf _ h) h
  · exact ite_keeps (C.evaluate m (C.updSurf _ h)) h
  · exact h
  · exact h
  · exact h

theorem takeGoodReply {s : State} (x : Exchange) (rs : List StripReport) (h : P s) : P (takeGoodReply x rs s) :=
  have online : P (updModule x.module (fun r => { r with online := true, misses := 0 }) s) := C.updSurf _ h
  C.takeSample _ _ _ (C.takeStrips _ _ (ite_keeps online (C.queueNotice _ online)))

theorem configSurface {s : State} (a : SurfaceSettings) (h : P s) : P (configSurface a s) := by
  have set : P (Machine.updSurf (Surface.withSettings a) s) := C.updSurf _ h
  have discard {t : State} (ht : P t) : P (discardExchange t) := by
    unfold discardExchange
    split
    · exact ite_keeps (C.updSurf _ ht) ht
    · exact ht
  have removed {t : State} (ht : P t) : P ((removedModules t).foldl (fun s m => Machine.goOffline m .removed s) t) :=
    foldl_keeps _ (fun _ m hs => C.goOffline m _ hs) _ ht
  have change {t : State} (ht : P t) : P (changeExpected t) := C.surf _ _ (C.rebind (discard (removed ht)))
  exact ite_keeps set (change set)

theorem setBanks {s : State} (a b split : Nat) (h : P s) : P (setBanks a b split s) := C.rebind (C.updSurf _ h)

theorem startCalibration {s : State} (m : ModuleId) (h : P s) : P (startCalibration m s) :=
  C.withdrawStrips m (C.updSurf _ h)

theorem beginExchange {s : State} (h : P s) : P (beginExchange s) := by
  unfold Machine.beginExchange
  split
  · exact h
  · split
    · exact C.startExchange _ h
    · exact h

theorem endDrive {s : State} (m : ModuleId) (h : P s) : P (endDrive m s) := by
  unfold Machine.endDrive
  dsimp only
  split
  · exact h
  · split
    · split
      · exact C.updSurf _ h
      · exact C.updSurf _ h
      · exact h
      · exact h
      · exact h
    · exact h

end Core

/-! ## Playback and the advance of show time -/

/-- The operations of the clock and of playback keep P as well: a clock that does not fall and stays within the last
show time, the playback timers, the firing counter, the recall stack and the standby pointer. The cues and the recall
records that stand in a state with P make moves of `Fits` only. -/
structure Play (Fits : Move → Prop) (P : State → Prop) : Prop extends Core Fits P where
  choice : ∀ (s : State) (n : Nat), P s → P { s with freeCount := n }
  clock : ∀ (s : State) (k : Clock), s.clock.showTime ≤ k.showTime →
    k.showTime ≤ max s.clock.showTime Config.showMax → P s → P { s with clock := k }
  timers : ∀ (s : State) (p : Playback), p.store = s.play.store → p.standby = s.play.standby →
    p.recalls = s.play.recalls → P s → P { s with play := p }
  push : ∀ (s : State) (firing : Nat) (c : Cue), P s → P (updPlay (pushRecall (recallRecord s firing c)) s)
  pop : ∀ (s : State) (r : RecallRecord) (rest : List RecallRecord), s.play.recalls = r :: rest → P s →
    P (updPlay (fun p => { p with recalls := rest, follow := none, endWatch := none }) s)
  advance : ∀ (s : State) (c : Cue), P s → P (updPlay (advanceStandby c) s)
  back : ∀ (s : State) (r : RecallRecord), P s → P (updPlay (backStandby r) s)
  stored : ∀ (s : State) (c : Cue) (a : Action), P s → c ∈ s.play.store → a ∈ c.actions →
    ∀ (t : State) (o : Origin), Fits (moveOf t o a)
  recorded : ∀ (s : State) (r : RecallRecord), P s → r ∈ s.play.recalls →
    (∀ (t : State) (ls : List (Chan × Int)) (f : Nat), (∀ l ∈ ls, ∃ e ∈ r.chans, e.2.1 = l.2) →
      Fits (backMove .level (.lanes ls) f t)) ∧
    ∀ (t : State) (e : Grp × Int × Bool) (f : Nat), e ∈ r.groups → Fits (backMove .group (.groupTo e.1 e.2.1) f t)

/-- The standby cue is stored (R100). -/
theorem mem_of_standbyCue {s : State} {c : Cue} (h : standbyCue s = some c) : c ∈ s.play.store := by
  unfold standbyCue at h
  split at h
  · exact List.mem_of_find?_eq_some h
  · cases h

theorem armFollow_plan (c : Cue) (firing fireTime k : Nat) (p : Playback) :
    (armFollow c firing fireTime k p).plan = p.plan := by
  unfold armFollow
  split
  · rfl
  · rfl
  · split <;> rfl

/-- The earliest due time is the due time of an item. -/
theorem earliest_mem : ∀ {l : List (Nat × DueItem)} {d : Nat}, earliest l = some d → ∃ i ∈ l, i.1 = d
  | [], d, h => by cases h
  | i :: is, d, h => by
    unfold earliest at h
    split at h
    · rename_i e he
      obtain ⟨j, hj, rfl⟩ := earliest_mem he
      cases h
      rcases le_total i.1 j.1 with le | le
      · exact ⟨i, List.mem_cons_self, (min_eq_left le).symm⟩
      · exact ⟨j, List.mem_cons_of_mem _ hj, (min_eq_right le).symm⟩
    · cases h
      exact ⟨i, List.mem_cons_self, rfl⟩

/-- The due times of an advance lie within it (R81). -/
theorem earliest_within {t0 t1 d : Nat} {s : State} (h : earliest (itemsWithin t0 t1 s) = some d) : t0 < d ∧ d ≤ t1 := by
  obtain ⟨i, hi, rfl⟩ := earliest_mem h
  unfold itemsWithin at hi
  simpa using (List.mem_filter.mp hi).2

namespace Play

variable {Fits : Move → Prop} {P : State → Prop} (C : Play Fits P)
include C

/-- A change of the clock that keeps show time. -/
theorem sameTime {s : State} (f : Clock → Clock) (same : (f s.clock).showTime = s.clock.showTime) (h : P s) :
    P (updClock f s) :=
  C.clock s _ same.ge (same.le.trans (le_max_left _ _)) h

theorem clockNotice {s : State} (cause : ClockCause) (h : P s) : P (clockNotice cause s) := C.queueNotice _ h

theorem holdClock {s : State} (cause : ClockCause) (h : P s) : P (holdClock cause s) :=
  C.clockNotice cause (C.sameTime _ rfl h)

theorem saturate {s : State} (h : P s) : P (saturate s) := ite_keeps (C.holdClock _ h) h

theorem runClock {s : State} (cause : ClockCause) (h : P s) : P (runClock cause s) :=
  C.saturate (C.clockNotice cause (C.sameTime _ rfl h))

theorem startForGo {s : State} (h : P s) : P (startForGo s) := ite_keeps (C.runClock _ h) h

theorem createEach {s : State} (o : Origin) (fireTime : Nat) (as : List Action)
    (fits : ∀ a ∈ as, ∀ t : State, Fits (moveOf t o a)) (h : P s) : P (createEach o fireTime as s).1 :=
  List.foldlRecOn (motive := fun acc : State × Nat => P acc.1) as _ h
    fun acc hacc a ha => C.createMove o a fireTime (fits a ha acc.1) hacc

theorem fireActions {s : State} (o : Origin) (fireTime : Nat) (as : List Action)
    (fits : ∀ a ∈ as, ∀ t : State, Fits (moveOf t o a)) (h : P s) : P (fireActions o fireTime as s).1 :=
  C.inOneInstant (fun _ hs => C.createEach o fireTime as fits hs) h

theorem fireNotices {s : State} (cause : FireCause) (fireTime : Nat) (f : Fired) (h : P s) :
    P (fireNotices cause fireTime f s) :=
  ite_keeps (C.queueNotice _ (C.queueNotice _ h)) (C.queueNotice _ h)

theorem armFollow {s : State} (c : Cue) (firing fireTime k : Nat) (h : P s) :
    P (updPlay (armFollow c firing fireTime k) s) := by
  have plan := armFollow_plan c firing fireTime k s.play
  simp only [Playback.plan, Prod.mk.injEq] at plan
  obtain ⟨store, standby, -, recalls⟩ := plan
  exact C.timers s _ store standby recalls h

theorem fireCue {s : State} (c : Cue) (due : Option Nat) (member : c ∈ s.play.store) (h : P s) :
    P (fireCue c due s).1 := by
  have fits : ∀ a ∈ c.actions, ∀ (t : State) (o : Origin), Fits (moveOf t o a) := fun a ha => C.stored s c a h member ha
  have s1 := C.startForGo h
  unfold Machine.fireCue
  dsimp only
  refine C.fireNotices _ _ _ (C.armFollow c _ _ _ (C.advance _ c (C.fireActions _ _ _ (fun a ha t => fits a ha t _) ?_)))
  refine C.push _ _ c (C.timers _ _ rfl rfl rfl ?_)
  exact ite_keeps s1 (C.timers _ _ rfl rfl rfl s1)

theorem expireFollow {s : State} (h : P s) : P (expireFollow s) := by
  unfold Machine.expireFollow
  split
  · exact h
  · have emptied : P (updPlay (fun p => { p with follow := none }) s) := C.timers s _ rfl rfl rfl h
    dsimp only
    split
    · rename_i standby
      exact C.fireCue _ _ (mem_of_standbyCue standby) emptied
    · exact emptied

theorem settleFollows : ∀ (n : Nat) {s : State}, P s → P (settleFollows n s)
  | 0, _, h => h
  | n + 1, s, h => by
    unfold Machine.settleFollows
    split
    · exact ite_keeps (settleFollows n (C.expireFollow h)) h
    · exact h

theorem settle {s : State} (h : P s) : P (settle s) := C.settleFollows _ h

/-! ### BACK (R111) -/

theorem createBack {kind : MoveKind} {pending : Pending} {firing : Nat} {acc : State × Nat}
    (fades : kind.isInstant = false) (fits : Fits (backMove kind pending firing acc.1)) (h : P acc.1) :
    P (createBack kind pending firing acc).1 := by
  have made := C.createRecorded (mv := backMove kind pending firing acc.1) fades fits h
  unfold Machine.createBack
  split <;>
  · rename_i eq
    rw [eq] at made
    exact made

theorem backChannels {r : RecallRecord} {acc : State × Nat}
    (fits : ∀ (t : State) (ls : List (Chan × Int)) (f : Nat), (∀ l ∈ ls, ∃ e ∈ r.chans, e.2.1 = l.2) →
      Fits (backMove .level (.lanes ls) f t)) (h : P acc.1) : P (backChannels r acc).1 := by
  unfold Machine.backChannels
  split
  · exact h
  · refine C.createBack rfl (fits _ _ _ fun l hl => ?_) h
    obtain ⟨e, he, rfl⟩ := List.mem_map.mp hl
    exact ⟨e, (List.mem_filter.mp he).1, rfl⟩

theorem backGroups {r : RecallRecord} {acc : State × Nat}
    (fits : ∀ (t : State) (e : Grp × Int × Bool) (f : Nat), e ∈ r.groups →
      Fits (backMove .group (.groupTo e.1 e.2.1) f t)) (h : P acc.1) : P (backGroups r acc).1 :=
  List.foldlRecOn (motive := fun acc : State × Nat => P acc.1) r.groups _ h
    fun acc hacc e he => C.createBack rfl (fits acc.1 e r.firing he) hacc

theorem undoFiring {s : State} (r : RecallRecord) (rest : List RecallRecord) (top : s.play.recalls = r :: rest)
    (h : P s) : P (undoFiring r rest s).1 := by
  obtain ⟨fitsChans, fitsGroups⟩ := C.recorded s r h (top ▸ List.mem_cons_self)
  unfold Machine.undoFiring Machine.inOneInstant
  refine C.link _ _ ?_
  unfold backSteps
  dsimp only
  refine C.back _ r (C.backGroups fitsGroups (C.backChannels fitsChans ?_))
  refine foldl_keeps _ (fun t e ht => C.groupMute t _ _ ht) _ ?_
  refine foldl_keeps _ (fun t e ht => ite_keeps ht (C.ownMute t _ _ ht)) _ ?_
  exact C.cancelWhere _ _ (C.pop _ r rest top (C.link s _ h))

/-! ### An advance (R81, R85) -/

theorem takeItem {s : State} (i : DueItem) (h : P s) : P (takeItem i s) := by
  unfold Machine.takeItem
  split
  · exact C.startDelayed _ h
  · exact C.endTraversal _ h
  · exact C.expireFollow h

theorem settleItem {i : DueItem} {before after : State} (h : P after) : P (settleItem i before after) := by
  rcases settleItem_cases i before after with e | e <;> rw [e]
  · exact h
  · exact C.settle h

theorem reachInstant {s : State} {d : Nat} (bound : d ≤ Config.showMax) (h : P s) : P (reachInstant d s) := by
  have reached : P { s with clock := { s.clock with showTime := max s.clock.showTime d } } :=
    C.clock s _ (le_max_left _ _) (max_le_max le_rfl bound) h
  exact C.link _ _ reached

theorem takeItems {t1 : Nat} (bound : t1 ≤ Config.showMax) : ∀ (n t0 : Nat) {s : State}, P s → P (takeItems n t0 t1 s)
  | 0, _, _, h => h
  | n + 1, t0, s, h => by
    unfold Machine.takeItems
    split
    · exact h
    · rename_i d first
      split
      · exact h
      · rename_i i s1 picked
        have p1 : P s1 := by
          rcases pickItem_state _ _ _ _ picked with rfl | rfl
          · exact h
          · exact C.choice s _ h
        have within := (earliest_within first).2.trans bound
        exact takeItems bound n t0 (C.settleItem (C.takeItem i (C.reachInstant within p1)))

theorem advanceTime {s : State} (n : Nat) (h : P s) : P (Machine.advance n s) := by
  have bound : min (s.clock.showTime + n) Config.showMax ≤ Config.showMax := min_le_right _ _
  have taken := C.inOneInstant (steps := fun t =>
    (Machine.takeItems Config.chainFuel s.clock.showTime (min (s.clock.showTime + n) Config.showMax) t, ()))
    (fun _ hs => C.takeItems bound _ _ hs) h
  exact C.saturate (C.clock _ { Machine.State.clock _ with showTime := max _ _ } (le_max_left _ _)
    (max_le_max le_rfl bound) taken)

end Play

/-! ## A whole step -/

/-- The operations of the requests on records keep P as well, and so do the follows that then expire. -/
structure Records (Fits : Move → Prop) (P : State → Prop) : Prop extends Core Fits P where
  settle : ∀ s : State, P s → P (settle s)
  count : ∀ (s : State) (n : Nat), P s → P { s with freeCount := n }
  lanes : ∀ (s : State) (l : Lanes), P s → P { s with lanes := l }
  attributes : ∀ (s : State) (c : Chan) (a : Attributes), P s → P (setAttributes c a s)
  level : ∀ (s : State) (c : Chan) (level : Int), P s → P (setLevel c (clampLevel level) s)
  trim : ∀ (s : State) (c : Chan) (trim : Int), P s →
    P (updChan c (fun ch => { ch with trim := clampInt (-Config.trimMax) Config.trimMax trim }) s)
  linkPair : ∀ (s : State) (k : PairId), isAuto s (evenOf k) = true → isAuto s (oddOf k) = true → P s →
    P (linkPair k s)
  unlink : ∀ (s : State) (k : PairId), P s → P (setLink k false s)
  offset : ∀ (s : State) (g : Grp) (level : Int), P s → P (setOffset g (clampLevel level) s)
  members : ∀ (s : State) (g : Grp) (add : Bool) (cs : List Chan), P s → P (changeMembers g add cs s)
  sets : ∀ (s : State) (sets : Vector (List Chan) 32), P s → P { s with sets := sets }
  table : ∀ (s : State) (t : TaperSel) (levels : List Int), levels.length = 33 → taperAllowed levels = true → P s →
    P (setTable t (tableFrom levels) s)
  writeCue : ∀ (s : State) (c : Cue), storeFull (clampCue c) s.play.store = false → P s →
    P (updPlay (fun p => { p with store := insertCue (clampCue c) p.store }) s)
  deleteCue : ∀ (s : State) (n : Nat), P s → P (updPlay (deleteCue n) s)
  clearCues : ∀ s : State, P s →
    P (updPlay (fun p => { p with store := [], standby := none, follow := none, endWatch := none }) s)
  jump : ∀ (s : State) (n : Nat), (findCue n s.play.store).isSome = true → P s → P (updPlay (jumpTo n) s)
  backTime : ∀ (s : State) (n : Nat), P s → P (updPlay (fun p => { p with backTime := n }) s)

/-- The works that move the clock, fire cues or create the moves of a request. -/
inductive Plays (s : State) : State → Prop where
  | createMove (tag : Byte) (a : Action) (clear : s.stop.active = false) :
      Plays s (settle (createMove (.live tag) (clampAction a) s.clock.showTime s).1)
  | setSource (pulse : Bool) (w : Nat) (rising : Bool) : Plays s (setSource pulse w rising s)
  | setRate (d : Nat) :
      Plays s (updClock (fun k => if k.divisor = d then k else { k with divisor := d, divCount := 0 }) s)
  | runClock (clear : s.stop.active = false) : Plays s (runClock .request s)
  | holdClock : Plays s (holdClock .request s)
  | stepClock (n : Nat) (clear : s.stop.active = false) : Plays s (stepClock n s)
  | go (c : Cue) (clear : s.stop.active = false) (standby : standbyCue s = some c) :
      Plays s (Machine.settle (fireCue c none s).1)
  | back (r : RecallRecord) (rest : List RecallRecord) (clear : s.stop.active = false)
      (top : s.play.recalls = r :: rest) : Plays s (Machine.settle (undoFiring r rest s).1)

/-- The works that set show time or change the stop, with the resets. -/
inductive Sets (ty : Byte) (s : State) : State → Prop where
  | locate (type : ty = 0x2D) (t : Nat) (bound : t ≤ Config.showMax) :
      Sets ty s (updClock (fun k => { k with showTime := t, divCount := 0 }) s)
  | softReset (type : ty = 0x02) : Sets ty s (softReset s)
  | enterStop (clear : s.stop.active = false) : Sets ty s (enterStop .request s)
  | clearStop (line : s.stop.line = false) : Sets ty s (clearStop s)
  | setStopRamp (n : Nat) : Sets ty s (setStopRamp n s)

/-- The events in which time passes, or a timer of playback expires. -/
inductive Passes (s : State) : State → Prop where
  | wallMillisecond : Passes s (wallMillisecond s)
  | dividerCount : Passes s (expireDivider s)
  | syncInEdge (rising : Bool) : Passes s (takeEdge rising s)
  | pulseLoss : Passes s (takeLoss s)
  | endWatchExpiry : Passes s (takeWatch s)
  | followExpiry : Passes s (takeFollow s)

/-- The events that change the stop, with POWER_ON. -/
inductive Switches (power : Bool) (s : State) : State → Prop where
  | powerOn (on : power = true) (resetIn : Bool) (rate : LineRate) (stopIn readyA readyB : Bool) :
      Switches power s (poweredOn resetIn rate stopIn readyA readyB s)
  | stopInAsserted : Switches power s (assertStopIn s)
  | stopInReleased : Switches power s (releaseStopIn s)

namespace Records

variable {Fits : Move → Prop} {P : State → Prop} (C : Records Fits P)
include C

theorem setGroup {s : State} (g : Grp) (level : Int) (offset mute on : Bool) (h : P s) :
    P (if mute then setGroupMute g on (if offset then setOffset g (clampLevel level) s else s)
      else if offset then setOffset g (clampLevel level) s else s) :=
  have first : P (if offset then setOffset g (clampLevel level) s else s) := ite_keeps (C.offset s g level h) h
  ite_keeps (C.groupMute _ g on first) first

/-- Every other work keeps P. -/
theorem works {ty : Byte} {s w : State} (work : Steps.Works ty s w) (h : P s) : P w ∨ Plays s w ∨ Sets ty s w := by
  cases work with
  | nothing => exact .inl h
  | setAttributes c a => exact .inl (C.settle _ (C.attributes s c a h))
  | setLevel c level => exact .inl (C.settle _ (C.level s c level h))
  | setTrim c trim => exact .inl (C.trim s c trim h)
  | setOwnMute c on => exact .inl (C.ownMute s c on h)
  | linkPair k even odd => exact .inl (C.settle _ (C.linkPair s k even odd h))
  | unlinkPair k => exact .inl (C.settle _ (C.unlink s k h))
  | setGroup => exact .inl (C.settle _ (C.setGroup _ _ _ _ _ h))
  | changeMembers g add cs => exact .inl (C.members s g add cs h)
  | setEntry => exact .inl (C.sets s _ h)
  | setTable t levels many allowed => exact .inl (C.table s t levels many allowed h)
  | createMove tag a clear => exact .inr (.inl (.createMove tag a clear))
  | cancelLive => exact .inl (C.settle _ (C.cancelWhere _ _ h))
  | cancelMove => exact .inl (C.settle _ (C.cancelMove _ _ h))
  | tickFree => exact .inl (C.count s _ h)
  | setSource => exact .inr (.inl (.setSource _ _ _))
  | setRate d => exact .inr (.inl (.setRate d))
  | runClock clear => exact .inr (.inl (.runClock clear))
  | holdClock => exact .inr (.inl .holdClock)
  | stepClock n clear => exact .inr (.inl (.stepClock n clear))
  | locate type t bound => exact .inr (.inr (.locate type t bound))
  | writeCue c room => exact .inl (C.writeCue s c room h)
  | deleteCue n => exact .inl (C.deleteCue s n h)
  | clearCues => exact .inl (C.clearCues s h)
  | go c clear standby => exact .inr (.inl (.go c clear standby))
  | back r rest clear top => exact .inr (.inl (.back r rest clear top))
  | jump n stored => exact .inl (C.jump s n stored h)
  | setBackTime n => exact .inl (C.backTime s n h)
  | configSurface => exact .inl (C.settle _ (C.configSurface _ h))
  | setBanks => exact .inl (C.settle _ (C.setBanks _ _ _ h))
  | startCalibration => exact .inl (C.settle _ (C.startCalibration _ h))
  | releaseUnits => exact .inl (C.settle _ (C.releaseUnits _ h))
  | setLanes => exact .inl (C.lanes s _ h)
  | enterStop clear => exact .inr (.inr (.enterStop clear))
  | clearStop line => exact .inr (.inr (.clearStop line))
  | setStopRamp n => exact .inr (.inr (.setStopRamp n))
  | clearStats => exact .inl (C.link s _ h)
  | setMask => exact .inl (C.link s _ h)
  | softReset type => exact .inr (.inr (.softReset type))

theorem changeLane {s : State} (id : LaneId) (cause : LaneCause) (f : Lane → Lane) (h : P s) :
    P (changeLane id cause f s) :=
  have set : P (updLane id (fun _ => f (laneOf id s.lanes)) s) := C.lanes s _ h
  ite_keeps set (C.queueNotice _ set)

theorem startFrames {s : State} (h : P s) : P (startFrames s) := by
  have applied : P (applyPending s) := by
    unfold applyPending
    split
    · exact h
    · exact C.changeLane _ _ _ (C.changeLane _ _ _ (C.lanes s _ h))
  have begun (id : LaneId) {t : State} (ht : P t) : P (beginFrame id t) := ite_keeps (C.lanes t _ ht) ht
  exact begun _ (begun _ (C.lanes _ _ applied))

theorem takeStart {s : State} (k : Slot) (h : P s) : P (takeStart k s) := by
  unfold Machine.takeStart
  split
  · exact h
  · exact ite_keeps (C.settle _ (C.startDelayed k h)) h

theorem takeEnd {s : State} (k : Slot) (h : P s) : P (takeEnd k s) := by
  unfold Machine.takeEnd
  split
  · exact h
  · exact ite_keeps (C.settle _ (C.endTraversal k h)) h

theorem takeReply {s : State} (bytes : List Byte) (h : P s) : P (takeReply bytes s) := by
  unfold Machine.takeReply
  split
  · exact h
  · split
    · exact h
    · split
      · exact C.settle _ (C.takeGoodReply _ _ (C.updSurf _ h))
      · exact h

theorem closeWindow {s : State} (h : P s) : P (closeWindow s) := by
  unfold Machine.closeWindow
  split
  · exact h
  · exact C.settle _ (C.takeMiss _ (C.updSurf _ h))

/-- Every other event keeps P. -/
theorem happens {power : Bool} {s w : State} (event : Steps.Happens power s w) (h : P s) : P w ∨ Passes s w ∨ Switches power s w := by
  cases event with
  | powerOn on => exact .inr (.inr (.powerOn on _ _ _ _ _))
  | wallMillisecond => exact .inr (.inl .wallMillisecond)
  | dividerCount => exact .inr (.inl .dividerCount)
  | syncInEdge rising => exact .inr (.inl (.syncInEdge rising))
  | pulseLoss => exact .inr (.inl .pulseLoss)
  | startEvent => exact .inl (C.takeStart _ h)
  | traversalEnd => exact .inl (C.takeEnd _ h)
  | endWatchExpiry => exact .inr (.inl .endWatchExpiry)
  | followExpiry => exact .inr (.inl .followExpiry)
  | exchangeStart => exact .inl (C.beginExchange h)
  | goodReply => exact .inl (C.takeReply _ h)
  | replyWindowExpiry => exact .inl (C.closeWindow h)
  | driveTimerExpiry => exact .inl (C.endDrive _ h)
  | frameStart => exact .inl (ite_keeps (C.startFrames h) h)
  | frameCompletion => exact .inl (ite_keeps (C.changeLane _ _ _ h) h)
  | laneReadyEdge => exact .inl (ite_keeps (C.changeLane _ _ _ h) (C.changeLane _ _ _ h))
  | stopInAsserted => exact .inr (.inr .stopInAsserted)
  | stopInReleased => exact .inr (.inr .stopInReleased)

end Records

/-- Playback and the records together, with the ramps of a wall millisecond: what is kept but for a change of the
stop, a reset and CLOCK LOCATE. -/
structure Show (Fits : Move → Prop) (P : State → Prop) : Prop extends Play Fits P, Records Fits P where
  ramps : ∀ s : State, P s → P (stepRamps s)
  live : ∀ (t : State) (o : Origin) (a : Action), Fits (moveOf t o (clampAction a))

namespace Show

variable {Fits : Move → Prop} {P : State → Prop} (C : Show Fits P)
include C

theorem setSource {s : State} (pulse : Bool) (w : Nat) (rising : Bool) (h : P s) : P (setSource pulse w rising s) := by
  have loss {t : State} (ht : P t) : P (lossAtChange t) := ite_keeps (C.clockNotice _ (C.sameTime _ rfl ht)) ht
  have notice {t : State} (ht : P t) : P (noticeIfSource s.clock.source t) := ite_keeps ht (C.clockNotice _ ht)
  refine loss (notice (C.sameTime _ ?_ h))
  dsimp only
  split
  · unfold Clock.toPulse
    split <;> rfl
  · rfl

theorem stepClock {s : State} (n : Nat) (h : P s) : P (stepClock n s) :=
  ite_keeps h (C.advanceTime n (ite_keeps h (C.clockNotice _ (C.sameTime _ rfl h))))

theorem plays {s w : State} (work : Plays s w) (h : P s) : P w := by
  cases work with
  | createMove => exact C.settle _ (C.createMove _ _ _ (C.live _ _ _) h)
  | setSource => exact C.setSource _ _ _ h
  | setRate => exact C.sameTime _ (by split <;> rfl) h
  | runClock => exact C.runClock _ h
  | holdClock => exact C.holdClock _ h
  | stepClock => exact C.stepClock _ h
  | go c _ standby => exact C.settle _ (C.fireCue c _ (mem_of_standbyCue standby) h)
  | back r rest _ top => exact C.settle _ (C.undoFiring r rest top h)

/-- Every other work keeps P. -/
theorem works {ty : Byte} {s w : State} (work : Steps.Works ty s w) (h : P s) : P w ∨ Sets ty s w :=
  (C.toRecords.works work h).elim .inl fun other => other.imp_left fun play => C.plays play h

theorem wallMillisecond {s : State} (h : P s) : P (wallMillisecond s) := by
  have ticked : P (tickWall s) := C.updSurf _ (C.sameTime _ rfl h)
  unfold Machine.wallMillisecond
  dsimp only
  split
  · split
    · exact C.settle _ (C.advanceTime 1 (C.ramps _ (C.choice _ _ ticked)))
    · exact C.ramps _ (C.settle _ (C.advanceTime 1 (C.choice _ _ ticked)))
  · exact C.ramps _ (ite_keeps (C.sameTime _ rfl ticked) ticked)

theorem countEdge {s : State} (h : P s) : P (countEdge s) := C.advanceTime _ (C.sameTime _ rfl h)

theorem takeEdge {s : State} (rising : Bool) (h : P s) : P (takeEdge rising s) := by
  unfold Machine.takeEdge
  split
  · split
    · exact h
    · exact C.settle _ (C.countEdge h)
    · exact C.settle _ (C.clockNotice _ (C.countEdge (C.sameTime _ rfl h)))
  · exact h

theorem expireEndWatch {s : State} (r : Nat) (h : P s) : P (expireEndWatch r s) := by
  unfold Machine.expireEndWatch
  split
  · exact ite_keeps (C.timers s _ rfl rfl rfl h) h
  · exact h

theorem takeFollow {s : State} (h : P s) : P (takeFollow s) := by
  unfold Machine.takeFollow
  split
  · exact ite_keeps (C.settle _ (C.expireFollow h)) h
  · exact h

theorem passes {s w : State} (event : Passes s w) (h : P s) : P w := by
  cases event with
  | wallMillisecond => exact C.wallMillisecond h
  | dividerCount => exact ite_keeps (C.settle _ (C.advanceTime 1 (C.sameTime _ rfl h))) h
  | syncInEdge => exact C.takeEdge _ h
  | pulseLoss => exact ite_keeps (C.clockNotice _ (C.sameTime _ rfl h)) h
  | endWatchExpiry => exact C.settle _ (C.expireEndWatch _ h)
  | followExpiry => exact C.takeFollow h

/-- Every other event keeps P. -/
theorem happens {power : Bool} {s w : State} (event : Steps.Happens power s w) (h : P s) : P w ∨ Switches power s w :=
  (C.toRecords.happens event h).elim .inl fun other => other.imp_left fun pass => C.passes pass h

end Show

/-- Changes of the stop keep P as well. -/
structure Stops (Fits : Move → Prop) (P : State → Prop) : Prop extends Show Fits P where
  stop : ∀ (s : State) (f : StopUnit → StopUnit), P s → P (resnap s (updStop f s))
  line : ∀ (s : State) (on : Bool), P s → P (updStop (fun u => { u with line := on }) s)

namespace Stops

variable {Fits : Move → Prop} {P : State → Prop} (C : Stops Fits P)
include C

theorem enterStop {s : State} (cause : StopCause) (h : P s) : P (enterStop cause s) := by
  have activated : P (activateStop s) := C.stop s _ h
  have held : P (holdForStop (activateStop s)) := ite_keeps (C.holdClock _ activated) activated
  exact C.queueNotice _ (C.cancelWhere _ _ (C.timers _ _ rfl rfl rfl held))

theorem assertStopIn {s : State} (h : P s) : P (assertStopIn s) :=
  ite_keeps (C.queueNotice _ (C.line s true h)) (C.enterStop _ (C.line s true h))

theorem releaseStopIn {s : State} (h : P s) : P (releaseStopIn s) :=
  ite_keeps (C.queueNotice _ (C.line s false h)) (C.line s false h)

/-- Every work but CLOCK LOCATE (2Dh) and RESET (02h) keeps P. -/
theorem worksBut {ty : Byte} {s w : State} (harmless : ty ≠ 0x02 ∧ ty ≠ 0x2D) (work : Steps.Works ty s w)
    (h : P s) : P w := by
  rcases C.toShow.works work h with kept | sets
  · exact kept
  · cases sets with
    | locate type => exact absurd type harmless.2
    | softReset type => exact absurd type harmless.1
    | enterStop => exact C.enterStop _ h
    | clearStop => exact C.queueNotice _ (C.stop s _ h)
    | setStopRamp => exact C.stop s _ h

/-- Every event but POWER_ON keeps P. -/
theorem happensBut {s w : State} (event : Steps.Happens false s w) (h : P s) : P w := by
  rcases C.toShow.happens event h with kept | switches
  · exact kept
  · cases switches with
    | powerOn on => cases on
    | stopInAsserted => exact C.assertStopIn h
    | stopInReleased => exact C.releaseStopIn h

end Stops

/-- The resets and CLOCK LOCATE keep P as well: every step does. -/
structure Whole (Fits : Move → Prop) (P : State → Prop) : Prop extends Stops Fits P where
  locate : ∀ (s : State) (t : Nat), t ≤ Config.showMax → P s →
    P (updClock (fun k => { k with showTime := t, divCount := 0 }) s)
  softReset : ∀ s : State, P s → P (softReset s)
  powerOn : ∀ (s : State) (stop : StopUnit) (lanes : Lanes) (link : Link) (pending : List Instr) (n : Nat), P s →
    P { State.reset with stop := stop, lanes := lanes, link := link, pending := pending, freeCount := n }

namespace Whole

variable {Fits : Move → Prop} {P : State → Prop} (C : Whole Fits P)
include C

theorem setsWork {ty : Byte} {s w : State} (work : Sets ty s w) (h : P s) : P w := by
  cases work with
  | locate _ t bound => exact C.locate s t bound h
  | softReset => exact C.softReset s h
  | enterStop => exact C.enterStop _ h
  | clearStop => exact C.queueNotice _ (C.stop s _ h)
  | setStopRamp => exact C.stop s _ h

theorem switches {power : Bool} {s w : State} (event : Switches power s w) (h : P s) : P w := by
  cases event with
  | powerOn _ resetIn rate stopIn readyA readyB =>
    cases stopIn
    · exact C.powerOn s _ _ _ _ _ h
    · exact C.queueNotice _ (C.powerOn s _ _ _ _ _ h)
  | stopInAsserted => exact C.assertStopIn h
  | stopInReleased => exact C.releaseStopIn h

/-- Requests and events keep the property. -/
theorem kept : Steps.Kept (fun _ => True) true P where
  link := C.link
  works _ _ _ _ work h := (C.toShow.works work h).elim id fun sets => C.setsWork sets h
  happens _ _ event h := (C.toShow.happens event h).elim id fun switches => C.switches switches h

end Whole

end Sys2Proof.Closure
end

section
/-! Proofs about the law of the cue store (R93 to R100): what each change of the store does to its numbers, its length
and its pool. -/

namespace Sys2Proof.CueStore

open Sys2Proof Sys2Proof.Machine Sys2Proof.Closure Sys2Proof.Laws

/-! ## The store's functions on a store in order -/

/-- The cues of a store stand in rising number order (R93). -/
def Ascending (store : List Cue) : Prop := store.Pairwise fun a b => a.number < b.number

/-- A cue of the store has the number. -/
def Stored (n : Nat) (store : List Cue) : Prop := ∃ c ∈ store, c.number = n

theorem findCue_isSome_iff {n : Nat} {store : List Cue} : (findCue n store).isSome = true ↔ Stored n store := by
  simp [findCue, List.find?_isSome, Stored]

theorem findCue_none_iff {n : Nat} {store : List Cue} : findCue n store = none ↔ ¬ Stored n store := by
  rw [← findCue_isSome_iff]
  cases findCue n store <;> simp

/-- The next number belongs to a stored cue above. -/
theorem nextNumber_stored {n m : Nat} {store : List Cue} (h : nextNumber n store = some m) :
    n < m ∧ Stored m store := by
  unfold nextNumber nextCue at h
  obtain ⟨c, found, rfl⟩ := Option.map_eq_some_iff.mp h
  exact ⟨by simpa using List.find?_some found, c, List.mem_of_find?_eq_some found, rfl⟩

theorem mem_insertCue {c d : Cue} : ∀ {store : List Cue}, d ∈ insertCue c store → d = c ∨ d ∈ store
  | [], h => .inl (by simpa [insertCue] using h)
  | e :: es, h => by
    unfold insertCue at h
    split at h
    · exact List.mem_cons.mp h
    · split at h
      · rcases List.mem_cons.mp h with rfl | h
        · exact .inl rfl
        · exact .inr (List.mem_cons_of_mem _ h)
      · rcases List.mem_cons.mp h with rfl | h
        · exact .inr List.mem_cons_self
        · exact (mem_insertCue h).imp_right (List.mem_cons_of_mem _)

theorem mem_insertCue_self (c : Cue) : ∀ store : List Cue, c ∈ insertCue c store
  | [] => by simp [insertCue]
  | e :: es => by
    unfold insertCue
    split
    · exact List.mem_cons_self
    · split
      · exact List.mem_cons_self
      · exact List.mem_cons_of_mem _ (mem_insertCue_self c es)

theorem mem_insertCue_of_ne {c d : Cue} (ne : d.number ≠ c.number) :
    ∀ {store : List Cue}, d ∈ store → d ∈ insertCue c store
  | e :: es, h => by
    unfold insertCue
    split
    · exact List.mem_cons_of_mem _ h
    · split
      · rename_i same
        rcases List.mem_cons.mp h with rfl | h
        · exact absurd same.symm ne
        · exact List.mem_cons_of_mem _ h
      · rcases List.mem_cons.mp h with rfl | h
        · exact List.mem_cons_self
        · exact List.mem_cons_of_mem _ (mem_insertCue_of_ne ne h)

theorem insertCue_ascending (c : Cue) : ∀ {store : List Cue}, Ascending store → Ascending (insertCue c store)
  | [], _ => by simp [insertCue, Ascending]
  | e :: es, h => by
    obtain ⟨above, rest⟩ := List.pairwise_cons.mp h
    unfold insertCue
    split
    · rename_i lower
      refine List.pairwise_cons.mpr ⟨fun d hd => ?_, h⟩
      rcases List.mem_cons.mp hd with rfl | hd
      · exact lower
      · exact lower.trans (above d hd)
    · split
      · rename_i same
        exact List.pairwise_cons.mpr ⟨fun d hd => same ▸ above d hd, rest⟩
      · rename_i notLower notSame
        refine List.pairwise_cons.mpr ⟨fun d hd => ?_, insertCue_ascending c rest⟩
        rcases mem_insertCue hd with rfl | hd
        · omega
        · exact above d hd

/-- A store in order without a number loses nothing when that number is removed. -/
theorem removeCue_of_below {n : Nat} {store : List Cue} (h : ∀ d ∈ store, n < d.number) : removeCue n store = store :=
  List.filter_eq_self.mpr fun d hd => by have := h d hd; simp only [bne_iff_ne]; omega

/-- A write puts a cue in the place of the one of its number, or beside the others (R95). -/
theorem insertCue_perm (c : Cue) :
    ∀ {store : List Cue}, Ascending store → (insertCue c store).Perm (c :: removeCue c.number store)
  | [], _ => by simp [insertCue, removeCue]
  | e :: es, h => by
    obtain ⟨above, rest⟩ := List.pairwise_cons.mp h
    unfold insertCue
    split
    · rename_i lower
      rw [removeCue_of_below]
      intro d hd
      rcases List.mem_cons.mp hd with rfl | hd
      · exact lower
      · exact lower.trans (above d hd)
    · split
      · rename_i same
        have : removeCue c.number (e :: es) = es := by
          have := removeCue_of_below (n := c.number) (store := es) fun d hd => same ▸ above d hd
          simpa [removeCue, same] using this
        rw [this]
      · rename_i notSame
        have : removeCue c.number (e :: es) = e :: removeCue c.number es := by
          simp [removeCue, Ne.symm notSame]
        rw [this]
        exact ((insertCue_perm c rest).cons e).trans (List.Perm.swap c e _)

theorem poolUsed_insertCue (c : Cue) {store : List Cue} (h : Ascending store) :
    poolUsed (insertCue c store) = poolAfter c store := by
  unfold poolAfter poolUsed
  rw [((insertCue_perm c h).map _).sum_eq, List.map_cons, List.sum_cons, Nat.add_comm]

/-- Removing a stored number shortens a store in order. -/
theorem length_removeCue {n : Nat} : ∀ {store : List Cue}, Ascending store →
    (removeCue n store).length + (if (findCue n store).isNone then 0 else 1) = store.length
  | [], _ => rfl
  | e :: es, h => by
    obtain ⟨above, rest⟩ := List.pairwise_cons.mp h
    by_cases same : e.number = n
    · have gone := removeCue_of_below (n := n) (store := es) fun d hd => same ▸ above d hd
      have removed : removeCue n (e :: es) = es := by simpa [removeCue, same] using gone
      have found : findCue n (e :: es) = some e := by simp [findCue, same]
      rw [removed, found]
      rfl
    · have removed : removeCue n (e :: es) = e :: removeCue n es := by simp [removeCue, same]
      have found : findCue n (e :: es) = findCue n es := by simp [findCue, same]
      have ih := length_removeCue (n := n) rest
      rw [removed, found, List.length_cons, List.length_cons]
      omega

theorem length_insertCue (c : Cue) {store : List Cue} (h : Ascending store) :
    (insertCue c store).length = store.length + (if (findCue c.number store).isNone then 1 else 0) := by
  rw [(insertCue_perm c h).length_eq, List.length_cons, ← length_removeCue (n := c.number) h]
  split <;> omega

/-! ## The law -/

theorem law_of_same {p q : Playback} (store : q.store = p.store) (standby : q.standby = p.standby) (h : StoreLaw p) :
    StoreLaw q where
  ascending := store ▸ h.ascending
  cues := store ▸ h.cues
  pool := store ▸ h.pool
  standby n hn := store ▸ h.standby n (standby ▸ hn)

/-- A change of the cues that keeps their numbers and actions, with a standby that is END, as before or stored. -/
theorem law_of_map {p q : Playback} (f : Cue → Cue) (number : ∀ c, (f c).number = c.number)
    (actions : ∀ c, (f c).actions = c.actions) (store : q.store = p.store.map f)
    (standby : ∀ n, q.standby = some n → p.standby = some n ∨ Stored n p.store) (h : StoreLaw p) : StoreLaw q where
  ascending := by
    rw [store]
    exact List.pairwise_map.mpr (h.ascending.imp fun lt => by rwa [number, number])
  cues := by
    rw [store, List.length_map]
    exact h.cues
  pool := by
    have same : poolUsed (p.store.map f) = poolUsed p.store := by
      unfold poolUsed
      rw [List.map_map]
      exact congrArg List.sum (List.map_congr_left fun c _ => congrArg List.length (actions c))
    rw [store, same]
    exact h.pool
  standby n hn := by
    rw [store]
    obtain ⟨c, member, rfl⟩ := (standby n hn).elim (h.standby n) id
    exact ⟨f c, List.mem_map_of_mem member, number c⟩

theorem law_advance {p : Playback} (c : Cue) (h : StoreLaw p) : StoreLaw (advanceStandby c p) := by
  have counter (v : Nat) (standby : Option Nat) (hs : ∀ n, standby = some n → p.standby = some n ∨ Stored n p.store) :
      StoreLaw { p with store := setCounter c.number v p.store, standby := standby } :=
    law_of_map (fun d => if d.number = c.number then { d with loopCounter := v } else d)
      (fun d => by split <;> rfl) (fun d => by split <;> rfl) rfl hs h
  have next {n : Nat} (hn : nextNumber c.number p.store = some n) : p.standby = some n ∨ Stored n p.store :=
    .inr (nextNumber_stored hn).2
  unfold advanceStandby
  split
  · exact law_of_map id (fun _ => rfl) (fun _ => rfl) (List.map_id p.store).symm (fun n hn => next hn) h
  · split
    · refine counter _ _ fun n hn => ?_
      split at hn
      · rename_i found
        cases hn
        exact .inr (findCue_isSome_iff.mp found)
      · exact next hn
    · exact counter _ _ fun n hn => next hn

theorem law_back {p : Playback} (r : RecallRecord) (h : StoreLaw p) : StoreLaw (backStandby r p) := by
  refine law_of_map id (fun _ => rfl) (fun _ => rfl) (List.map_id p.store).symm (fun n hn => .inr ?_) h
  unfold backStandby at hn
  dsimp only at hn
  split at hn
  · rename_i found
    cases hn
    exact findCue_isSome_iff.mp found
  · exact (nextNumber_stored hn).2

theorem law_write {p : Playback} (c : Cue) (room : storeFull c p.store = false) (h : StoreLaw p) :
    StoreLaw { p with store := insertCue c p.store } := by
  obtain ⟨places, pool⟩ := Bool.or_eq_false_iff.mp room
  rw [Bool.and_eq_false_iff, decide_eq_false_iff_not, not_le] at places
  rw [decide_eq_false_iff_not, not_lt] at pool
  have cues := h.cues
  refine ⟨insertCue_ascending c h.ascending, ?_, ?_, fun n hn => ?_⟩
  · show (insertCue c p.store).length ≤ 400
    rw [length_insertCue c h.ascending]
    rcases places with stored | free
    · rw [stored]
      exact cues
    · unfold Config.cuePlaces at free
      split <;> omega
  · show poolUsed (insertCue c p.store) ≤ 2048
    rw [poolUsed_insertCue c h.ascending]
    exact pool
  · obtain ⟨d, member, rfl⟩ := h.standby n hn
    by_cases same : d.number = c.number
    · exact ⟨c, mem_insertCue_self c _, same.symm⟩
    · exact ⟨d, mem_insertCue_of_ne same member, rfl⟩

theorem law_delete {p : Playback} (n : Nat) (h : StoreLaw p) : StoreLaw (deleteCue n p) := by
  have sub : (removeCue n p.store).Sublist p.store := List.filter_sublist
  have stays {m : Nat} (ne : m ≠ n) (stored : Stored m p.store) : Stored m (removeCue n p.store) := by
    obtain ⟨c, member, rfl⟩ := stored
    exact ⟨c, List.mem_filter.mpr ⟨member, by simpa using ne⟩, rfl⟩
  refine ⟨h.ascending.sublist sub, sub.length_le.trans h.cues, ?_, fun m hm => ?_⟩
  · exact ((sub.map _).sum_le_sum (fun _ _ => Nat.zero_le _)).trans h.pool
  · unfold deleteCue at hm
    dsimp only at hm
    split at hm
    · obtain ⟨above, stored⟩ := nextNumber_stored hm
      exact stays (by omega) stored
    · rename_i other
      exact stays (fun e => other (e ▸ hm)) (h.standby m hm)

theorem law_empty {p : Playback} (store : p.store = []) (standby : p.standby = none) : StoreLaw p where
  ascending := by simp [store]
  cues := by simp [store]
  pool := by simp [store, poolUsed]
  standby n hn := by simp [standby] at hn

end Sys2Proof.CueStore

/-! ## Properties that moves, hand-backs and the surface leave alone -/

namespace Sys2Proof.Closure

open Sys2Proof Sys2Proof.Machine

theorem started_show (k : Slot) (mv : Move) (start : Nat) (s : State) : KeepsShow s (started k mv start s) :=
  (setSlot_show _ _ s).trans (startPending_show _ _ _)

/-- A property of what `KeepsShow` leaves alone is kept by the work of moves and hand-backs. -/
theorem Core.of_show {P : State → Prop} (link : ∀ (s : State) (k : Link), P s → P { s with link := k })
    (surf : ∀ (s : State) (u : Surface), P s → P { s with surf := u })
    (keeps : ∀ s t : State, KeepsShow s t → P s → P t) : Core (fun _ => True) P where
  link := link
  surf := surf
  ownMute s c on := keeps _ _ (setOwnMute_show c on s)
  groupMute s g on := keeps _ _ (setGroupMute_show g on s)
  report s firing r := keeps _ _ (reportRetirement_show firing r s)
  unclaimChan s c := keeps _ _ (unclaimChan_show c s)
  unclaimGroup s g := keeps _ _ (unclaimGroup_show g s)
  free s k _ := keeps _ _ (setSlot_show k none s)
  cancel s k := keeps _ _ ((freezeClaims_show k s).trans (setSlot_show k none _))
  complete s k := keeps _ _ ((completeClaims_show k s).trans (setSlot_show k none _))
  place s k mv created _ _ := keeps _ _ (placeMove_show k mv created s)
  start s k mv start _ _ := keeps _ _ (started_show k mv start s)
  turn s k mv start _ _ := keeps _ _ (turnRound_show k mv start s)
  auto s c := keeps _ _ (setOwnership_show c .auto s)
  latch s c _ := keeps _ _ (setOwnership_show c .latched s)
  touch s c cause := keeps _ _ (takeTouched_show c cause s)
  pickup s _ _ _ := keeps _ _ (updChans_show _ _ (by intro _; rfl) s)
  side s _ _ _ := keeps _ _ (updChans_show _ _ (by intro _; rfl) s)
  fader _ t c _ _ := keeps _ _ (writeFader_show c _ t)
  glide _ _ _ := trivial
  act _ _ _ _ _ _ _ := keeps _ _ (setSlot_show _ none _)

end Sys2Proof.Closure

namespace Sys2Proof.CueStore

open Sys2Proof Sys2Proof.Machine Sys2Proof.Closure

/-- The state's store keeps its law. -/
def Lawful (s : State) : Prop := StoreLaw s.play

theorem lawful_core : Core (fun _ => True) Lawful :=
  .of_show (fun _ _ h => h) (fun _ _ h => h) fun s t keeps h => by
    have plan := keeps.plan
    simp only [Playback.plan, Prod.mk.injEq] at plan
    obtain ⟨store, standby, -, -⟩ := plan
    exact law_of_same store standby h

theorem lawful_play : Play (fun _ => True) Lawful where
  toCore := lawful_core
  choice _ _ h := h
  clock _ _ _ _ h := h
  timers _ _ store standby _ h := law_of_same store standby h
  push s _ _ h := law_of_same (p := s.play) rfl rfl h
  pop s _ _ _ h := law_of_same (p := s.play) rfl rfl h
  advance _ c h := law_advance c h
  back _ r h := law_back r h
  stored _ _ _ _ _ _ _ _ := trivial
  recorded _ _ _ _ := ⟨fun _ _ _ _ => trivial, fun _ _ _ _ => trivial⟩

theorem updChans_play (cs : List Chan) (f : Channel → Channel) (s : State) : (updChans cs f s).play = s.play :=
  List.foldlRecOn (motive := fun t : State => t.play = s.play) cs _ rfl fun _ h _ _ => h

theorem resnap_play (before after : State) : (resnap before after).play = after.play := by simp [resnap]

theorem setTable_play (t : TaperSel) (table : Vector Int 33) (s : State) : (setTable t table s).play = s.play := by
  cases t <;> rfl

theorem softReset_play (s : State) : (softReset s).play = s.play.softReset := by
  unfold softReset
  rfl

/-- Both reload every loop counter (R93, R106). -/
theorem law_reload {p q : Playback} (store : q.store = p.store.map Cue.reload)
    (standby : ∀ n, q.standby = some n → p.standby = some n ∨ Stored n p.store) (h : StoreLaw p) : StoreLaw q :=
  law_of_map Cue.reload (fun _ => rfl) (fun _ => rfl) store standby h

theorem lawful_whole : Whole (fun _ => True) Lawful where
  toPlay := lawful_play
  locate _ _ _ h := h
  settle _ h := lawful_play.settle h
  count _ _ h := h
  backTime s _ h := law_of_same (p := s.play) rfl rfl h
  lanes _ _ h := h
  stop s f h := by
    unfold Lawful
    rw [resnap_play]
    exact h
  line _ _ h := h
  ramps s h := by
    unfold Lawful stepRamps
    rw [mapChans_play]
    exact h
  attributes s c a h := by
    refine lawful_core.removeClaims _ ?_
    unfold Lawful
    rw [resnap_play, updChans_play]
    exact h
  level s c level h := by
    unfold Lawful setLevel
    rw [updChans_play]
    exact lawful_core.removeClaims _ h
  trim _ _ _ h := h
  linkPair s k _ _ h := by
    unfold linkPair
    split
    · exact h
    · refine lawful_core.removeClaims (s := resnap s _) _ ?_
      unfold Lawful
      rw [resnap_play]
      exact h
  unlink _ _ h := h
  offset _ g _ h := lawful_core.removeGroupClaim g h
  members s g add cs h := by
    unfold Lawful changeMembers
    rw [resnap_play, updChans_play]
    exact h
  sets _ _ h := h
  table s t levels _ _ h := by
    unfold Lawful
    rw [setTable_play]
    exact h
  live _ _ _ := trivial
  writeCue _ c room h := law_write (clampCue c) room h
  deleteCue _ n h := law_delete n h
  clearCues _ _ := law_empty rfl rfl
  jump s n stored h := law_reload rfl (fun m hm => .inr (by cases hm; exact findCue_isSome_iff.mp stored)) h
  softReset s h := by
    unfold Lawful
    rw [softReset_play]
    exact law_reload (p := s.play) rfl (fun m hm => .inl hm) h
  powerOn _ _ _ _ _ _ _ := law_empty rfl rfl

/-- Settles O58: the changes of the store keep its law, and no other work touches it. -/
theorem storeStaysOrdered : Obligations.StoreStaysOrdered :=
  fun _ _ h next => lawful_whole.kept.step (fun _ _ h => h) next h

end Sys2Proof.CueStore
end

section
/-! SUPPORT. What an operation makes of the moves: each move it leaves is one that stood before, as it was asked for. -/

namespace Sys2Proof.Closure

open Sys2Proof Sys2Proof.Machine

/-- A move without what its life changes: phase, traversals left, due time, claim count, place in the creations. -/
def asked (mv : Move) : Move := { mv with phase := .delayed, remaining := 0, due := 0, claims := 0, seq := 0 }

/-- The stop, the clock, the playback and the taper tables stand, and every move is one that stood. -/
structure Inherits (s t : State) : Prop where
  stop : t.stop = s.stop
  clock : t.clock = s.clock
  play : t.play = s.play
  taperA : t.taperA = s.taperA
  taperB : t.taperB = s.taperB
  moves : ∀ (k : Slot) (mv : Move), t.moves[k] = some mv → ∃ old, s.moves[k] = some old ∧ asked mv = asked old

namespace Inherits

theorem of_moves {s t : State} (stop : t.stop = s.stop) (clock : t.clock = s.clock) (play : t.play = s.play)
    (taperA : t.taperA = s.taperA) (taperB : t.taperB = s.taperB) (moves : t.moves = s.moves) : Inherits s t :=
  ⟨stop, clock, play, taperA, taperB, fun _ mv h => ⟨mv, moves ▸ h, rfl⟩⟩

theorem refl (s : State) : Inherits s s := .of_moves rfl rfl rfl rfl rfl rfl

theorem trans {a b c : State} (h : Inherits a b) (h' : Inherits b c) : Inherits a c where
  stop := h'.stop.trans h.stop
  clock := h'.clock.trans h.clock
  play := h'.play.trans h.play
  taperA := h'.taperA.trans h.taperA
  taperB := h'.taperB.trans h.taperB
  moves k mv hk := by
    obtain ⟨mid, hm, same⟩ := h'.moves k mv hk
    obtain ⟨old, ho, same'⟩ := h.moves k mid hm
    exact ⟨old, ho, same.trans same'⟩

theorem foldl {α : Type} (f : State → α → State) (h : ∀ s a, Inherits s (f s a)) :
    ∀ (l : List α) (s : State), Inherits s (l.foldl f s)
  | [], s => .refl s
  | a :: l, s => (h s a).trans (foldl f h l (f s a))

theorem ite {p : Prop} [Decidable p] {s a b : State} (ha : Inherits s a) (hb : Inherits s b) :
    Inherits s (if p then a else b) := by split <;> assumption

end Inherits

theorem updChan_inherits (c : Chan) (f : Channel → Channel) (s : State) : Inherits s (updChan c f s) :=
  .of_moves rfl rfl rfl rfl rfl rfl

theorem updChans_inherits (cs : List Chan) (f : Channel → Channel) (s : State) : Inherits s (updChans cs f s) :=
  Inherits.foldl _ (fun s c => updChan_inherits c f s) cs s

theorem mapChans_inherits (f : Chan → Channel → Channel) (s : State) : Inherits s (mapChans f s) :=
  .of_moves (by simp) (by simp) (by simp) (by simp) (by simp) (by simp)

theorem updGroup_inherits (g : Grp) (f : Group → Group) (s : State) : Inherits s (updGroup g f s) :=
  .of_moves rfl rfl rfl rfl rfl rfl

theorem mapGroups_inherits (f : Grp → Group → Group) (s : State) : Inherits s (mapGroups f s) :=
  .of_moves (by simp) (by simp) (by simp) (by simp) (by simp) (by simp)

theorem resnap_inherits (before after : State) : Inherits after (resnap before after) := mapChans_inherits _ _

theorem setLink_inherits (k : PairId) (on : Bool) (s : State) : Inherits s (setLink k on s) := .of_moves rfl rfl rfl rfl rfl rfl

/-- What a table written leaves alone. -/
theorem setTable_rest (t : TaperSel) (table : Vector Int 33) (s : State) :
    (setTable t table s).stop = s.stop ∧ (setTable t table s).clock = s.clock ∧
      (setTable t table s).play = s.play ∧ (setTable t table s).moves = s.moves ∧
      (setTable t table s).chans = s.chans ∧ (setTable t table s).groups = s.groups ∧
      (setTable t table s).pairLinked = s.pairLinked := by
  cases t <;> exact ⟨rfl, rfl, rfl, rfl, rfl, rfl, rfl⟩

theorem setSlot_inherits_none (k : Slot) (s : State) : Inherits s (setSlot k none s) :=
  ⟨rfl, rfl, rfl, rfl, rfl, fun j mv h => by
    rw [getSlot_setSlot] at h
    split at h
    · cases h
    · exact ⟨mv, h, rfl⟩⟩

theorem setSlot_inherits {k : Slot} {mv old : Move} {s : State} (occupied : s.moves[k] = some old)
    (same : asked mv = asked old) : Inherits s (setSlot k (some mv) s) :=
  ⟨rfl, rfl, rfl, rfl, rfl, fun j mv' h => by
    rw [getSlot_setSlot] at h
    split at h
    · rename_i e
      subst e
      cases h
      exact ⟨old, occupied, same⟩
    · exact ⟨mv', h, rfl⟩⟩

theorem updMove_inherits {f : Move → Move} (same : ∀ mv, asked (f mv) = asked mv) (k : Slot) (s : State) :
    Inherits s (updMove k f s) := by
  unfold updMove
  split
  · rename_i mv occupied
    exact setSlot_inherits occupied (same mv)
  · exact .refl s

theorem dropClaim_inherits (k : Slot) (s : State) : Inherits s (dropClaim k s) := updMove_inherits (by intro _; rfl) k s

theorem unclaimChan_inherits (c : Chan) (s : State) : Inherits s (unclaimChan c s) := by
  unfold unclaimChan
  split
  · exact .refl s
  · exact (updChan_inherits _ _ s).trans (dropClaim_inherits _ _)

theorem unclaimGroup_inherits (g : Grp) (s : State) : Inherits s (unclaimGroup g s) := by
  unfold unclaimGroup
  split
  · exact .refl s
  · exact (updGroup_inherits _ _ s).trans (dropClaim_inherits _ _)

theorem freezeClaims_inherits (k : Slot) (s : State) : Inherits s (freezeClaims k s) :=
  (mapChans_inherits _ s).trans (mapGroups_inherits _ _)

theorem completeClaims_inherits (k : Slot) (s : State) : Inherits s (completeClaims k s) :=
  (mapChans_inherits _ s).trans (mapGroups_inherits _ _)

theorem takeClaim_inherits (k : Slot) (c : Chan) (a b : Int) (s : State) : Inherits s (takeClaim k c a b s) :=
  (updChan_inherits _ _ s).trans (updMove_inherits (by intro _; rfl) k _)

theorem startLane_inherits (k : Slot) (mv : Move) (c : Chan) (r : Option Int) (s : State) :
    Inherits s (startLane k mv c r s) := by
  unfold startLane
  split
  · exact .refl s
  · exact .ite (updChan_inherits _ _ s) ((unclaimChan_inherits _ s).trans (takeClaim_inherits _ _ _ _ _))

theorem startGroup_inherits (k : Slot) (mv : Move) (g : Grp) (r : Option Int) (s : State) :
    Inherits s (startGroup k mv g r s) :=
  (unclaimGroup_inherits g s).trans ((updGroup_inherits _ _ _).trans (updMove_inherits (by intro _; rfl) k _))

theorem startPending_inherits (k : Slot) (mv : Move) (s : State) : Inherits s (startPending k mv s) := by
  unfold startPending
  split
  · exact Inherits.foldl _ (fun s c => startLane_inherits k mv c none s) _ s
  · exact Inherits.foldl _ (fun s (l : Chan × Int) => startLane_inherits k mv l.1 _ s) _ s
  · exact startGroup_inherits _ _ _ _ s
  · exact startGroup_inherits _ _ _ _ s

theorem started_inherits {k : Slot} {mv : Move} {s : State} (start : Nat) (occupied : s.moves[k] = some mv) :
    Inherits s (started k mv start s) :=
  (setSlot_inherits occupied (by rfl)).trans (startPending_inherits _ _ _)

theorem turnRound_inherits {k : Slot} {mv : Move} {s : State} (start : Nat) (occupied : s.moves[k] = some mv) :
    Inherits s (turnRound k mv start s) :=
  (setSlot_inherits occupied (by rfl)).trans ((mapChans_inherits _ _).trans (mapGroups_inherits _ _))

theorem setOwnership_inherits (c : Chan) (o : Ownership) (s : State) : Inherits s (setOwnership c o s) :=
  updChans_inherits _ _ s

theorem setOwnMute_inherits (c : Chan) (on : Bool) (s : State) : Inherits s (setOwnMute c on s) :=
  (updChans_inherits _ _ s).trans (resnap_inherits _ _)

theorem setGroupMute_inherits (g : Grp) (on : Bool) (s : State) : Inherits s (setGroupMute g on s) :=
  (updGroup_inherits _ _ s).trans (resnap_inherits _ _)

theorem recordBalance_inherits (c : Chan) (s : State) : Inherits s (recordBalance c s) := by
  unfold recordBalance
  split
  · exact updChans_inherits _ _ s
  · exact .refl s

theorem writeFader_inherits (c : Chan) (f : Int) (s : State) : Inherits s (writeFader c f s) := by
  unfold writeFader
  split
  · dsimp only
    split <;> exact (updChan_inherits _ _ s).trans (updChan_inherits _ _ _)
  · exact updChan_inherits _ _ s

/-! ## The slots that retirements empty -/

theorem reportRetirement_moves (firing r : Nat) (s : State) : (reportRetirement firing r s).moves = s.moves := by
  have expire (t : State) : (expireEndWatch r t).moves = t.moves := by
    unfold expireEndWatch
    split
    · split <;> rfl
    · rfl
  unfold reportRetirement
  split
  · split
    · exact expire _
    · rfl
  · rfl

/-- A retirement empties its slot and no other (R71). -/
theorem retire_moves (k j : Slot) (reason : Reason) (r : Nat) (s : State) :
    (retire k reason r s).moves[j] = if k = j then none else s.moves[j] := by
  unfold retire
  split
  · rename_i free
    split
    · rename_i e
      subst e
      exact free
    · rfl
  · have emptied (n : Notice) : (setSlot k none (queueNotice n s)).moves[j] = if k = j then none else s.moves[j] :=
      getSlot_setSlot k j none _
    dsimp only
    split
    · split
      · simp only [reportRetirement_moves]
        exact emptied _
      · exact emptied _
    · exact emptied _

/-- A cancelled move leaves its slot FREE (R69). -/
theorem cancelMove_moves (k j : Slot) (reason : Reason) (s : State) :
    (cancelMove k reason s).moves[j] = if k = j then none else s.moves[j] := by
  rw [cancelMove, retire_moves, freezeClaims_moves]

theorem cancelMoves_moves (reason : Reason) (j : Slot) : ∀ (ks : List Slot) (s : State),
    (ks.foldl (fun s k => cancelMove k reason s) s).moves[j] = if j ∈ ks then none else s.moves[j]
  | [], s => by simp
  | k :: ks, s => by
    rw [List.foldl_cons, cancelMoves_moves reason j ks, cancelMove_moves]
    by_cases h : k = j
    · simp [h]
    · simp [h, Ne.symm h]

/-- Every move of the condition is cancelled, and no other (R70). -/
theorem cancelWhere_moves (p : Move → Bool) (reason : Reason) (s : State) (j : Slot) :
    (cancelWhere p reason s).moves[j] = if s.moves[j].any p then none else s.moves[j] := by
  rw [cancelWhere, cancelMoves_moves]
  refine if_congr ?_ rfl rfl
  rw [Laws.mem_slotsWhere]
  cases s.moves[j] <;> simp

end Sys2Proof.Closure
end

section
/-! O59: the law of the show stop, and the law of show time. -/

namespace Sys2Proof.Closure

open Sys2Proof Sys2Proof.Machine

theorem updChans_stop (cs : List Chan) (f : Channel → Channel) (s : State) : (updChans cs f s).stop = s.stop :=
  (updChans_inherits cs f s).stop

theorem updChans_clock (cs : List Chan) (f : Channel → Channel) (s : State) : (updChans cs f s).clock = s.clock :=
  (updChans_inherits cs f s).clock

/-- A property of the stop and of show time alone, closed under a clock that goes on. -/
theorem Show.of_stop_clock {P : State → Prop}
    (keeps : ∀ s t : State, t.stop = s.stop → t.clock = s.clock → P s → P t)
    (clock : ∀ (s : State) (k : Clock), s.clock.showTime ≤ k.showTime →
      k.showTime ≤ max s.clock.showTime Config.showMax → P s → P { s with clock := k }) : Show (fun _ => True) P :=
  have core : Core (fun _ => True) P := .of_show (fun s _ => keeps s _ rfl rfl) (fun s _ => keeps s _ rfl rfl)
    fun s t show_ => keeps s t show_.stop show_.clock
  have play : Play (fun _ => True) P :=
    { toCore := core
      choice := fun s _ => keeps s _ rfl rfl
      clock := clock
      timers := fun s _ _ _ _ => keeps s _ rfl rfl
      push := fun s _ _ => keeps s _ rfl rfl
      pop := fun s _ _ _ => keeps s _ rfl rfl
      advance := fun s _ => keeps s _ rfl rfl
      back := fun s _ => keeps s _ rfl rfl
      stored := fun _ _ _ _ _ _ _ _ => trivial
      recorded := fun _ _ _ _ => ⟨fun _ _ _ _ => trivial, fun _ _ _ _ => trivial⟩ }
  have inherits {s t : State} (h : Inherits s t) : P s → P t := keeps s t h.stop h.clock
  { toPlay := play
    settle := fun _ h => play.settle h
    count := fun s _ => keeps s _ rfl rfl
    lanes := fun s _ => keeps s _ rfl rfl
    attributes := fun s c a h => core.removeClaims _ (inherits ((updChans_inherits _ _ s).trans (resnap_inherits _ _)) h)
    level := fun s c level h => inherits (updChans_inherits _ _ _) (core.removeClaims _ h)
    trim := fun s _ _ => keeps s _ rfl rfl
    linkPair := fun s k _ _ h => by
      unfold Machine.linkPair
      split
      · exact h
      · exact inherits (setLink_inherits _ _ _)
          (core.removeClaims _ (inherits ((updChan_inherits _ _ s).trans (resnap_inherits _ _)) h))
    unlink := fun s _ => keeps s _ rfl rfl
    offset := fun s g _ h => inherits (updGroup_inherits _ _ _) (core.removeGroupClaim g h)
    members := fun s _ _ _ => inherits ((updChans_inherits _ _ s).trans (resnap_inherits _ _))
    sets := fun s _ => keeps s _ rfl rfl
    table := fun s t levels _ _ => by
      obtain ⟨stop, clock, -⟩ := setTable_rest t (tableFrom levels) s
      exact keeps s _ stop clock
    writeCue := fun s _ _ => keeps s _ rfl rfl
    deleteCue := fun s _ => keeps s _ rfl rfl
    clearCues := fun s => keeps s _ rfl rfl
    jump := fun s _ _ => keeps s _ rfl rfl
    backTime := fun s _ => keeps s _ rfl rfl
    ramps := fun s => inherits (mapChans_inherits _ s)
    live := fun _ _ _ => trivial }

end Sys2Proof.Closure

namespace Sys2Proof.ShowStop

open Sys2Proof Sys2Proof.Machine Sys2Proof.Closure

/-! ## CLEAR and ACTIVE (R177, R178) -/

/-- The stop is CLEAR and STOP IN is not asserted. -/
structure Calm (s : State) : Prop where
  active : s.stop.active = false
  line : s.stop.line = false

/-- The stop is ACTIVE: the clock does not run, and no follow and no end watch is pending. -/
structure Halted (s : State) : Prop where
  active : s.stop.active = true
  running : s.clock.state ≠ .running
  stepping : s.clock.state ≠ .stepping
  follow : s.play.follow = none
  endWatch : s.play.endWatch = none

/-- A move of origin REJOIN. -/
def Rejoins (mv : Move) : Prop := ∃ c, mv.origin = .rejoin c

/-- The stop is ACTIVE, and only rejoin glides stand. -/
structure Stopped (s : State) : Prop extends Halted s where
  moves : ∀ (k : Slot) (mv : Move), s.moves[k] = some mv → Rejoins mv

/-- Either is the law of the stop: under an ACTIVE stop the stop mute is on for every channel without ANNOUNCE. -/
theorem stopLaw_iff (s : State) : StopLaw s ↔ Calm s ∨ Stopped s := by
  constructor
  · intro law
    cases active : s.stop.active with
    | false => exact .inl ⟨active, by simpa [active] using law.line⟩
    | true =>
      obtain ⟨running, stepping⟩ := law.clock active
      obtain ⟨follow, endWatch⟩ := law.follow active
      exact .inr ⟨⟨active, running, stepping, follow, endWatch⟩, law.moves active⟩
  · rintro (⟨active, line⟩ | ⟨⟨active, running, stepping, follow, endWatch⟩, moves⟩)
    · constructor <;> simp [active, line]
    · refine ⟨fun _ => moves, fun _ => ⟨running, stepping⟩, fun _ c quiet => ?_, fun _ => ⟨follow, endWatch⟩,
        fun _ => active⟩
      have mute : underStop s c = true := by rw [underStop, active, quiet]; rfl
      simp [composedMute, mute]

theorem Rejoins.of_asked {mv old : Move} (same : asked mv = asked old) (h : Rejoins old) : Rejoins mv := by
  obtain ⟨c, hc⟩ := h
  exact ⟨c, (congrArg Move.origin same).trans hc⟩

theorem Halted.of_inherits {s t : State} (same : Inherits s t) (h : Halted s) : Halted t where
  active := same.stop ▸ h.active
  running := same.clock ▸ h.running
  stepping := same.clock ▸ h.stepping
  follow := same.play ▸ h.follow
  endWatch := same.play ▸ h.endWatch

theorem Stopped.of_inherits {s t : State} (same : Inherits s t) (h : Stopped s) : Stopped t where
  toHalted := h.toHalted.of_inherits same
  moves k mv hk := by
    obtain ⟨old, ho, asked⟩ := same.moves k mv hk
    exact .of_asked asked (h.moves k old ho)

/-- Without an end watch a retirement is reported to nobody (R72). -/
theorem reportRetirement_none {s : State} (h : s.play.endWatch = none) (firing r : Nat) :
    reportRetirement firing r s = s := by
  simp [reportRetirement, h]

/-- Without a follow nothing expires (R107). -/
theorem settle_none {s : State} (h : s.play.follow = none) : settle s = s := by
  unfold settle
  generalize Config.chainFuel = n
  cases n <;> simp [settleFollows, h]

theorem halted_claims : Claims Halted where
  link s k := .of_inherits (.of_moves rfl rfl rfl rfl rfl rfl)
  report s firing r h := by rwa [reportRetirement_none h.endWatch]
  unclaimChan s c := .of_inherits (unclaimChan_inherits c s)
  unclaimGroup s g := .of_inherits (unclaimGroup_inherits g s)
  free s k _ := .of_inherits (setSlot_inherits_none k s)

theorem stopped_claims : Claims Stopped where
  link s k := .of_inherits (.of_moves rfl rfl rfl rfl rfl rfl)
  report s firing r h := by rwa [reportRetirement_none h.endWatch]
  unclaimChan s c := .of_inherits (unclaimChan_inherits c s)
  unclaimGroup s g := .of_inherits (unclaimGroup_inherits g s)
  free s k _ := .of_inherits (setSlot_inherits_none k s)

theorem stopped_core : Core Rejoins Stopped where
  toClaims := stopped_claims
  surf s u := .of_inherits (.of_moves rfl rfl rfl rfl rfl rfl)
  ownMute s c on := .of_inherits (setOwnMute_inherits c on s)
  groupMute s g on := .of_inherits (setGroupMute_inherits g on s)
  cancel s k := .of_inherits ((freezeClaims_inherits k s).trans (setSlot_inherits_none k _))
  complete s k := .of_inherits ((completeClaims_inherits k s).trans (setSlot_inherits_none k _))
  place s k mv created _ fits h := by
    refine ⟨⟨h.active, h.running, h.stepping, h.follow, h.endWatch⟩, fun j mv' hj => ?_⟩
    rw [placeMove_moves] at hj
    split at hj
    · cases hj
      exact fits
    · exact h.moves j mv' hj
  start s k mv start occupied _ := .of_inherits (started_inherits start occupied)
  turn s k mv start occupied _ := .of_inherits (turnRound_inherits start occupied)
  auto s c := .of_inherits (setOwnership_inherits c .auto s)
  latch s c _ := .of_inherits (setOwnership_inherits c .latched s)
  touch s c cause h :=
    have owned : Stopped (setOwnership c .touched s) := h.of_inherits (setOwnership_inherits c .touched s)
    (stopped_claims.removeClaims _ (stopped_claims.queueNotice _ owned)).of_inherits (recordBalance_inherits _ _)
  pickup s _ _ _ := .of_inherits (updChans_inherits _ _ s)
  side s _ _ _ := .of_inherits (updChans_inherits _ _ s)
  fader _ t c _ _ := .of_inherits (writeFader_inherits c _ t)
  glide s c _ := ⟨_, rfl⟩
  act _ k _ _ _ _ _ := .of_inherits (setSlot_inherits_none k _)

theorem Stopped.settle {s : State} (h : Stopped s) : Stopped (settle s) := by rwa [settle_none h.follow]

/-- A change of the playback that keeps the timers away keeps the stop's law. -/
theorem Stopped.play {s : State} {p : Playback} (follow : p.follow = none) (endWatch : p.endWatch = none)
    (h : Stopped s) : Stopped { s with play := p } :=
  ⟨⟨h.active, h.running, h.stepping, follow, endWatch⟩, h.moves⟩

/-- A change of the clock that keeps its state keeps the stop's law. -/
theorem Stopped.sameState {s : State} {k : Clock} (same : k.state = s.clock.state) (h : Stopped s) :
    Stopped { s with clock := k } :=
  ⟨⟨h.active, by rw [same]; exact h.running, by rw [same]; exact h.stepping, h.follow, h.endWatch⟩, h.moves⟩

/-- A change of the stop unit that keeps it ACTIVE keeps the stop's law. -/
theorem Stopped.sameStop {s : State} {u : StopUnit} (active : u.active = true) (h : Stopped s) :
    Stopped { s with stop := u } :=
  ⟨⟨active, h.running, h.stepping, h.follow, h.endWatch⟩, h.moves⟩

theorem stopped_records : Records Rejoins Stopped where
  toCore := stopped_core
  settle _ h := h.settle
  count _ _ := .of_inherits (.of_moves rfl rfl rfl rfl rfl rfl)
  lanes _ _ := .of_inherits (.of_moves rfl rfl rfl rfl rfl rfl)
  attributes s c a h := stopped_claims.removeClaims _ (h.of_inherits ((updChans_inherits _ _ s).trans (resnap_inherits _ _)))
  level s c level h := (stopped_claims.removeClaims _ h).of_inherits (updChans_inherits _ _ _)
  trim s _ _ := .of_inherits (updChan_inherits _ _ s)
  linkPair s k _ _ h := by
    unfold linkPair
    split
    · exact h
    · refine .of_inherits (setLink_inherits _ _ _) (stopped_claims.removeClaims _ ?_)
      exact h.of_inherits ((updChan_inherits _ _ s).trans (resnap_inherits _ _))
  unlink _ _ := .of_inherits (.of_moves rfl rfl rfl rfl rfl rfl)
  offset s g _ h := (stopped_claims.removeGroupClaim g h).of_inherits (updGroup_inherits _ _ _)
  members s _ _ _ := .of_inherits ((updChans_inherits _ _ s).trans (resnap_inherits _ _))
  sets _ _ := .of_inherits (.of_moves rfl rfl rfl rfl rfl rfl)
  table s t levels _ _ h := by
    obtain ⟨stop, clock, play, moves, -⟩ := setTable_rest t (tableFrom levels) s
    exact ⟨⟨stop ▸ h.active, clock ▸ h.running, clock ▸ h.stepping, play ▸ h.follow, play ▸ h.endWatch⟩,
      moves ▸ h.moves⟩
  writeCue _ _ _ h := h.play h.follow h.endWatch
  deleteCue _ _ h := h.play h.follow h.endWatch
  clearCues _ h := h.play rfl rfl
  jump _ _ _ h := h.play rfl rfl
  backTime _ _ h := h.play h.follow h.endWatch

/-! ## An ACTIVE stop -/

theorem Stopped.holdClock {s : State} (cause : ClockCause) (h : Stopped s) : Stopped (holdClock cause s) :=
  stopped_claims.queueNotice (s := updClock _ s) _
    ⟨⟨h.active, nofun, nofun, h.follow, h.endWatch⟩, h.moves⟩

theorem Stopped.setSource {s : State} (pulse : Bool) (w : Nat) (rising : Bool) (h : Stopped s) :
    Stopped (setSource pulse w rising s) := by
  have set : Stopped (updClock (fun k =>
      if pulse then { k with weight := w, rising := rising }.toPulse else { k with weight := w, rising := rising }.toInternal)
      s) := h.sameState (by dsimp only; unfold Clock.toPulse; split <;> [split; skip] <;> rfl)
  have notice {t : State} (ht : Stopped t) : Stopped (noticeIfSource s.clock.source t) :=
    ite_keeps ht (stopped_claims.queueNotice _ ht)
  have loss {t : State} (ht : Stopped t) : Stopped (lossAtChange t) :=
    ite_keeps (stopped_claims.queueNotice _ (ht.sameState rfl)) ht
  exact loss (notice set)

theorem Stopped.plays {s w : State} (work : Plays s w) (h : Stopped s) : Stopped w := by
  cases work with
  | setSource => exact h.setSource _ _ _
  | setRate => exact h.sameState (by dsimp only; split <;> rfl)
  | holdClock => exact h.holdClock _
  | createMove _ _ clear => exact absurd (h.active.symm.trans clear) nofun
  | runClock clear => exact absurd (h.active.symm.trans clear) nofun
  | stepClock _ clear => exact absurd (h.active.symm.trans clear) nofun
  | go _ clear => exact absurd (h.active.symm.trans clear) nofun
  | back _ _ clear => exact absurd (h.active.symm.trans clear) nofun

theorem Stopped.passes {s w : State} (event : Passes s w) (h : Stopped s) : Stopped w := by
  cases event with
  | wallMillisecond =>
    have halted : ¬ isFreewheeling (tickWall s) = true := by simp [isFreewheeling, tickWall, h.running]
    have counting : ¬ ((tickWall s).clock.state = .running ∧ (tickWall s).clock.source = .internal) :=
      fun run => h.running run.1
    unfold wallMillisecond
    dsimp only
    rw [if_neg halted, countDivider, if_neg counting]
    have ticked : Stopped (tickWall s) := stopped_core.updSurf _ (h.sameState rfl)
    exact ticked.of_inherits (mapChans_inherits _ _)
  | dividerCount =>
    rw [expireDivider, if_neg fun run => h.running run.1]
    exact h
  | syncInEdge =>
    rw [takeEdge, if_neg fun run => h.running run.2]
    exact h
  | pulseLoss =>
    rw [takeLoss, if_neg fun run => h.running run.1]
    exact h
  | endWatchExpiry =>
    rw [takeWatch, expireEndWatch, h.endWatch]
    exact h.settle
  | followExpiry =>
    rw [takeFollow, h.follow]
    exact h

/-! ## The entry (R178) -/

theorem activateStop_inherits (s : State) : Inherits (updStop (fun u => { u with active := true }) s) (activateStop s) :=
  resnap_inherits _ _

/-- Only a rejoin glide does not heed the stop (R178). -/
theorem rejoins_of_not_heedsStop {mv : Move} (h : mv.heedsStop = false) : Rejoins mv := by
  unfold Move.heedsStop at h
  split at h
  case h_1 c origin => exact ⟨c, origin⟩
  all_goals cases h

theorem Halted.cancelWhere {s : State} (h : Halted s) : Stopped (cancelWhere Move.heedsStop .stopped s) where
  toHalted := foldl_keeps _ (fun t k ht => halted_claims.retire _ _
    (ht.of_inherits ((freezeClaims_inherits k t).trans (setSlot_inherits_none k _)))) _ h
  moves k mv hk := by
    rw [cancelWhere_moves] at hk
    split at hk
    · cases hk
    · rename_i stays
      rw [hk] at stays
      exact rejoins_of_not_heedsStop (by simpa using stays)

/-- From every state the entry leaves an ACTIVE stop in its law. -/
theorem enterStop_stopped (cause : StopCause) (s : State) : Stopped (enterStop cause s) := by
  have active : (activateStop s).stop.active = true := by rw [(activateStop_inherits s).stop]; rfl
  have halted : Halted (updPlay Playback.dropFollow (holdForStop (activateStop s))) := by
    unfold holdForStop
    split
    · exact ⟨active, nofun, nofun, rfl, rfl⟩
    · rename_i rests
      obtain ⟨running, stepping⟩ := not_or.mp rests
      exact ⟨active, running, stepping, rfl, rfl⟩
  exact stopped_claims.queueNotice _ halted.cancelWhere

/-- The ramps' response to a change of the stop unit leaves that unit. -/
theorem calm_resnap {s t : State} (h : Calm t) : Calm (resnap s t) := by
  have stop := (resnap_inherits s t).stop
  exact ⟨stop ▸ h.active, stop ▸ h.line⟩

theorem calm_show : Show (fun _ => True) Calm :=
  .of_stop_clock (fun _ _ stop _ h => ⟨stop ▸ h.active, stop ▸ h.line⟩) fun _ _ _ _ h => ⟨h.active, h.line⟩

/-- RESET keeps an ACTIVE stop, and leaves no move, no follow and no end watch (R191). -/
theorem Stopped.softReset {s : State} (h : Stopped s) : Stopped (softReset s) := by
  unfold Machine.softReset
  refine ⟨⟨h.active, nofun, nofun, rfl, rfl⟩, fun k mv hk => ?_⟩
  simp at hk

theorem Calm.softReset {s : State} (h : Calm s) : Calm (softReset s) := by
  unfold Machine.softReset
  exact ⟨h.active, h.line⟩

theorem Stopped.sets {ty : Byte} {s w : State} (work : Sets ty s w) (h : Stopped s) : Calm w ∨ Stopped w := by
  cases work with
  | locate => exact .inr (h.sameState rfl)
  | softReset => exact .inr h.softReset
  | enterStop clear => exact absurd (h.active.symm.trans clear) nofun
  | clearStop line => exact .inl (calm_show.queueNotice _ (calm_resnap ⟨rfl, line⟩))
  | setStopRamp => exact .inr (.of_inherits (resnap_inherits _ _) (h.sameStop h.active))

theorem Calm.sets {ty : Byte} {s w : State} (work : Sets ty s w) (h : Calm s) : Calm w ∨ Stopped w := by
  cases work with
  | locate => exact .inl ⟨h.active, h.line⟩
  | softReset => exact .inl h.softReset
  | enterStop => exact .inr (enterStop_stopped _ s)
  | clearStop => exact .inl (calm_show.queueNotice _ (calm_resnap ⟨rfl, h.line⟩))
  | setStopRamp => exact .inl (calm_resnap ⟨h.active, h.line⟩)

theorem poweredOn_law (resetIn : Bool) (rate : LineRate) (stopIn readyA readyB : Bool) (s : State) :
    Calm (poweredOn resetIn rate stopIn readyA readyB s) ∨ Stopped (poweredOn resetIn rate stopIn readyA readyB s) := by
  cases stopIn
  · exact .inl ⟨rfl, rfl⟩
  · refine .inr ⟨⟨rfl, nofun, nofun, rfl, rfl⟩, fun k mv hk => ?_⟩
    simp [poweredOn, State.reset] at hk

theorem Stopped.switches {power : Bool} {s w : State} (event : Switches power s w) (h : Stopped s) : Calm w ∨ Stopped w := by
  cases event with
  | powerOn => exact poweredOn_law _ _ _ _ _ _
  | stopInAsserted =>
    rw [assertStopIn, h.active]
    exact .inr (stopped_claims.queueNotice _ (h.sameStop h.active))
  | stopInReleased =>
    rw [releaseStopIn, h.active]
    exact .inr (stopped_claims.queueNotice _ (h.sameStop h.active))

theorem Calm.switches {power : Bool} {s w : State} (event : Switches power s w) (h : Calm s) : Calm w ∨ Stopped w := by
  cases event with
  | powerOn => exact poweredOn_law _ _ _ _ _ _
  | stopInAsserted =>
    rw [assertStopIn, h.active]
    exact .inr (enterStop_stopped _ _)
  | stopInReleased =>
    rw [releaseStopIn, h.active]
    exact .inl ⟨h.active, rfl⟩

theorem lawful_kept : Steps.Kept (fun _ => True) true fun s => Calm s ∨ Stopped s where
  link s k h := h.imp (calm_show.link s k) (stopped_claims.link s k)
  works ty s w _ work := by
    rintro (calm | stopped)
    · exact (calm_show.works work calm).elim .inl calm.sets
    · rcases stopped_records.works work stopped with kept | plays | sets
      · exact .inr kept
      · exact .inr (stopped.plays plays)
      · exact stopped.sets sets
  happens s w event := by
    rintro (calm | stopped)
    · exact (calm_show.happens event calm).elim .inl calm.switches
    · rcases stopped_records.happens event stopped with kept | passes | switches
      · exact .inr kept
      · exact .inr (stopped.passes passes)
      · exact stopped.switches switches

theorem stopLaw_step {s t : State} (law : StopLaw s) (next : step s = .next t) : StopLaw t := by
  rw [stopLaw_iff] at law ⊢
  exact lawful_kept.step (fun s _ h => h.imp (fun h => ⟨h.active, h.line⟩)
    fun h => .of_inherits (s := s) (.of_moves rfl rfl rfl rfl rfl rfl) h) next law

/-! ## Show time (R78) -/

/-- Show time has not fallen below t0 and lies within its four bytes. -/
structure Since (t0 : Nat) (s : State) : Prop where
  rising : t0 ≤ s.clock.showTime
  bound : s.clock.showTime ≤ Config.showMax

theorem since_stops (t0 : Nat) : Stops (fun _ => True) (Since t0) where
  toShow := .of_stop_clock (fun _ _ _ clock h => ⟨clock ▸ h.rising, clock ▸ h.bound⟩)
    fun _ _ rises within h => ⟨h.rising.trans rises, within.trans (max_le h.bound le_rfl)⟩
  stop s f h := by
    have clock := (resnap_inherits s (updStop f s)).clock
    exact ⟨clock ▸ h.rising, clock ▸ h.bound⟩
  line _ _ h := ⟨h.rising, h.bound⟩

/-- From 0 on show time is held within its bytes by the resets and CLOCK LOCATE too. -/
theorem since_whole : Whole (fun _ => True) (Since 0) where
  toStops := since_stops 0
  locate _ _ bound _ := ⟨Nat.zero_le _, bound⟩
  softReset s _ := by
    unfold Machine.softReset
    exact ⟨Nat.zero_le _, Nat.zero_le _⟩
  powerOn _ _ _ _ _ _ _ := ⟨Nat.zero_le _, Nat.zero_le _⟩

/-- Neither RESET nor CLOCK LOCATE. -/
def Harmless (ty : Byte) : Prop := ty ≠ 0x02 ∧ ty ≠ 0x2D

theorem since_kept (t0 : Nat) : Steps.Kept Harmless false (Since t0) where
  link := (since_stops t0).link
  works _ _ _ harmless work h := (since_stops t0).worksBut harmless work h
  happens _ _ event h := (since_stops t0).happensBut event h

theorem typesInReach_pending (s : State) (cs : List Instr) (c : Instr) :
    typesInReach { s with pending := cs } c = typesInReach s c := by
  cases c <;> rfl

theorem showTime_step {s t : State} (next : step s = .next t) : ShowTimeKept s t where
  bound h := (since_whole.kept.step (fun _ _ h => ⟨h.rising, h.bound⟩) next ⟨Nat.zero_le _, h⟩).bound
  rising h harmless := by
    unfold step at next
    split at next
    · cases next
      exact le_rfl
    · rename_i c rest queue
      obtain ⟨notPower, reach⟩ := harmless c (by rw [queue]; rfl)
      have kept := since_kept s.clock.showTime
      refine (kept.execBut (by unfold Harmless; decide) (fun ty hty => reach ty ?_) ?_ next ⟨le_rfl, h⟩).rising
      · rwa [typesInReach_pending] at hty
      · exact fun held rate stop a b e => absurd e (notPower held rate stop a b)

/-- Settles O59: the stop's law is that it is CLEAR or that only glides stand, and show time is set by a reset or a
locate alone. -/
theorem stopStaysInForce : Obligations.StopStaysInForce :=
  ⟨fun _ _ => stopLaw_step, fun _ _ => showTime_step⟩

end Sys2Proof.ShowStop
end

section
/-! O55: the law of levels. -/

namespace Sys2Proof.LevelRange

open Sys2Proof Sys2Proof.Machine Sys2Proof.Closure

/-! ## Levels of one record (R1) -/

/-- The levels of a channel lie in their ranges. -/
def ChannelLaw (ch : Channel) : Prop :=
  InScale ch.base ∧ InScale ch.cueLevel ∧ (-768 ≤ ch.trim ∧ ch.trim ≤ 768) ∧ (-3072 ≤ ch.atten ∧ ch.atten ≤ 0)
    ∧ ClaimInScale ch.claim

/-- The levels of a group lie in their range. -/
def GroupLaw (gr : Group) : Prop := InScale gr.offset ∧ ClaimInScale gr.claim

/-- The levels of a move lie in their ranges. -/
def Fits (mv : Move) : Prop := ValueInRange mv.mode mv.value ∧ PendingInScale mv.pending

theorem clampLevel_inScale (x : Int) : InScale (clampLevel x) := by
  unfold clampLevel clampInt Config.off Config.top InScale
  omega

theorem inScale_zero : InScale 0 := by unfold InScale; omega

theorem inScale_off : InScale (-3072) := by unfold InScale; omega

theorem inScale_between {a b x : Int} (ha : InScale a) (hb : InScale b) (lower : min a b ≤ x) (upper : x ≤ max a b) :
    InScale x := by
  unfold InScale at *
  omega

theorem clampValue_inRange (mode : Mode) (v : Int) : ValueInRange mode (clampValue mode v) := by
  cases mode
  · exact clampLevel_inScale v
  · unfold ValueInRange clampValue clampInt Config.deltaMax
    dsimp only
    omega

theorem rampGoal_range (s : State) (c : Chan) : -3072 ≤ rampGoal s c ∧ rampGoal s c ≤ 0 := by
  unfold rampGoal Config.off
  split <;> omega

/-- A ramp step stays between where it starts and the goal (R9). -/
theorem rampToward_range {goal m : Int} (len : Nat) (hg : -3072 ≤ goal ∧ goal ≤ 0) (hm : -3072 ≤ m ∧ m ≤ 0) :
    -3072 ≤ rampToward len goal m ∧ rampToward len goal m ≤ 0 := by
  have step : 0 ≤ rampStep len := Int.natCast_nonneg _
  unfold rampToward
  split
  · exact hm
  · split <;> omega

theorem claimInScale_none : ClaimInScale none := fun _ h => by cases h

theorem claimInScale_some {cl : Claim} (start : InScale cl.start) (target : InScale cl.target) :
    ClaimInScale (some cl) := fun _ h => by cases h; exact ⟨start, target⟩

/-- The curve value of a move is at most 4096 (R18, R19). -/
theorem moveProgress_le (mv : Move) (s : State) : moveProgress mv s ≤ 4096 := by
  unfold moveProgress
  split
  · exact LevelScale.shape_le _ (LevelScale.progress_le _ _)
  · exact Nat.zero_le _

theorem claimValue_inScale {s : State} {t : Vector Int 33} {cl : Claim} {held : Int} (claim : ClaimInScale (some cl))
    (base : InScale held) : InScale (claimValue s t cl held) := by
  obtain ⟨start, target⟩ := claim cl rfl
  unfold claimValue
  split
  · rename_i mv _
    obtain ⟨lower, upper⟩ := LevelScale.laneValue_between mv.law t cl.start cl.target (moveProgress_le mv s)
    exact inScale_between start target lower upper
  · exact base

theorem liveLevel_inScale {s : State} {c : Chan} (h : ChannelLaw s.chans[c]) : InScale (liveLevel s c) := by
  obtain ⟨base, -, -, -, claim⟩ := h
  unfold liveLevel
  split
  · exact base
  · rename_i cl claimed
    exact claimValue_inScale (claimed ▸ claim) base

theorem liveOffset_inScale {s : State} {g : Grp} (h : GroupLaw s.groups[g]) : InScale (liveOffset s g) := by
  obtain ⟨offset, claim⟩ := h
  unfold liveOffset
  split
  · exact offset
  · rename_i cl claimed
    exact claimValue_inScale (claimed ▸ claim) offset

/-- Every position maps into the scale (R13). -/
theorem taperForward_inScale {t : Vector Int 33} (ht : TableLaw t) (x : Nat) : InScale (taperForward t x) := by
  have entry {k : Nat} (hk : k < 33) : InScale (taperEntry t k) := by
    rw [LevelScale.taperEntry_eq_getElem t hk]
    exact ht.1 ⟨k, hk⟩
  rcases Nat.lt_or_ge x 1024 with inside | above
  · obtain ⟨lower, upper⟩ := LevelScale.taperForward_between_ends ht inside.le
    exact inScale_between (entry (k := 0) (by omega)) (entry (k := 32) (by omega)) (inf_le_left.trans lower)
      (upper.trans le_sup_right)
  · unfold taperForward
    rw [if_neg (by omega)]
    exact entry (by omega)

end Sys2Proof.LevelRange

namespace Sys2Proof.Machine

open Sys2Proof Sys2Proof.Closure Sys2Proof.LevelRange

/-! ## The law through the changes of a state -/

section

variable {s t : State}

theorem LevelLaw.of_inherits (same : Inherits s t) (chans : ∀ c : Chan, ChannelLaw t.chans[c])
    (groups : ∀ g : Grp, GroupLaw t.groups[g]) (h : LevelLaw s) : LevelLaw t where
  chans := chans
  groups := groups
  tables := by rw [same.taperA, same.taperB]; exact h.tables
  moves k mv hk := by
    obtain ⟨old, occupied, asked⟩ := same.moves k mv hk
    have mode : mv.mode = old.mode := (congrArg Move.mode asked :)
    have value : mv.value = old.value := (congrArg Move.value asked :)
    have pending : mv.pending = old.pending := (congrArg Move.pending asked :)
    rw [mode, value, pending]
    exact h.moves k old occupied
  store := same.play ▸ h.store
  recalls := same.play ▸ h.recalls

/-- A change that keeps every record of a channel or a group. -/
theorem LevelLaw.of_records (same : Inherits s t) (chans : t.chans = s.chans) (groups : t.groups = s.groups)
    (h : LevelLaw s) : LevelLaw t :=
  .of_inherits same (chans ▸ h.chans) (groups ▸ h.groups) h

theorem LevelLaw.updChan {c : Chan} {f : Channel → Channel} (hf : ChannelLaw s.chans[c] → ChannelLaw (f s.chans[c]))
    (h : LevelLaw s) : LevelLaw (updChan c f s) := by
  refine .of_inherits (updChan_inherits c f s) (fun d => ?_) h.groups h
  rw [getChan_updChan]
  split
  · rename_i e
    subst e
    exact hf (h.chans c)
  · exact h.chans d

theorem LevelLaw.updChans {cs : List Chan} {f : Channel → Channel} (hf : ∀ ch, ChannelLaw ch → ChannelLaw (f ch))
    (h : LevelLaw s) : LevelLaw (updChans cs f s) :=
  foldl_keeps _ (fun _ _ ht => LevelLaw.updChan (hf _) ht) cs h

theorem LevelLaw.mapChans {f : Chan → Channel → Channel}
    (hf : ∀ c : Chan, ChannelLaw s.chans[c] → ChannelLaw (f c s.chans[c])) (h : LevelLaw s) :
    LevelLaw (mapChans f s) := by
  refine .of_inherits (mapChans_inherits f s) (fun d => ?_) ?_ h
  · rw [getChan_mapChans]
    exact hf d (h.chans d)
  · rw [mapChans_groups]
    exact h.groups

theorem LevelLaw.updGroup {g : Grp} {f : Group → Group} (hf : GroupLaw s.groups[g] → GroupLaw (f s.groups[g]))
    (h : LevelLaw s) : LevelLaw (updGroup g f s) := by
  refine .of_inherits (updGroup_inherits g f s) h.chans (fun d => ?_) h
  rw [getGroup_updGroup]
  split
  · rename_i e
    subst e
    exact hf (h.groups g)
  · exact h.groups d

theorem LevelLaw.mapGroups {f : Grp → Group → Group}
    (hf : ∀ g : Grp, GroupLaw s.groups[g] → GroupLaw (f g s.groups[g])) (h : LevelLaw s) :
    LevelLaw (mapGroups f s) := by
  refine .of_inherits (mapGroups_inherits f s) ?_ (fun d => ?_) h
  · rw [mapGroups_chans]
    exact h.chans
  · rw [getGroup_mapGroups]
    exact hf d (h.groups d)

theorem LevelLaw.setSlot_none (k : Slot) (h : LevelLaw s) : LevelLaw (setSlot k none s) :=
  .of_records (setSlot_inherits_none k s) rfl rfl h

theorem LevelLaw.setSlot {k : Slot} {mv old : Move} (occupied : s.moves[k] = some old) (same : asked mv = asked old)
    (h : LevelLaw s) : LevelLaw (setSlot k (some mv) s) :=
  .of_records (setSlot_inherits occupied same) rfl rfl h

theorem LevelLaw.updMove {f : Move → Move} (same : ∀ mv, asked (f mv) = asked mv) (k : Slot) (h : LevelLaw s) :
    LevelLaw (updMove k f s) := by
  unfold Machine.updMove
  split
  · exact h.setSlot ‹_› (same _)
  · exact h

/-- The playback may change but for its cues' actions and its recall records. -/
theorem LevelLaw.play {p : Playback} (store : ∀ c ∈ p.store, ∀ a ∈ c.actions, ValueInRange a.mode a.value)
    (recalls : ∀ r ∈ p.recalls, (∀ e ∈ r.chans, InScale e.2.1) ∧ ∀ e ∈ r.groups, InScale e.2.1) (h : LevelLaw s) :
    LevelLaw { s with play := p } :=
  ⟨h.chans, h.groups, h.tables, h.moves, store, recalls⟩

theorem LevelLaw.resnap (before : State) (h : LevelLaw s) : LevelLaw (resnap before s) :=
  LevelLaw.mapChans (fun c law => by
    obtain ⟨base, cue, trim, atten, claim⟩ := law
    split
    · exact ⟨base, cue, trim, rampGoal_range s c, claim⟩
    · exact ⟨base, cue, trim, atten, claim⟩) h

theorem LevelLaw.unclaimChan (c : Chan) (h : LevelLaw s) : LevelLaw (unclaimChan c s) := by
  unfold Machine.unclaimChan
  split
  · exact h
  · refine LevelLaw.updMove (by intro _; rfl) _ (LevelLaw.updChan (fun law => ?_) h)
    have live := liveLevel_inScale law
    obtain ⟨-, cue, trim, atten, -⟩ := law
    exact ⟨live, cue, trim, atten, claimInScale_none⟩

theorem LevelLaw.unclaimGroup (g : Grp) (h : LevelLaw s) : LevelLaw (unclaimGroup g s) := by
  unfold Machine.unclaimGroup
  split
  · exact h
  · exact LevelLaw.updMove (by intro _; rfl) _
      (LevelLaw.updGroup (fun law => ⟨liveOffset_inScale law, claimInScale_none⟩) h)

theorem LevelLaw.freezeClaims (k : Slot) (h : LevelLaw s) : LevelLaw (freezeClaims k s) := by
  refine LevelLaw.mapGroups (fun g law => ?_) (LevelLaw.mapChans (fun c law => ?_) h)
  · split
    · exact ⟨liveOffset_inScale (h.groups g), claimInScale_none⟩
    · exact law
  · split
    · have live := liveLevel_inScale law
      obtain ⟨-, cue, trim, atten, -⟩ := law
      exact ⟨live, cue, trim, atten, claimInScale_none⟩
    · exact law

theorem LevelLaw.completeClaims (k : Slot) (h : LevelLaw s) : LevelLaw (completeClaims k s) := by
  refine LevelLaw.mapGroups (fun g law => ?_) (LevelLaw.mapChans (fun c law => ?_) h)
  · split
    · rename_i cl claimed
      split
      · exact ⟨(law.2 cl claimed).2, claimInScale_none⟩
      · exact law
    · exact law
  · split
    · rename_i cl claimed
      split
      · obtain ⟨-, cue, trim, atten, claim⟩ := law
        exact ⟨(claim cl claimed).2, cue, trim, atten, claimInScale_none⟩
      · exact law
    · exact law

/-! ### The start of a move (R57, R59) -/

theorem laneTarget_inScale {mv : Move} {recorded : Option Int} {v : Int} (value : ValueInRange mv.mode mv.value)
    (target : ∀ x ∈ recorded, InScale x) : InScale (laneTarget mv recorded v) := by
  unfold laneTarget
  split
  · exact target _ rfl
  · split
    · rename_i abs
      rw [abs] at value
      exact value
    · exact clampLevel_inScale _

theorem LevelLaw.startLane {k : Slot} {mv : Move} {c : Chan} {recorded : Option Int}
    (value : ValueInRange mv.mode mv.value) (target : ∀ x ∈ recorded, InScale x) (h : LevelLaw s) :
    LevelLaw (startLane k mv c recorded s) := by
  have lane := laneTarget_inScale (v := liveLevel s c) value target
  unfold Machine.startLane
  split
  · exact h
  · dsimp only
    split
    · refine LevelLaw.updChan (fun law => ?_) h
      obtain ⟨base, -, trim, atten, claim⟩ := law
      exact ⟨base, lane, trim, atten, claim⟩
    · refine LevelLaw.updMove (by intro _; rfl) _ (LevelLaw.updChan (fun law => ?_) (h.unclaimChan c))
      obtain ⟨base, -, trim, atten, -⟩ := law
      exact ⟨base, lane, trim, atten, claimInScale_some (liveLevel_inScale (h.chans c)) lane⟩

theorem LevelLaw.startGroup {k : Slot} {mv : Move} {g : Grp} {recorded : Option Int}
    (value : ValueInRange mv.mode mv.value) (target : ∀ x ∈ recorded, InScale x) (h : LevelLaw s) :
    LevelLaw (startGroup k mv g recorded s) :=
  LevelLaw.updMove (by intro _; rfl) _ (LevelLaw.updGroup
    (fun law => ⟨law.1, claimInScale_some (liveOffset_inScale (h.groups g)) (laneTarget_inScale value target)⟩)
    (h.unclaimGroup g))

theorem LevelLaw.startPending {k : Slot} {mv : Move} (fits : Fits mv) (h : LevelLaw s) :
    LevelLaw (startPending k mv s) := by
  obtain ⟨value, pending⟩ := fits
  unfold Machine.startPending
  split
  · exact foldl_keeps _ (fun _ _ ht => LevelLaw.startLane value (by simp) ht) _ h
  · rename_i ls recorded
    rw [recorded] at pending
    refine List.foldlRecOn (motive := fun t : State => LevelLaw t) ls _ h fun t ht l hl => ?_
    exact LevelLaw.startLane value (by rintro x ⟨⟩; exact pending l hl) ht
  · exact LevelLaw.startGroup value (by simp) h
  · rename_i g target recorded
    rw [recorded] at pending
    exact LevelLaw.startGroup value (by rintro x ⟨⟩; exact pending) h

theorem LevelLaw.started {k : Slot} {mv : Move} (start : Nat) (occupied : s.moves[k] = some mv) (h : LevelLaw s) :
    LevelLaw (started k mv start s) :=
  LevelLaw.startPending (h.moves k mv occupied) (h.setSlot occupied rfl)

/-- Turning round exchanges the lane start and the lane target (R64). -/
theorem LevelLaw.turnRound {k : Slot} {mv : Move} (start : Nat) (occupied : s.moves[k] = some mv) (h : LevelLaw s) :
    LevelLaw (turnRound k mv start s) := by
  have swap {cl : Option Claim} (law : ClaimInScale cl) :
      ClaimInScale (if claimIs k cl then cl.map fun cl => { cl with start := cl.target, target := cl.start } else cl) := by
    split
    · cases cl with
      | none => exact law
      | some cl =>
        obtain ⟨a, b⟩ := law cl rfl
        exact claimInScale_some b a
    · exact law
  refine LevelLaw.mapGroups (fun g law => ⟨law.1, swap law.2⟩) (LevelLaw.mapChans (fun c law => ?_) (h.setSlot occupied rfl))
  obtain ⟨base, cue, trim, atten, claim⟩ := law
  exact ⟨base, cue, trim, atten, swap claim⟩

end

end Sys2Proof.Machine

namespace Sys2Proof.LevelRange

open Sys2Proof Sys2Proof.Machine Sys2Proof.Closure

/-! ## Every operation keeps the law -/

/-- A retirement's report is its effect on the playback. -/
theorem reportRetirement_play (firing r : Nat) (s : State) :
    reportRetirement firing r s = { s with play := (reportRetirement firing r s).play } := by
  unfold reportRetirement expireEndWatch
  split
  · split
    · dsimp only [updPlay]
      split <;> rfl
    · rfl
  · rfl

/-- The levels that TAPER WRITE takes lie in the scale and never fall (R12). -/
theorem taperAllowed_iff : ∀ levels : List Int,
    taperAllowed levels = true ↔ (∀ x ∈ levels, InScale x) ∧ levels.Pairwise (· ≤ ·)
  | [] => by simp [taperAllowed]
  | [x] => by
    simp only [taperAllowed, Bool.and_eq_true, decide_eq_true_eq, List.forall_mem_singleton, List.pairwise_singleton,
      and_true]
    rfl
  | x :: y :: zs => by
    have ih := taperAllowed_iff (y :: zs)
    simp only [taperAllowed, Bool.and_eq_true, decide_eq_true_eq, ih]
    constructor
    · rintro ⟨⟨⟨low, high⟩, le⟩, inScale, rising⟩
      refine ⟨List.forall_mem_cons.mpr ⟨⟨low, high⟩, inScale⟩, List.pairwise_cons.mpr ⟨fun z hz => ?_, rising⟩⟩
      rcases List.mem_cons.mp hz with rfl | later
      · exact le
      · exact le.trans ((List.pairwise_cons.mp rising).1 z later)
    · rintro ⟨inScale, rising⟩
      obtain ⟨⟨low, high⟩, inScale⟩ := List.forall_mem_cons.mp inScale
      obtain ⟨first, rising⟩ := List.pairwise_cons.mp rising
      exact ⟨⟨⟨low, high⟩, first y (List.mem_cons_self)⟩, inScale, rising⟩

/-- A table read from 33 levels holds them in order (R12). -/
theorem getElem_tableFrom {levels : List Int} (many : levels.length = 33) (k : Fin 33) :
    (tableFrom levels)[k] = levels[k.val]'(by omega) := by
  have inside : k.val < levels.length := by omega
  simp [tableFrom, inside]

/-- A table that TAPER WRITE takes meets R12. -/
theorem tableFrom_law {levels : List Int} (many : levels.length = 33) (allowed : taperAllowed levels = true) :
    TableLaw (tableFrom levels) := by
  obtain ⟨inScale, rising⟩ := (taperAllowed_iff levels).mp allowed
  refine ⟨fun k => ?_, fun j k le => ?_⟩
  · rw [getElem_tableFrom many]
    exact inScale _ (List.getElem_mem _)
  · rw [getElem_tableFrom many, getElem_tableFrom many]
    rcases Nat.lt_or_eq_of_le (Fin.le_def.mp le) with lt | eq
    · exact List.pairwise_iff_getElem.mp rising _ _ _ _ lt
    · simp only [eq, le_refl]

theorem powerOn_tables : TableLaw taperAtPowerOnA ∧ TableLaw taperAtPowerOnB := by
  unfold TableLaw InScale
  decide +kernel

theorem levels_claims : Claims LevelLaw where
  link _ _ := .of_records (.of_moves rfl rfl rfl rfl rfl rfl) rfl rfl
  report s firing r h := by
    have plan := (reportRetirement_show firing r s).plan
    simp only [Playback.plan, Prod.mk.injEq] at plan
    obtain ⟨store, -, -, recalls⟩ := plan
    have same := reportRetirement_play firing r s
    rw [same]
    exact h.play (store ▸ h.store) (recalls ▸ h.recalls)
  unclaimChan _ c h := h.unclaimChan c
  unclaimGroup _ g h := h.unclaimGroup g
  free _ k _ h := h.setSlot_none k

theorem level_of_base {ch : Channel} {x : Int} (level : InScale x) (law : ChannelLaw ch) :
    ChannelLaw { ch with base := x } := by
  obtain ⟨-, cue, trim, atten, claim⟩ := law
  exact ⟨level, cue, trim, atten, claim⟩

theorem levels_owned {s : State} (c : Chan) (o : Ownership) (h : LevelLaw s) : LevelLaw (setOwnership c o s) :=
  h.updChans fun _ law => law

theorem levels_fader {s t : State} (c : Chan) (i : StripId) (hs : LevelLaw s) (ht : LevelLaw t) :
    LevelLaw (writeFader c (faderLevel s i c) t) := by
  have level : InScale (faderLevel s i c) := by
    unfold faderLevel tableOf
    split
    · exact taperForward_inScale hs.tables.1 _
    · exact taperForward_inScale hs.tables.2 _
  have base {d : Chan} {x : Int} {t : State} (inScale : InScale x) (ht : LevelLaw t) :
      LevelLaw (updChan d (fun ch => { ch with base := x }) t) := ht.updChan (level_of_base inScale)
  unfold writeFader
  split
  · dsimp only
    split <;> exact base (clampLevel_inScale _) (base level ht)
  · exact base level ht

theorem levels_core : Core Fits LevelLaw where
  toClaims := levels_claims
  surf _ _ := .of_records (.of_moves rfl rfl rfl rfl rfl rfl) rfl rfl
  ownMute s c on h := LevelLaw.resnap s (LevelLaw.updChans (fun _ law => law) h)
  groupMute s g on h := LevelLaw.resnap s (LevelLaw.updGroup (fun law => law) h)
  cancel _ k h := (h.freezeClaims k).setSlot_none k
  complete _ k h := (h.completeClaims k).setSlot_none k
  place s k mv created _ fits h := by
    refine ⟨h.chans, h.groups, h.tables, fun j mv' hj => ?_, h.store, h.recalls⟩
    rw [placeMove_moves] at hj
    split at hj
    · cases hj
      exact fits
    · exact h.moves j mv' hj
  start _ _ _ start occupied _ h := h.started start occupied
  turn _ _ _ start occupied _ h := h.turnRound start occupied
  auto _ c h := levels_owned c .auto h
  latch _ c _ h := levels_owned c .latched h
  touch s c cause h := by
    have taken := levels_claims.removeClaims (unitChans (setOwnership c .touched s) c)
      (levels_claims.queueNotice (takeoverNotice s c .touched none cause (liveLevel s (unitLower s c)))
        (levels_owned c .touched h))
    unfold takeTouched recordBalance
    exact ite_keeps (taken.updChans fun _ law => law) taken
  pickup _ _ _ _ h := h.updChans fun _ law => law
  side _ _ _ _ h := h.updChans fun _ law => law
  fader _ _ c i hs ht := levels_fader c i hs ht
  glide s c h := by
    refine ⟨inScale_zero, fun l hl => ?_⟩
    obtain ⟨u, -, rfl⟩ := List.mem_map.mp hl
    exact (h.chans u).2.1
  act _ k _ _ _ _ _ h := h.setSlot_none k

theorem resolvePending_inScale (s : State) (o : Origin) (t : TargetSpec) : PendingInScale (resolvePending s o t) := by
  cases t <;> trivial

/-- Reloading or setting a loop counter keeps the actions of every cue. -/
theorem store_of_map {store : List Cue} (f : Cue → Cue) (actions : ∀ c, (f c).actions = c.actions)
    (h : ∀ c ∈ store, ∀ a ∈ c.actions, ValueInRange a.mode a.value) :
    ∀ c ∈ store.map f, ∀ a ∈ c.actions, ValueInRange a.mode a.value := by
  intro c hc a ha
  obtain ⟨d, hd, rfl⟩ := List.mem_map.mp hc
  rw [actions] at ha
  exact h d hd a ha

theorem levels_advance {s : State} (c : Cue) (h : LevelLaw s) : LevelLaw (updPlay (advanceStandby c) s) := by
  have counters (v : Nat) := store_of_map (fun d => if d.number = c.number then { d with loopCounter := v } else d)
    (fun d => by split <;> rfl) h.store
  refine h.play ?_ ?_
  · unfold advanceStandby
    split
    · exact h.store
    · split
      · exact counters _
      · exact counters _
  · unfold advanceStandby
    split
    · exact h.recalls
    · split <;> exact h.recalls

theorem levels_push {s : State} (firing : Nat) (c : Cue) (h : LevelLaw s) :
    LevelLaw (updPlay (pushRecall (recallRecord s firing c)) s) := by
  refine h.play h.store fun r hr => ?_
  rcases List.mem_cons.mp (List.mem_of_mem_take hr) with rfl | old
  · constructor
    · intro e he
      obtain ⟨d, -, rfl⟩ := List.mem_map.mp he
      exact liveLevel_inScale (h.chans d)
    · intro e he
      obtain ⟨g, -, rfl⟩ := List.mem_map.mp he
      exact liveOffset_inScale (h.groups g)
  · exact h.recalls r old

theorem levels_play : Play Fits LevelLaw where
  toCore := levels_core
  choice _ _ h := ⟨h.chans, h.groups, h.tables, h.moves, h.store, h.recalls⟩
  clock _ _ _ _ h := ⟨h.chans, h.groups, h.tables, h.moves, h.store, h.recalls⟩
  timers _ _ store _ recalls h := h.play (store ▸ h.store) (recalls ▸ h.recalls)
  push _ firing c h := levels_push firing c h
  pop _ r rest top h := h.play h.store fun e he => h.recalls e (top ▸ List.mem_cons_of_mem r he)
  advance _ c h := levels_advance c h
  back _ _ h := h.play h.store h.recalls
  stored _ c a h hc ha t o := ⟨h.store c hc a ha, resolvePending_inScale t o a.spec⟩
  recorded _ r h hr := by
    obtain ⟨chans, groups⟩ := h.recalls r hr
    refine ⟨fun _ ls _ recorded => ⟨inScale_zero, fun l hl => ?_⟩, fun _ e _ he => ⟨inScale_zero, groups e he⟩⟩
    obtain ⟨e, he, same⟩ := recorded l hl
    exact same ▸ chans e he

theorem levels_records : Records Fits LevelLaw where
  toCore := levels_core
  settle _ h := levels_play.settle h
  count := levels_play.choice
  lanes _ _ h := ⟨h.chans, h.groups, h.tables, h.moves, h.store, h.recalls⟩
  attributes s c a h := levels_claims.removeClaims _ (LevelLaw.resnap s (LevelLaw.updChans (fun _ law => law) h))
  level s c level h := (levels_claims.removeClaims _ h).updChans fun _ law =>
    ⟨clampLevel_inScale _, clampLevel_inScale _, law.2.2⟩
  trim s c trim h := h.updChan fun law => by
    obtain ⟨base, cue, -, atten, claim⟩ := law
    refine ⟨base, cue, ?_, atten, claim⟩
    unfold clampInt Config.trimMax
    dsimp only
    omega
  linkPair s k _ _ h := by
    unfold linkPair
    split
    · exact h
    · refine .of_records (setLink_inherits _ _ _) rfl rfl (levels_claims.removeClaims _ ?_)
      exact LevelLaw.resnap s (LevelLaw.updChan (fun law => law) h)
  unlink _ _ := .of_records (setLink_inherits _ _ _) rfl rfl
  offset _ g _ h := (levels_claims.removeGroupClaim g h).updGroup fun law => ⟨clampLevel_inScale _, law.2⟩
  members s _ _ _ h := LevelLaw.resnap s (LevelLaw.updChans (fun _ law => law) h)
  sets _ _ h := ⟨h.chans, h.groups, h.tables, h.moves, h.store, h.recalls⟩
  table s t levels many allowed h := by
    have law := tableFrom_law many allowed
    revert law
    generalize tableFrom levels = table
    intro law
    cases t
    · exact ⟨h.chans, h.groups, ⟨law, h.tables.2⟩, h.moves, h.store, h.recalls⟩
    · exact ⟨h.chans, h.groups, ⟨h.tables.1, law⟩, h.moves, h.store, h.recalls⟩
  writeCue _ c _ h := h.play (fun d hd a ha => by
    rcases CueStore.mem_insertCue hd with rfl | old
    · obtain ⟨b, -, rfl⟩ := List.mem_map.mp ha
      exact clampValue_inRange _ _
    · exact h.store d old a ha) h.recalls
  deleteCue _ _ h := h.play (fun d hd => h.store d (List.mem_filter.mp hd).1) h.recalls
  clearCues _ h := h.play (by simp) h.recalls
  jump _ _ _ h := h.play (store_of_map _ (fun _ => rfl) h.store) h.recalls
  backTime _ _ h := h.play h.store h.recalls

theorem levels_softReset {s : State} (h : LevelLaw s) : LevelLaw (softReset s) := by
  unfold softReset
  refine ⟨fun c => ?_, fun g => ?_, h.tables, fun k mv hk => ?_, store_of_map _ (fun _ => rfl) h.store, by simp [Playback.softReset]⟩
  · have live := liveLevel_inScale (h.chans c)
    obtain ⟨-, cue, trim, atten, -⟩ := h.chans c
    simp only [Fin.getElem_fin, Vector.getElem_ofFn]
    exact ⟨live, cue, trim, atten, claimInScale_none⟩
  · simp only [Fin.getElem_fin, Vector.getElem_ofFn]
    exact ⟨liveOffset_inScale (h.groups g), claimInScale_none⟩
  · simp at hk

/-- The levels of power-on lie in their ranges. -/
theorem levels_powerOn (stop : StopUnit) (lanes : Lanes) (link : Link) (pending : List Instr) (n : Nat) :
    LevelLaw { State.reset with stop := stop, lanes := lanes, link := link, pending := pending, freeCount := n } where
  chans c := by
    simp only [State.reset, Fin.getElem_fin, Vector.getElem_replicate]
    exact ⟨inScale_off, inScale_off, by decide, by decide, claimInScale_none⟩
  groups g := by
    simp only [State.reset, Fin.getElem_fin, Vector.getElem_replicate]
    exact ⟨inScale_zero, claimInScale_none⟩
  tables := powerOn_tables
  moves k mv hk := by simp [State.reset] at hk
  store c hc := by cases hc
  recalls r hr := by cases hr

theorem levels_whole : Whole Fits LevelLaw where
  toPlay := levels_play
  __ := levels_records
  ramps s h := h.mapChans fun c law => by
    obtain ⟨base, cue, trim, atten, claim⟩ := law
    exact ⟨base, cue, trim, rampToward_range _ (rampGoal_range s c) atten, claim⟩
  live t o a := ⟨clampValue_inRange _ _, resolvePending_inScale t o _⟩
  stop s f h := LevelLaw.resnap s ⟨h.chans, h.groups, h.tables, h.moves, h.store, h.recalls⟩
  line _ _ h := ⟨h.chans, h.groups, h.tables, h.moves, h.store, h.recalls⟩
  locate _ _ _ h := ⟨h.chans, h.groups, h.tables, h.moves, h.store, h.recalls⟩
  softReset _ h := levels_softReset h
  powerOn _ _ _ _ _ _ _ := levels_powerOn _ _ _ _ _

/-- Settles O55: every operation keeps the law of levels. -/
theorem levelsStayInRange : Obligations.LevelsStayInRange := fun _ _ h next =>
  levels_whole.kept.step (fun _ _ h => ⟨h.chans, h.groups, h.tables, h.moves, h.store, h.recalls⟩) next h

end Sys2Proof.LevelRange
end

section
/-! O56: the law of claims. -/

namespace Sys2Proof.ClaimCount

open Sys2Proof Sys2Proof.Machine Sys2Proof.Closure

/-! ## The slots that claims name (R47) -/

/-- The slot that the claim of a channel or a group names. -/
def slotAt (s : State) : Chan ⊕ Grp → Option Slot
  | .inl c => s.chans[c].claim.map (·.slot)
  | .inr g => s.groups[g].claim.map (·.slot)

theorem slotAt_chan (s : State) (c : Chan) : slotAt s (.inl c) = s.chans[c].claim.map (·.slot) := rfl

theorem slotAt_group (s : State) (g : Grp) : slotAt s (.inr g) = s.groups[g].claim.map (·.slot) := rfl

/-- A slot holds a LEVEL or GROUP move that has started. -/
def Live (s : State) (k : Slot) : Prop := ∃ mv, s.moves[k] = some mv ∧ mv.phase ≠ .delayed ∧ mv.kind.isInstant = false

/-- The records whose claim names a slot, counted. -/
def named (s : State) (k : Slot) : Nat := ∑ r, if slotAt s r = some k then 1 else 0

theorem claimIs_iff (k : Slot) (cl : Option Claim) : claimIs k cl = true ↔ cl.map (·.slot) = some k := by
  cases cl <;> simp [claimIs]

theorem length_filter_allFin {n : Nat} (p : Fin n → Bool) :
    ((allFin n).filter p).length = ∑ i, if p i = true then 1 else 0 := by
  rw [Fin.sum_univ_def, ← List.countP_eq_length_filter]
  unfold allFin
  induction List.finRange n with
  | nil => rfl
  | cons i is ih =>
    rw [List.countP_cons, List.map_cons, List.sum_cons, ih]
    split <;> omega

theorem claimCount_eq_named (s : State) (k : Slot) : claimCount s k = named s k := by
  unfold claimCount named
  rw [Fintype.sum_sum_type, length_filter_allFin, length_filter_allFin]
  simp only [claimIs_iff]
  rfl

theorem claimLaw_iff (s : State) : ClaimLaw s ↔
    (∀ r k, slotAt s r = some k → Live s k) ∧ ∀ (k : Slot) (mv : Move), s.moves[k] = some mv → mv.claims = named s k := by
  constructor
  · intro law
    refine ⟨fun r k hr => ?_, fun k mv hk => (law.count k mv hk).trans (claimCount_eq_named s k)⟩
    rcases r with c | g
    · obtain ⟨cl, claimed, rfl⟩ := Option.map_eq_some_iff.mp hr
      exact law.chans c cl claimed
    · obtain ⟨cl, claimed, rfl⟩ := Option.map_eq_some_iff.mp hr
      exact law.groups g cl claimed
  · rintro ⟨live, count⟩
    exact ⟨fun c cl claimed => live (.inl c) cl.slot (Option.map_eq_some_iff.mpr ⟨cl, claimed, rfl⟩),
      fun g cl claimed => live (.inr g) cl.slot (Option.map_eq_some_iff.mpr ⟨cl, claimed, rfl⟩),
      fun k mv hk => (count k mv hk).trans (claimCount_eq_named s k).symm⟩

/-- One record changes the slot it names. -/
theorem named_update {s t : State} {r : Chan ⊕ Grp} {v : Option Slot}
    (claims : slotAt t = Function.update (slotAt s) r v) (k : Slot) :
    named t k + (if slotAt s r = some k then 1 else 0) = named s k + (if v = some k then 1 else 0) := by
  unfold named
  rw [← Finset.add_sum_erase Finset.univ _ (Finset.mem_univ r),
    ← Finset.add_sum_erase Finset.univ (fun x => if slotAt s x = some k then 1 else 0) (Finset.mem_univ r)]
  have rest : ∑ x ∈ Finset.univ.erase r, (if slotAt t x = some k then 1 else 0)
      = ∑ x ∈ Finset.univ.erase r, if slotAt s x = some k then 1 else 0 := by
    refine Finset.sum_congr rfl fun x hx => ?_
    rw [claims, Function.update_of_ne (Finset.ne_of_mem_erase hx)]
  have here : slotAt t r = v := by rw [claims, Function.update_self]
  rw [rest, here]
  omega

theorem named_eq_zero {s : State} {k : Slot} : named s k = 0 ↔ ∀ r, slotAt s r ≠ some k := by
  unfold named
  rw [Finset.sum_eq_zero_iff]
  simp

/-! ## The changes of claims -/

/-- The claims name what they named, and every move stands. -/
structure SameClaims (s t : State) : Prop where
  claims : slotAt t = slotAt s
  moves : t.moves = s.moves

namespace SameClaims

theorem refl (s : State) : SameClaims s s := ⟨rfl, rfl⟩

theorem trans {a b c : State} (h : SameClaims a b) (h' : SameClaims b c) : SameClaims a c :=
  ⟨h'.claims.trans h.claims, h'.moves.trans h.moves⟩

theorem foldl {α : Type} (f : State → α → State) (h : ∀ s a, SameClaims s (f s a)) :
    ∀ (l : List α) (s : State), SameClaims s (l.foldl f s)
  | [], s => .refl s
  | a :: l, s => (h s a).trans (foldl f h l (f s a))

end SameClaims

section

variable {s t : State}

theorem law_of_same (same : SameClaims s t) (h : ClaimLaw s) : ClaimLaw t := by
  rw [claimLaw_iff] at h ⊢
  obtain ⟨live, count⟩ := h
  unfold Live named at *
  rw [same.claims, same.moves]
  exact ⟨live, count⟩

/-- A claim is released: its move's count falls (R48). -/
theorem law_of_release {r : Chan ⊕ Grp} {k : Slot} (claims : slotAt t = Function.update (slotAt s) r none)
    (claimed : slotAt s r = some k)
    (moves : ∀ j : Slot, t.moves[j] =
      if k = j then s.moves[j].map (fun mv => { mv with claims := mv.claims - 1 }) else s.moves[j])
    (h : ClaimLaw s) : ClaimLaw t := by
  rw [claimLaw_iff] at h ⊢
  obtain ⟨live, count⟩ := h
  constructor
  · intro x j hx
    have old : slotAt s x = some j := by
      rw [claims, Function.update_apply] at hx
      split at hx
      · cases hx
      · exact hx
    obtain ⟨mv, occupied, started, fades⟩ := live x j old
    unfold Live
    rw [moves, occupied]
    split
    · exact ⟨_, rfl, started, fades⟩
    · exact ⟨mv, rfl, started, fades⟩
  · intro j mv hj
    have change := named_update claims j
    rw [claimed] at change
    rw [moves] at hj
    split at hj
    · rename_i e
      obtain ⟨old, occupied, rfl⟩ := Option.map_eq_some_iff.mp hj
      have := count j old occupied
      simp only [e, if_true, reduceCtorEq, if_false] at change
      simp only
      omega
    · rename_i e
      have := count j mv hj
      simp only [Option.some.injEq, e, reduceCtorEq, if_false] at change
      omega

/-- A record without a claim takes one from a started move: the move's count rises (R57, R59). -/
theorem law_of_take {r : Chan ⊕ Grp} {k : Slot} (claims : slotAt t = Function.update (slotAt s) r (some k))
    (unclaimed : slotAt s r = none) (alive : Live s k)
    (moves : ∀ j : Slot, t.moves[j] =
      if k = j then s.moves[j].map (fun mv => { mv with claims := mv.claims + 1 }) else s.moves[j])
    (h : ClaimLaw s) : ClaimLaw t := by
  rw [claimLaw_iff] at h ⊢
  obtain ⟨live, count⟩ := h
  constructor
  · intro x j hx
    have old : Live s j := by
      rw [claims, Function.update_apply] at hx
      split at hx
      · cases hx
        exact alive
      · exact live x j hx
    obtain ⟨mv, occupied, started, fades⟩ := old
    unfold Live
    rw [moves, occupied]
    split
    · exact ⟨_, rfl, started, fades⟩
    · exact ⟨mv, rfl, started, fades⟩
  · intro j mv hj
    have change := named_update claims j
    rw [unclaimed] at change
    rw [moves] at hj
    split at hj
    · rename_i e
      obtain ⟨old, occupied, rfl⟩ := Option.map_eq_some_iff.mp hj
      have := count j old occupied
      simp only [e, if_true, reduceCtorEq, if_false] at change
      simp only
      omega
    · rename_i e
      have := count j mv hj
      simp only [Option.some.injEq, e, reduceCtorEq, if_false] at change
      omega

/-- A slot is emptied and no claim names it (R64, R69, R71). -/
theorem law_of_clear {k : Slot} (claims : ∀ r, slotAt t r = if slotAt s r = some k then none else slotAt s r)
    (moves : ∀ j : Slot, t.moves[j] = if k = j then none else s.moves[j]) (h : ClaimLaw s) : ClaimLaw t := by
  rw [claimLaw_iff] at h ⊢
  obtain ⟨live, count⟩ := h
  have other {j : Slot} (ne : k ≠ j) (r : Chan ⊕ Grp) : slotAt t r = some j ↔ slotAt s r = some j := by
    rw [claims]
    split
    · rename_i e
      simp [e, ne]
    · rfl
  constructor
  · intro r j hr
    have ne : k ≠ j := by
      rintro rfl
      rw [claims] at hr
      split at hr
      · cases hr
      · contradiction
    obtain ⟨mv, occupied, rest⟩ := live r j ((other ne r).mp hr)
    exact ⟨mv, by rw [moves, if_neg ne]; exact occupied, rest⟩
  · intro j mv hj
    rw [moves] at hj
    split at hj
    · cases hj
    · rename_i ne
      rw [count j mv hj]
      unfold named
      simp only [other ne]

/-- A slot that no claim names takes a move that counts none. -/
theorem law_of_place {k : Slot} {mv : Move} (claims : slotAt t = slotAt s) (free : s.moves[k] = none)
    (none : mv.claims = 0) (moves : ∀ j : Slot, t.moves[j] = if k = j then some mv else s.moves[j])
    (h : ClaimLaw s) : ClaimLaw t := by
  rw [claimLaw_iff] at h ⊢
  obtain ⟨live, count⟩ := h
  constructor
  · intro r j hr
    rw [claims] at hr
    obtain ⟨old, occupied, rest⟩ := live r j hr
    have ne : k ≠ j := by
      rintro rfl
      rw [free] at occupied
      cases occupied
    exact ⟨old, by rw [moves, if_neg ne]; exact occupied, rest⟩
  · intro j old hj
    have same : named t j = named s j := by unfold named; rw [claims]
    rw [moves] at hj
    split at hj
    · rename_i e
      subst e
      cases hj
      rw [none, same, eq_comm, named_eq_zero]
      intro r hr
      obtain ⟨_, occupied, -⟩ := live r k hr
      rw [free] at occupied
      cases occupied
    · rw [same]
      exact count j old hj

/-- A move that has not retired runs on (R56, R64). -/
theorem law_setSlot {k : Slot} {mv old : Move} (occupied : s.moves[k] = some old)
    (same : mv.claims = old.claims) (runs : Live s k → mv.phase ≠ .delayed ∧ mv.kind.isInstant = false)
    (h : ClaimLaw s) : ClaimLaw (setSlot k (some mv) s) := by
  rw [claimLaw_iff] at h ⊢
  obtain ⟨live, count⟩ := h
  constructor
  · intro r j hr
    have alive := live r j hr
    unfold Live
    rw [getSlot_setSlot]
    split
    · rename_i e
      subst e
      exact ⟨mv, rfl, runs alive⟩
    · exact alive
  · intro j new hj
    rw [getSlot_setSlot] at hj
    split at hj
    · rename_i e
      subst e
      cases hj
      exact same.trans (count k old occupied)
    · exact count j new hj

end

/-! ## What the operations do to claims -/

theorem slotAt_updChan (c : Chan) (f : Channel → Channel) (s : State) :
    slotAt (updChan c f s) = Function.update (slotAt s) (.inl c) ((f s.chans[c]).claim.map (·.slot)) := by
  funext r
  rw [Function.update_apply]
  rcases r with d | g
  · unfold slotAt
    simp only [getChan_updChan, Sum.inl.injEq]
    by_cases e : c = d
    · subst e
      simp
    · simp [e, Ne.symm e]
  · rw [if_neg (by simp)]
    rfl

theorem slotAt_updGroup (g : Grp) (f : Group → Group) (s : State) :
    slotAt (updGroup g f s) = Function.update (slotAt s) (.inr g) ((f s.groups[g]).claim.map (·.slot)) := by
  funext r
  rw [Function.update_apply]
  rcases r with c | h
  · rw [if_neg (by simp)]
    rfl
  · unfold slotAt
    simp only [getGroup_updGroup, Sum.inr.injEq]
    by_cases e : g = h
    · subst e
      simp
    · simp [e, Ne.symm e]

theorem slotAt_updMove (k : Slot) (f : Move → Move) (s : State) : slotAt (updMove k f s) = slotAt s := by
  unfold updMove
  split <;> rfl

theorem updChan_same {f : Channel → Channel} (keeps : ∀ ch, (f ch).claim = ch.claim) (c : Chan) (s : State) :
    SameClaims s (updChan c f s) :=
  ⟨by rw [slotAt_updChan, keeps]; exact Function.update_eq_self (.inl c) (slotAt s), rfl⟩

theorem updChans_same {f : Channel → Channel} (keeps : ∀ ch, (f ch).claim = ch.claim) (cs : List Chan) (s : State) :
    SameClaims s (updChans cs f s) :=
  SameClaims.foldl _ (fun s c => updChan_same keeps c s) cs s

theorem updGroup_same {f : Group → Group} (keeps : ∀ gr, (f gr).claim = gr.claim) (g : Grp) (s : State) :
    SameClaims s (updGroup g f s) :=
  ⟨by rw [slotAt_updGroup, keeps]; exact Function.update_eq_self (.inr g) (slotAt s), rfl⟩

theorem mapChans_same {f : Chan → Channel → Channel}
    (keeps : ∀ c ch, (f c ch).claim.map (·.slot) = ch.claim.map (·.slot)) (s : State) :
    SameClaims s (mapChans f s) := by
  refine ⟨funext fun r => ?_, by simp⟩
  rcases r with c | g
  · unfold slotAt
    simp only [getChan_mapChans, keeps]
  · unfold slotAt
    simp only [mapChans_groups]

theorem mapGroups_same {f : Grp → Group → Group}
    (keeps : ∀ g gr, (f g gr).claim.map (·.slot) = gr.claim.map (·.slot)) (s : State) :
    SameClaims s (mapGroups f s) := by
  refine ⟨funext fun r => ?_, by simp⟩
  rcases r with c | g
  · unfold slotAt
    simp only [mapGroups_chans]
  · unfold slotAt
    simp only [getGroup_mapGroups, keeps]

theorem resnap_same (before after : State) : SameClaims after (resnap before after) :=
  mapChans_same (fun c ch => by split <;> rfl) after

theorem setOwnership_same (c : Chan) (o : Ownership) (s : State) : SameClaims s (setOwnership c o s) :=
  updChans_same (by intro _; rfl) _ s

theorem setOwnMute_same (c : Chan) (on : Bool) (s : State) : SameClaims s (setOwnMute c on s) :=
  (updChans_same (by intro _; rfl) _ s).trans (resnap_same _ _)

theorem setGroupMute_same (g : Grp) (on : Bool) (s : State) : SameClaims s (setGroupMute g on s) :=
  (updGroup_same (by intro _; rfl) g s).trans (resnap_same _ _)

theorem reportRetirement_same (firing r : Nat) (s : State) : SameClaims s (reportRetirement firing r s) := by
  rw [LevelRange.reportRetirement_play]
  exact ⟨rfl, rfl⟩

theorem recordBalance_same (c : Chan) (s : State) : SameClaims s (recordBalance c s) := by
  unfold recordBalance
  split
  · exact updChans_same (by intro _; rfl) _ s
  · exact .refl s

theorem writeFader_same (c : Chan) (f : Int) (s : State) : SameClaims s (writeFader c f s) := by
  unfold writeFader
  split
  · dsimp only
    split <;> exact (updChan_same (by intro _; rfl) _ s).trans (updChan_same (by intro _; rfl) _ _)
  · exact updChan_same (by intro _; rfl) c s

/-! ### The release of claims (R48) -/

/-- What the release of one record's claim does: the record names no slot, and its move's count falls. -/
theorem unclaimChan_claims (c : Chan) (s : State) :
    slotAt (unclaimChan c s) = Function.update (slotAt s) (.inl c) none ∧
      ∀ j : Slot, (unclaimChan c s).moves[j] =
        if slotAt s (.inl c) = some j then s.moves[j].map (fun mv => { mv with claims := mv.claims - 1 })
        else s.moves[j] := by
  unfold unclaimChan
  split
  · rename_i unclaimed
    have named : slotAt s (.inl c) = none := by rw [slotAt_chan, unclaimed]; rfl
    rw [named]
    exact ⟨by rw [← named, Function.update_eq_self], fun j => by simp⟩
  · rename_i cl claimed
    have named : slotAt s (.inl c) = some cl.slot := by rw [slotAt_chan, claimed]; rfl
    refine ⟨?_, fun j => ?_⟩
    · unfold dropClaim
      rw [slotAt_updMove, slotAt_updChan]
      rfl
    · unfold dropClaim
      rw [getSlot_updMove, named]
      simp only [Option.some.injEq]
      rfl

theorem unclaimGroup_claims (g : Grp) (s : State) :
    slotAt (unclaimGroup g s) = Function.update (slotAt s) (.inr g) none ∧
      ∀ j : Slot, (unclaimGroup g s).moves[j] =
        if slotAt s (.inr g) = some j then s.moves[j].map (fun mv => { mv with claims := mv.claims - 1 })
        else s.moves[j] := by
  unfold unclaimGroup
  split
  · rename_i unclaimed
    have named : slotAt s (.inr g) = none := by rw [slotAt_group, unclaimed]; rfl
    rw [named]
    exact ⟨by rw [← named, Function.update_eq_self], fun j => by simp⟩
  · rename_i cl claimed
    have named : slotAt s (.inr g) = some cl.slot := by rw [slotAt_group, claimed]; rfl
    refine ⟨?_, fun j => ?_⟩
    · unfold dropClaim
      rw [slotAt_updMove, slotAt_updGroup]
      rfl
    · unfold dropClaim
      rw [getSlot_updMove, named]
      simp only [Option.some.injEq]
      rfl

/-- The release of a claim, of a record that may have none. -/
theorem law_of_unclaim {s t : State} {r : Chan ⊕ Grp} (claims : slotAt t = Function.update (slotAt s) r none)
    (moves : ∀ j : Slot, t.moves[j] =
      if slotAt s r = some j then s.moves[j].map (fun mv => { mv with claims := mv.claims - 1 }) else s.moves[j])
    (h : ClaimLaw s) : ClaimLaw t := by
  cases claimed : slotAt s r with
  | none =>
    refine law_of_same ⟨?_, ?_⟩ h
    · rw [claims, ← claimed, Function.update_eq_self]
    · refine Vector.ext fun j hj => (moves ⟨j, hj⟩).trans ?_
      rw [claimed]
      rfl
  | some k =>
    refine law_of_release claims claimed (fun j => ?_) h
    rw [moves, claimed]
    simp only [Option.some.injEq]

theorem law_unclaimChan {s : State} (c : Chan) (h : ClaimLaw s) : ClaimLaw (unclaimChan c s) :=
  law_of_unclaim (unclaimChan_claims c s).1 (unclaimChan_claims c s).2 h

theorem law_unclaimGroup {s : State} (g : Grp) (h : ClaimLaw s) : ClaimLaw (unclaimGroup g s) :=
  law_of_unclaim (unclaimGroup_claims g s).1 (unclaimGroup_claims g s).2 h

/-- The release of a claim keeps a started move started. -/
theorem live_of_unclaim {s t : State} {k : Slot} {r : Chan ⊕ Grp}
    (moves : ∀ j : Slot, t.moves[j] =
      if slotAt s r = some j then s.moves[j].map (fun mv => { mv with claims := mv.claims - 1 }) else s.moves[j])
    (alive : Live s k) : Live t k := by
  obtain ⟨mv, occupied, started, fades⟩ := alive
  unfold Live
  rw [moves, occupied]
  split
  · exact ⟨_, rfl, started, fades⟩
  · exact ⟨mv, rfl, started, fades⟩

/-! ### The start of a move (R57, R59) -/

theorem takeClaim_claims (k : Slot) (c : Chan) (a b : Int) (s : State) :
    slotAt (takeClaim k c a b s) = Function.update (slotAt s) (.inl c) (some k) := by
  unfold takeClaim
  rw [slotAt_updMove, slotAt_updChan]
  rfl

/-- The law, with a started move in slot k. -/
def Starting (k : Slot) (s : State) : Prop := ClaimLaw s ∧ Live s k

theorem starting_of_same {k : Slot} {s t : State} (same : SameClaims s t) (h : Starting k s) : Starting k t := by
  refine ⟨law_of_same same h.1, ?_⟩
  obtain ⟨mv, occupied, rest⟩ := h.2
  exact ⟨mv, by rw [same.moves]; exact occupied, rest⟩

theorem starting_updMove {k : Slot} {s t : State} {r : Chan ⊕ Grp}
    (claims : slotAt t = Function.update (slotAt s) r (some k)) (unclaimed : slotAt s r = none)
    (moves : ∀ j : Slot, t.moves[j] =
      if k = j then s.moves[j].map (fun mv => { mv with claims := mv.claims + 1 }) else s.moves[j])
    (h : Starting k s) : Starting k t := by
  refine ⟨law_of_take claims unclaimed h.2 moves h.1, ?_⟩
  obtain ⟨mv, occupied, rest⟩ := h.2
  exact ⟨{ mv with claims := mv.claims + 1 }, by rw [moves, if_pos rfl, occupied]; rfl, rest⟩

theorem starting_startLane {k : Slot} {s : State} (mv : Move) (c : Chan) (recorded : Option Int)
    (h : Starting k s) : Starting k (startLane k mv c recorded s) := by
  unfold startLane
  split
  · exact h
  · dsimp only
    split
    · exact starting_of_same (updChan_same (by intro _; rfl) c s) h
    · obtain ⟨claims, moves⟩ := unclaimChan_claims c s
      refine starting_updMove (takeClaim_claims _ _ _ _ _) ?_ (fun j => getSlot_updMove k j _ _)
        ⟨law_unclaimChan c h.1, live_of_unclaim moves h.2⟩
      rw [claims, Function.update_self]

theorem starting_startGroup {k : Slot} {s : State} (mv : Move) (g : Grp) (recorded : Option Int)
    (h : Starting k s) : Starting k (startGroup k mv g recorded s) := by
  obtain ⟨claims, moves⟩ := unclaimGroup_claims g s
  refine starting_updMove (s := unclaimGroup g s) (r := .inr g) ?_ ?_ (fun j => getSlot_updMove k j _ _)
    ⟨law_unclaimGroup g h.1, live_of_unclaim moves h.2⟩
  · unfold startGroup
    dsimp only
    rw [slotAt_updMove, slotAt_updGroup]
    rfl
  · rw [claims, Function.update_self]

theorem starting_startPending {k : Slot} {s : State} (mv : Move) (h : Starting k s) :
    Starting k (startPending k mv s) := by
  unfold startPending
  split
  · exact foldl_keeps _ (fun _ c ht => starting_startLane mv c none ht) _ h
  · exact foldl_keeps _ (fun _ (l : Chan × Int) ht => starting_startLane mv l.1 (some l.2) ht) _ h
  · exact starting_startGroup mv _ _ h
  · exact starting_startGroup mv _ _ h

theorem law_startPending {k : Slot} {s : State} (mv : Move) (h : ClaimLaw s) (alive : Live s k) :
    ClaimLaw (startPending k mv s) :=
  (starting_startPending mv ⟨h, alive⟩).1

theorem law_started {k : Slot} {mv : Move} {s : State} (start : Nat) (occupied : s.moves[k] = some mv)
    (fades : mv.kind.isInstant = false) (h : ClaimLaw s) : ClaimLaw (started k mv start s) :=
  law_startPending mv (law_setSlot occupied (by rfl) (fun _ => ⟨by simp, fades⟩) h)
    ⟨_, (getSlot_setSlot k k _ s).trans (if_pos rfl), by simp, fades⟩

/-- Turning round leaves every claim with its move (R64). -/
theorem law_turnRound {k : Slot} {mv : Move} {s : State} (start : Nat) (occupied : s.moves[k] = some mv)
    (h : ClaimLaw s) : ClaimLaw (turnRound k mv start s) := by
  have swap (cl : Option Claim) : (if claimIs k cl then
      cl.map fun cl => { cl with start := cl.target, target := cl.start } else cl).map (·.slot) = cl.map (·.slot) := by
    split
    · cases cl <;> rfl
    · rfl
  have runs : Live s k → mv.kind.isInstant = false := by
    rintro ⟨old, same, -, fades⟩
    rw [occupied] at same
    cases same
    exact fades
  exact law_of_same (mapGroups_same (fun _ gr => swap gr.claim) _)
    (law_of_same (mapChans_same (fun _ ch => swap ch.claim) _)
      (law_setSlot occupied (by rfl) (fun alive => ⟨by simp, runs alive⟩) h))

/-! ### The end of a move (R64, R69) -/

/-- The claims that name a slot are removed, and the slot is emptied. -/
theorem law_remove {k : Slot} {s t : State}
    (chans : ∀ c : Chan, t.chans[c].claim = if claimIs k s.chans[c].claim then none else s.chans[c].claim)
    (groups : ∀ g : Grp, t.groups[g].claim = if claimIs k s.groups[g].claim then none else s.groups[g].claim)
    (moves : t.moves = s.moves) (h : ClaimLaw s) : ClaimLaw (setSlot k none t) := by
  have removed (cl : Option Claim) : (if claimIs k cl then none else cl).map (·.slot) =
      if cl.map (·.slot) = some k then none else cl.map (·.slot) := by
    simp only [claimIs_iff]
    split <;> rfl
  refine law_of_clear (k := k) (fun r => ?_) (fun j => ?_) h
  · rcases r with c | g
    · show t.chans[c].claim.map (·.slot) = _
      rw [chans, removed]
      rfl
    · show t.groups[g].claim.map (·.slot) = _
      rw [groups, removed]
      rfl
  · rw [getSlot_setSlot, moves]

theorem law_freeze {s : State} (k : Slot) (h : ClaimLaw s) : ClaimLaw (setSlot k none (freezeClaims k s)) := by
  refine law_remove (fun c => ?_) (fun g => ?_) (freezeClaims_moves k s) h
  · unfold freezeClaims
    simp only [mapGroups_chans, getChan_mapChans]
    split <;> rfl
  · unfold freezeClaims
    simp only [mapChans_groups, getGroup_mapGroups]
    split <;> rfl

theorem completeClaims_chan (k : Slot) (s : State) (c : Chan) : (completeClaims k s).chans[c].claim =
    if claimIs k s.chans[c].claim then none else s.chans[c].claim := by
  unfold completeClaims
  simp only [mapGroups_chans, getChan_mapChans]
  cases claimed : s.chans[c].claim with
  | none => simp only [claimed, ite_self]
  | some cl =>
    simp only [claimIs, beq_iff_eq]
    split
    · rfl
    · exact claimed

theorem completeClaims_group (k : Slot) (s : State) (g : Grp) : (completeClaims k s).groups[g].claim =
    if claimIs k s.groups[g].claim then none else s.groups[g].claim := by
  unfold completeClaims
  simp only [mapChans_groups, getGroup_mapGroups]
  cases claimed : s.groups[g].claim with
  | none => simp only [claimed, ite_self]
  | some cl =>
    simp only [claimIs, beq_iff_eq]
    split
    · rfl
    · exact claimed

theorem law_complete {s : State} (k : Slot) (h : ClaimLaw s) : ClaimLaw (setSlot k none (completeClaims k s)) :=
  law_remove (completeClaims_chan k s) (completeClaims_group k s) (completeClaims_moves k s) h

/-- A slot whose move counts no claim is emptied. -/
theorem law_free {s : State} {k : Slot} (unnamed : ∀ r, slotAt s r ≠ some k) (h : ClaimLaw s) :
    ClaimLaw (setSlot k none s) :=
  law_of_clear (fun r => (if_neg (unnamed r)).symm) (fun j => getSlot_setSlot k j none s) h

theorem unnamed_of_emptied {s : State} {k : Slot} (emptied : isEmptied k s = true) (h : ClaimLaw s) :
    ∀ r, slotAt s r ≠ some k := by
  unfold isEmptied at emptied
  split at emptied
  · rename_i mv occupied
    rw [← named_eq_zero, ← ((claimLaw_iff s).mp h).2 k mv occupied]
    simpa using emptied
  · cases emptied

/-- No claim names a move that has not started (R47). -/
theorem unnamed_of_delayed {s : State} {k : Slot} {mv : Move} (occupied : s.moves[k] = some mv)
    (delayed : mv.phase = .delayed) (h : ClaimLaw s) : ∀ r, slotAt s r ≠ some k := by
  intro r hr
  obtain ⟨old, same, started, -⟩ := ((claimLaw_iff s).mp h).1 r k hr
  rw [occupied] at same
  cases same
  exact started delayed

/-! ## An instant kind leaves its own slot alone (R58) -/

/-- A slot holds a move, and no claim names it. -/
structure Apart (k : Slot) (mv : Move) (s : State) : Prop where
  occupied : s.moves[k] = some mv
  unnamed : ∀ r, slotAt s r ≠ some k

section

variable {k : Slot} {mv : Move}

theorem apart_of_same {s t : State} (same : SameClaims s t) (h : Apart k mv s) : Apart k mv t :=
  ⟨by rw [same.moves]; exact h.occupied, by rw [same.claims]; exact h.unnamed⟩

/-- The claims may lose a name and the other slots may change. -/
theorem apart_of_moves {s t : State} (moves : t.moves[k] = s.moves[k]) (claims : ∀ r, slotAt t r = some k → slotAt s r = some k)
    (h : Apart k mv s) : Apart k mv t :=
  ⟨moves.trans h.occupied, fun r hr => h.unnamed r (claims r hr)⟩

theorem apart_of_unclaim {s t : State} {r : Chan ⊕ Grp} (claims : slotAt t = Function.update (slotAt s) r none)
    (moves : ∀ j : Slot, t.moves[j] =
      if slotAt s r = some j then s.moves[j].map (fun mv => { mv with claims := mv.claims - 1 }) else s.moves[j])
    (h : Apart k mv s) : Apart k mv t := by
  refine apart_of_moves ((moves k).trans (if_neg (h.unnamed r))) (fun x hx => ?_) h
  rw [claims, Function.update_apply] at hx
  split at hx
  · cases hx
  · exact hx

theorem apart_unclaimChan {s : State} (c : Chan) (h : Apart k mv s) : Apart k mv (unclaimChan c s) :=
  apart_of_unclaim (unclaimChan_claims c s).1 (unclaimChan_claims c s).2 h

theorem apart_setSlot {s : State} {j : Slot} (other : j ≠ k) (new : Option Move) (h : Apart k mv s) :
    Apart k mv (setSlot j new s) :=
  apart_of_moves ((getSlot_setSlot j k new s).trans (if_neg other)) (fun _ hr => hr) h

theorem apart_retire {s : State} {j : Slot} (other : j ≠ k) (reason : Reason) (r : Nat) (h : Apart k mv s) :
    Apart k mv (retire j reason r s) := by
  have emptied (n : Notice) : Apart k mv (setSlot j none (queueNotice n s)) :=
    apart_setSlot other none (apart_of_same (s := s) ⟨rfl, rfl⟩ h)
  unfold retire
  split
  · exact h
  · dsimp only
    split
    · exact ite_keeps (apart_of_same (reportRetirement_same _ _ _) (emptied _)) (emptied _)
    · exact emptied _

theorem apart_take {s t : State} {j : Slot} {r : Chan ⊕ Grp} (other : j ≠ k)
    (claims : slotAt t = Function.update (slotAt s) r (some j))
    (moves : t.moves[k] = if j = k then s.moves[k].map (fun mv => { mv with claims := mv.claims + 1 }) else s.moves[k])
    (h : Apart k mv s) : Apart k mv t := by
  refine apart_of_moves (moves.trans (if_neg other)) (fun x hx => ?_) h
  rw [claims, Function.update_apply] at hx
  split at hx
  · exact absurd (Option.some.inj hx) other
  · exact hx

theorem apart_startLane {s : State} {j : Slot} (other : j ≠ k) (m : Move) (c : Chan) (recorded : Option Int)
    (h : Apart k mv s) : Apart k mv (startLane j m c recorded s) := by
  unfold startLane
  split
  · exact h
  · dsimp only
    split
    · exact apart_of_same (updChan_same (by intro _; rfl) c s) h
    · exact apart_take other (takeClaim_claims _ _ _ _ _) (getSlot_updMove j k _ _) (apart_unclaimChan c h)

/-- The lanes of a rejoin glide are recorded ones (R150): the start of such a move leaves any other slot alone. -/
theorem apart_startLanes {s : State} {j : Slot} {m : Move} {ls : List (Chan × Int)} (other : j ≠ k)
    (lanes : m.pending = .lanes ls) (h : Apart k mv s) : Apart k mv (startPending j m s) := by
  unfold startPending
  rw [lanes]
  exact foldl_keeps _ (fun _ (l : Chan × Int) ht => apart_startLane other m l.1 (some l.2) ht) ls h

theorem apart_completeMove {s : State} {j : Slot} (other : j ≠ k) (h : Apart k mv s) :
    Apart k mv (completeMove j s) := by
  unfold completeMove
  split
  · exact h
  · refine apart_retire other _ _ (apart_of_moves (by simp only [completeClaims_moves]) (fun r hr => ?_) h)
    rcases r with c | g
    · rw [slotAt_chan, completeClaims_chan] at hr
      split at hr
      · cases hr
      · exact hr
    · rw [slotAt_group, completeClaims_group] at hr
      split at hr
      · cases hr
      · exact hr

theorem apart_finishStart {s : State} {j : Slot} (other : j ≠ k) (h : Apart k mv s) : Apart k mv (finishStart j s) := by
  unfold finishStart
  split
  · exact h
  · exact ite_keeps (apart_retire other _ _ h) (ite_keeps (apart_completeMove other h) h)

theorem apart_sweepStart {s : State} {j : Slot} {stolen : List Slot} (other : j ≠ k) (notStolen : k ∉ stolen)
    (h : Apart k mv s) : Apart k mv (sweepStart j stolen s) := by
  refine foldl_keeps _ (fun t i ht => ?_) _ h
  split
  · exact apart_finishStart other ht
  · split
    · rename_i steals
      exact apart_retire (fun e : i = k => notStolen (e ▸ steals.1)) _ _ ht
    · exact ht

/-- The creation of a rejoin glide leaves the slot alone (R150). -/
theorem apart_createRecorded {s : State} {m : Move} {ls : List (Chan × Int)} (lanes : m.pending = .lanes ls)
    (h : Apart k mv s) : Apart k mv (createRecorded m s).1 := by
  unfold createRecorded
  split
  · exact h
  · rename_i j free
    have other : j ≠ k := by
      rintro rfl
      have := freeSlot_none free
      rw [h.occupied] at this
      cases this
    have placed : Apart k mv (placeMove j m (nowIn m.timeBase s) s) :=
      apart_of_moves ((placeMove_moves j k m _ s).trans (if_neg other)) (fun _ hr => hr) h
    show Apart k mv (startFading j _ (placeMove j m (nowIn m.timeBase s) s))
    unfold startFading
    split
    · exact placed
    · rename_i m' holds
      rw [placeMove_moves, if_pos rfl] at holds
      cases holds
      refine apart_sweepStart other ?_ (apart_startLanes other lanes (apart_setSlot other _ placed))
      intro stolen
      unfold pendingClaimants at stolen
      simp only [lanes] at stolen
      obtain ⟨c, -, claimed⟩ := List.mem_filterMap.mp stolen
      exact placed.unnamed (.inl c) claimed

theorem apart_askGlide {s : State} (c : Chan) (h : Apart k mv s) : Apart k mv (askGlide c s).1 := by
  unfold askGlide
  split
  · exact h
  · have made := apart_createRecorded (m := glideMove s c) rfl h
    split
    · rename_i t eq
      rw [eq] at made
      exact apart_of_same (s := t) ⟨rfl, rfl⟩ made
    · rename_i eq
      rw [eq] at made
      exact made

theorem apart_handBack {s : State} (c : Chan) (cause : TakeoverCause) (h : Apart k mv s) :
    Apart k mv (handBack c cause s) := by
  have back (n : Notice) : Apart k mv (queueNotice n (setOwnership c .auto s)) :=
    apart_of_same (s := setOwnership c .auto s) ⟨rfl, rfl⟩ (apart_of_same (setOwnership_same c .auto s) h)
  unfold handBack handBackGlide
  dsimp only
  split
  · exact back _
  · exact apart_askGlide c (back _)

theorem apart_actInstant {s : State} (m : Move) (h : Apart k mv s) : Apart k mv (actInstant m s) := by
  have group (on : Bool) : Apart k mv (actGroup m on s) := by
    unfold actGroup
    split
    · exact apart_of_same (setGroupMute_same _ _ s) h
    · exact h
  unfold actInstant
  split
  · exact foldl_keeps _ (fun t c ht => apart_of_same (setOwnMute_same c true t) ht) _ h
  · exact foldl_keeps _ (fun t c ht => apart_of_same (setOwnMute_same c false t) ht) _ h
  · exact group true
  · exact group false
  · exact foldl_keeps _ (fun t c ht => ite_keeps (apart_handBack c _ ht) ht) _ h
  · exact h
  · exact h

end

/-! ## Every operation keeps the law -/

theorem claims_claims : Claims ClaimLaw where
  link _ _ := law_of_same ⟨rfl, rfl⟩
  report s firing r := law_of_same (reportRetirement_same firing r s)
  unclaimChan _ c := law_unclaimChan c
  unclaimGroup _ g := law_unclaimGroup g
  free _ _ emptied h := law_free (unnamed_of_emptied emptied h) h

theorem claims_core : Core (fun _ => True) ClaimLaw where
  toClaims := claims_claims
  surf _ _ := law_of_same ⟨rfl, rfl⟩
  ownMute s c on := law_of_same (setOwnMute_same c on s)
  groupMute s g on := law_of_same (setGroupMute_same g on s)
  cancel _ k := law_freeze k
  complete _ k := law_complete k
  place s k mv created free _ := law_of_place rfl free rfl fun j => placeMove_moves k j mv created s
  start _ _ _ start occupied fades := law_started start occupied fades
  turn _ _ _ start occupied _ := law_turnRound start occupied
  auto s c := law_of_same (setOwnership_same c .auto s)
  latch s c _ := law_of_same (setOwnership_same c .latched s)
  touch s c cause h :=
    law_of_same (recordBalance_same _ _)
      (claims_claims.removeClaims _ (claims_claims.queueNotice _ (law_of_same (setOwnership_same c .touched s) h)))
  pickup s _ _ _ := law_of_same (updChans_same (by intro _; rfl) _ s)
  side s _ _ _ := law_of_same (updChans_same (by intro _; rfl) _ s)
  fader _ t c _ _ := law_of_same (writeFader_same c _ t)
  glide _ _ _ := trivial
  act s k mv occupied delayed _ h acted :=
    law_free (apart_actInstant mv ⟨occupied, unnamed_of_delayed occupied delayed h⟩).unnamed acted

theorem claims_play : Play (fun _ => True) ClaimLaw where
  toCore := claims_core
  choice _ _ := law_of_same ⟨rfl, rfl⟩
  clock _ _ _ _ := law_of_same ⟨rfl, rfl⟩
  timers _ _ _ _ _ := law_of_same ⟨rfl, rfl⟩
  push _ _ _ := law_of_same ⟨rfl, rfl⟩
  pop _ _ _ _ := law_of_same ⟨rfl, rfl⟩
  advance _ _ := law_of_same ⟨rfl, rfl⟩
  back _ _ := law_of_same ⟨rfl, rfl⟩
  stored _ _ _ _ _ _ _ _ := trivial
  recorded _ _ _ _ := ⟨fun _ _ _ _ => trivial, fun _ _ _ _ => trivial⟩

theorem claims_records : Records (fun _ => True) ClaimLaw where
  toCore := claims_core
  settle _ h := claims_play.settle h
  count := claims_play.choice
  lanes _ _ := law_of_same ⟨rfl, rfl⟩
  attributes s c a h := claims_claims.removeClaims _
    (law_of_same (resnap_same _ _) (law_of_same (updChans_same (by intro _; rfl) _ s) h))
  level s c level h := law_of_same (updChans_same (by intro _; rfl) _ _) (claims_claims.removeClaims _ h)
  trim s c _ := law_of_same (updChan_same (by intro _; rfl) c s)
  linkPair s k _ _ h := by
    unfold linkPair
    split
    · exact h
    · refine law_of_same (s := removeClaims _ _) ⟨rfl, rfl⟩ (claims_claims.removeClaims _ ?_)
      exact law_of_same (resnap_same _ _) (law_of_same (updChan_same (by intro _; rfl) _ s) h)
  unlink _ _ := law_of_same ⟨rfl, rfl⟩
  offset _ g _ h := law_of_same (updGroup_same (by intro _; rfl) g _) (claims_claims.removeGroupClaim g h)
  members s _ _ _ h := law_of_same (resnap_same _ _) (law_of_same (updChans_same (by intro _; rfl) _ s) h)
  sets _ _ := law_of_same ⟨rfl, rfl⟩
  table s t levels _ _ := by
    obtain ⟨-, -, -, moves, chans, groups, -⟩ := setTable_rest t (tableFrom levels) s
    exact law_of_same ⟨by unfold slotAt; rw [chans, groups], moves⟩
  writeCue _ _ _ := law_of_same ⟨rfl, rfl⟩
  deleteCue _ _ := law_of_same ⟨rfl, rfl⟩
  clearCues _ := law_of_same ⟨rfl, rfl⟩
  jump _ _ _ := law_of_same ⟨rfl, rfl⟩
  backTime _ _ := law_of_same ⟨rfl, rfl⟩

/-- With no claim and no move the law holds. -/
theorem law_of_none {s : State} (claims : ∀ r, slotAt s r = none) (moves : ∀ k : Slot, s.moves[k] = none) :
    ClaimLaw s := by
  rw [claimLaw_iff]
  refine ⟨fun r k hr => ?_, fun k mv hk => ?_⟩
  · rw [claims] at hr
    cases hr
  · rw [moves] at hk
    cases hk

theorem law_softReset (s : State) : ClaimLaw (softReset s) := by
  unfold softReset
  refine law_of_none (fun r => ?_) (fun k => by simp)
  rcases r with c | g
  · simp [slotAt_chan, Channel.softReset]
  · simp [slotAt_group, Group.softReset]

theorem law_powerOn (stop : StopUnit) (lanes : Lanes) (link : Link) (pending : List Instr) (n : Nat) :
    ClaimLaw { State.reset with stop := stop, lanes := lanes, link := link, pending := pending, freeCount := n } := by
  refine law_of_none (fun r => ?_) (fun k => by simp [State.reset])
  rcases r with c | g
  · simp [slotAt_chan, State.reset]
  · simp [slotAt_group, State.reset]

theorem claims_whole : Whole (fun _ => True) ClaimLaw where
  toPlay := claims_play
  __ := claims_records
  ramps s := law_of_same (mapChans_same (by intro _ _; rfl) s)
  live _ _ _ := trivial
  stop s f h := law_of_same (resnap_same _ _) (law_of_same (s := s) ⟨rfl, rfl⟩ h)
  line _ _ := law_of_same ⟨rfl, rfl⟩
  locate _ _ _ := law_of_same ⟨rfl, rfl⟩
  softReset s _ := law_softReset s
  powerOn _ _ _ _ _ _ _ := law_powerOn _ _ _ _ _

/-- Settles O56: every operation keeps the law of claims. -/
theorem claimsStayCounted : Obligations.ClaimsStayCounted := fun _ _ h next =>
  claims_whole.kept.step (fun _ _ => law_of_same ⟨rfl, rfl⟩) next h

end Sys2Proof.ClaimCount
end

section
/-! O57: the laws of units. -/

namespace Sys2Proof.WholeUnits

open Sys2Proof Sys2Proof.Machine Sys2Proof.Closure

/-! ## The channels of a unit (R31) -/

theorem pairOf_even (k : PairId) : pairOf (evenOf k) = k := by
  unfold pairOf evenOf
  ext
  dsimp only
  omega

theorem pairOf_odd (k : PairId) : pairOf (oddOf k) = k := by
  unfold pairOf oddOf
  ext
  dsimp only
  omega

theorem even_ne_odd (j k : PairId) : evenOf j ≠ oddOf k := by
  intro h
  have := congrArg Fin.val h
  unfold evenOf oddOf at this
  dsimp only at this
  omega

theorem odd_inj {j k : PairId} : oddOf j = oddOf k ↔ j = k :=
  ⟨fun h => by rw [← pairOf_odd j, h, pairOf_odd], fun h => h ▸ rfl⟩

theorem unitChans_nodup (s : State) (c : Chan) : (unitChans s c).Nodup := by
  unfold unitChans
  split
  · simpa using even_ne_odd _ _
  · exact List.nodup_singleton c

/-- Both channels of a linked pair belong to a unit, or neither. -/
theorem even_mem_unit_iff {s : State} {k : PairId} (linked : s.pairLinked[k] = true) (c : Chan) :
    evenOf k ∈ unitChans s c ↔ oddOf k ∈ unitChans s c := by
  have pair {d : Chan} : d.val / 2 = c.val / 2 ↔ pairOf d = pairOf c := by
    unfold pairOf
    rw [Fin.mk.injEq]
  rw [Laws.mem_unitChans, Laws.mem_unitChans, pair, pair, pairOf_even, pairOf_odd]
  constructor
  · rintro (rfl | ⟨inLink, same⟩)
    · exact .inr (by simp only [pairOf_even]; exact ⟨linked, trivial⟩)
    · exact .inr ⟨inLink, same⟩
  · rintro (rfl | ⟨inLink, same⟩)
    · exact .inr (by simp only [pairOf_odd]; exact ⟨linked, trivial⟩)
    · exact .inr ⟨inLink, same⟩

/-- A channel of a list without repeats is written once, another not at all. -/
theorem getChan_updChans (f : Channel → Channel) (d : Chan) : ∀ {cs : List Chan} (_ : cs.Nodup) (s : State),
    (updChans cs f s).chans[d] = if d ∈ cs then f s.chans[d] else s.chans[d]
  | [], _, s => rfl
  | c :: cs, nodup, s => by
    obtain ⟨fresh, nodup⟩ := List.nodup_cons.mp nodup
    show (updChans cs f (updChan c f s)).chans[d] = _
    rw [getChan_updChans f d nodup, getChan_updChan]
    by_cases e : c = d
    · subst e
      simp [fresh]
    · simp [e, Ne.symm e]

theorem updChans_pairLinked (cs : List Chan) (f : Channel → Channel) (s : State) :
    (updChans cs f s).pairLinked = s.pairLinked :=
  List.foldlRecOn (motive := fun t : State => t.pairLinked = s.pairLinked) cs _ rfl fun _ h _ _ => h

/-! ## Changes that keep the laws -/

/-- A channel the operator holds has no claim (R138). -/
def Unclaimed (ch : Channel) : Prop := (ch.ownership = .touched ∨ ch.ownership = .latched) → ch.claim = none

/-- The shared fields and the pair links stand, and no claim is new. -/
structure SameUnits (s t : State) : Prop where
  shared : ∀ c : Chan, t.chans[c].shared = s.chans[c].shared
  links : t.pairLinked = s.pairLinked
  claims : ∀ c : Chan, s.chans[c].claim = none → t.chans[c].claim = none

namespace SameUnits

theorem refl (s : State) : SameUnits s s := ⟨fun _ => rfl, rfl, fun _ h => h⟩

theorem of_chans {s t : State} (chans : t.chans = s.chans) (links : t.pairLinked = s.pairLinked) : SameUnits s t :=
  ⟨fun _ => by rw [chans], links, fun _ h => by rw [chans]; exact h⟩

theorem trans {a b c : State} (h : SameUnits a b) (h' : SameUnits b c) : SameUnits a c :=
  ⟨fun d => (h'.shared d).trans (h.shared d), h'.links.trans h.links, fun d hd => h'.claims d (h.claims d hd)⟩

theorem foldl {α : Type} (f : State → α → State) (h : ∀ s a, SameUnits s (f s a)) :
    ∀ (l : List α) (s : State), SameUnits s (l.foldl f s)
  | [], s => .refl s
  | a :: l, s => (h s a).trans (foldl f h l (f s a))

end SameUnits

theorem ownership_of_shared {a b : Channel} (h : a.shared = b.shared) : a.ownership = b.ownership :=
  congrArg (fun x => x.1) h

theorem held_of_same {s t : State} {c : Chan} (same : SameUnits s t) (held : Held t c) : Held s c := by
  unfold Held at held ⊢
  rwa [ownership_of_shared (same.shared c)] at held

theorem law_of_same {s t : State} (same : SameUnits s t) (h : UnitLaw s) : UnitLaw t where
  pairs k linked := by
    rw [same.shared, same.shared]
    exact h.pairs k (same.links ▸ linked)
  held c held := same.claims c (h.held c (held_of_same same held))

theorem updChan_units {c : Chan} {f : Channel → Channel} (shared : ∀ ch, (f ch).shared = ch.shared)
    (claim : ∀ ch, ch.claim = none → (f ch).claim = none) (s : State) : SameUnits s (updChan c f s) := by
  refine ⟨fun d => ?_, rfl, fun d hd => ?_⟩
  · rw [getChan_updChan]
    split <;> simp [shared]
  · rw [getChan_updChan]
    split
    · exact claim _ hd
    · exact hd

theorem updChans_units {f : Channel → Channel} (shared : ∀ ch, (f ch).shared = ch.shared)
    (claim : ∀ ch, ch.claim = none → (f ch).claim = none) (cs : List Chan) (s : State) :
    SameUnits s (updChans cs f s) :=
  SameUnits.foldl _ (fun s _ => updChan_units shared claim s) cs s

theorem mapChans_units {f : Chan → Channel → Channel} (shared : ∀ c ch, (f c ch).shared = ch.shared)
    (claim : ∀ c ch, ch.claim = none → (f c ch).claim = none) (s : State) : SameUnits s (mapChans f s) :=
  ⟨fun d => by rw [getChan_mapChans, shared], by simp, fun d hd => by rw [getChan_mapChans]; exact claim _ _ hd⟩

theorem mapGroups_units (f : Grp → Group → Group) (s : State) : SameUnits s (mapGroups f s) :=
  .of_chans (by simp) (by simp)

theorem updMove_units (k : Slot) (f : Move → Move) (s : State) : SameUnits s (updMove k f s) := by
  unfold updMove
  split
  · exact .of_chans rfl rfl
  · exact .refl s

theorem resnap_units (before after : State) : SameUnits after (resnap before after) :=
  mapChans_units (fun c ch => by split <;> rfl) (fun c ch h => by split <;> exact h) after

theorem reportRetirement_units (firing r : Nat) (s : State) : SameUnits s (reportRetirement firing r s) := by
  rw [LevelRange.reportRetirement_play]
  exact .of_chans rfl rfl

theorem unclaimChan_units (c : Chan) (s : State) : SameUnits s (unclaimChan c s) := by
  unfold unclaimChan
  split
  · exact .refl s
  · exact (updChan_units (by intro _; rfl) (fun _ _ => rfl) s).trans (updMove_units _ _ _)

theorem unclaimGroup_units (g : Grp) (s : State) : SameUnits s (unclaimGroup g s) := by
  unfold unclaimGroup
  split
  · exact .refl s
  · exact (SameUnits.of_chans (s := s) (t := updGroup g _ s) rfl rfl).trans (updMove_units _ _ _)

theorem freezeClaims_units (k : Slot) (s : State) : SameUnits s (freezeClaims k s) :=
  (mapChans_units (fun c ch => by split <;> rfl) (fun c ch h => by split <;> [rfl; exact h]) s).trans (mapGroups_units _ _)

theorem completeClaims_units (k : Slot) (s : State) : SameUnits s (completeClaims k s) := by
  refine (mapChans_units (fun c ch => ?_) (fun c ch h => ?_) s).trans (mapGroups_units _ _)
  · split
    · split <;> rfl
    · rfl
  · rw [h]
    exact h

theorem writeFader_units (c : Chan) (f : Int) (s : State) : SameUnits s (writeFader c f s) := by
  have base (d : Chan) (x : Int) (t : State) : SameUnits t (updChan d (fun ch => { ch with base := x }) t) :=
    updChan_units (by intro _; rfl) (by intro _ h; exact h) t
  unfold writeFader
  split
  · dsimp only
    split <;> exact (base _ _ s).trans (base _ _ _)
  · exact base _ _ s

/-- The channels of a linked pair share their shared fields (R31). -/
def Paired (s : State) : Prop := ∀ k : PairId, s.pairLinked[k] = true → s.chans[evenOf k].shared = s.chans[oddOf k].shared

theorem paired_of_same {s t : State} (same : SameUnits s t) (h : Paired s) : Paired t := fun k linked => by
  rw [same.shared, same.shared]
  exact h k (same.links ▸ linked)

/-- The channels of a unit change alike. -/
theorem paired_updUnit {s : State} {c : Chan} {f : Channel → Channel}
    (alike : ∀ a b : Channel, a.shared = b.shared → (f a).shared = (f b).shared) (h : Paired s) :
    Paired (updChans (unitChans s c) f s) := fun k linked => by
  rw [updChans_pairLinked] at linked
  rw [getChan_updChans f _ (unitChans_nodup s c), getChan_updChans f _ (unitChans_nodup s c)]
  simp only [even_mem_unit_iff linked c]
  split
  · exact alike _ _ (h k linked)
  · exact h k linked

/-- The channels of a unit change alike, and none that is then held has a claim. -/
theorem law_updUnit {s : State} {c : Chan} {f : Channel → Channel}
    (alike : ∀ a b : Channel, a.shared = b.shared → (f a).shared = (f b).shared)
    (unclaimed : ∀ d ∈ unitChans s c, Unclaimed (f s.chans[d])) (h : UnitLaw s) :
    UnitLaw (updChans (unitChans s c) f s) where
  pairs := paired_updUnit alike h.pairs
  held d held := by
    unfold Held at held
    rw [getChan_updChans f _ (unitChans_nodup s c)] at held ⊢
    split at held
    · rename_i mem
      rw [if_pos mem]
      exact unclaimed d mem held
    · rename_i mem
      rw [if_neg mem]
      exact h.held d held

/-- A change of settings, or of ownership to AUTO or PICKUP, of the channels of a unit. -/
theorem law_updUnit_settings {s : State} {c : Chan} {f : Channel → Channel}
    (alike : ∀ a b : Channel, a.shared = b.shared → (f a).shared = (f b).shared)
    (unclaimed : ∀ ch, Unclaimed ch → Unclaimed (f ch)) (h : UnitLaw s) :
    UnitLaw (updChans (unitChans s c) f s) :=
  law_updUnit alike (fun d _ => unclaimed _ (h.held d)) h

theorem alike_of_shared {f : Channel → Channel} (g : Ownership × Bool × Nat × TaperSel × TakeoverMode × ReleasePolicy
    × Bool × Bool × BitVec 8 → Ownership × Bool × Nat × TaperSel × TakeoverMode × ReleasePolicy × Bool × Bool × BitVec 8)
    (through : ∀ ch, (f ch).shared = g ch.shared) (a b : Channel) (h : a.shared = b.shared) :
    (f a).shared = (f b).shared := by
  rw [through, through, h]

theorem law_setOwnership {s : State} (c : Chan) (o : Ownership)
    (unclaimed : ∀ d ∈ unitChans s c, (o = .touched ∨ o = .latched) → s.chans[d].claim = none) (h : UnitLaw s) :
    UnitLaw (setOwnership c o s) :=
  law_updUnit (alike_of_shared (fun x => (o, x.2)) fun _ => rfl) unclaimed h

/-- A channel is the even or the odd one of its pair. -/
theorem even_or_odd (c : Chan) : c = evenOf (pairOf c) ∨ c = oddOf (pairOf c) := by
  unfold evenOf oddOf pairOf
  simp only [Fin.ext_iff]
  omega

/-- The channels of a unit share their shared fields (R31). -/
theorem shared_of_unit {s : State} {c d : Chan} (mem : d ∈ unitChans s c) (h : UnitLaw s) :
    s.chans[d].shared = s.chans[c].shared := by
  unfold unitChans isLinked at mem
  split at mem
  · rename_i linked
    have pair := h.pairs (pairOf c) linked
    simp only [List.mem_cons, List.not_mem_nil, or_false] at mem
    have side (e : Chan) (he : e = evenOf (pairOf c) ∨ e = oddOf (pairOf c)) :
        s.chans[e].shared = s.chans[oddOf (pairOf c)].shared := by
      rcases he with rfl | rfl
      · exact pair
      · rfl
    exact (side d mem).trans (side c (even_or_odd c)).symm
  · rw [List.mem_singleton.mp mem]

theorem law_latch {s : State} (c : Chan) (touched : s.chans[c].ownership = .touched) (h : UnitLaw s) :
    UnitLaw (setOwnership c .latched s) :=
  law_setOwnership c .latched
    (fun d mem _ => h.held d (.inl ((ownership_of_shared (shared_of_unit mem h)).trans touched))) h

/-! ### Moves (R57, R138) -/

theorem law_startLane {s : State} (k : Slot) (mv : Move) (c : Chan) (recorded : Option Int) (h : UnitLaw s) :
    UnitLaw (startLane k mv c recorded s) := by
  unfold startLane
  split
  · exact h
  · dsimp only
    split
    · exact law_of_same (updChan_units (by intro _; rfl) (by intro _ h; exact h) s) h
    · rename_i free
      have released := law_of_same (unclaimChan_units c s) h
      have same := ownership_of_shared ((unclaimChan_units c s).shared c)
      refine law_of_same (updMove_units _ _ _) ⟨fun j linked => ?_, fun d held => ?_⟩
      · have shared (d : Chan) (cl : Option Claim) (x : Int) (t : State) :
            (updChan c (fun ch => { ch with claim := cl, cueLevel := x }) t).chans[d].shared = t.chans[d].shared := by
          rw [getChan_updChan]
          split <;> rfl
        rw [shared, shared]
        exact released.pairs j linked
      · unfold Held at held
        rw [getChan_updChan] at held ⊢
        by_cases e : c = d
        · subst e
          rw [if_pos rfl] at held
          exact absurd (same ▸ held) free
        · rw [if_neg e] at held ⊢
          exact released.held d held

theorem law_startPending {s : State} (k : Slot) (mv : Move) (h : UnitLaw s) : UnitLaw (startPending k mv s) := by
  have group (g : Grp) (recorded : Option Int) : UnitLaw (startGroup k mv g recorded s) :=
    law_of_same (((unclaimGroup_units g s).trans (SameUnits.of_chans (t := updGroup g _ (unclaimGroup g s)) rfl rfl)).trans
      (updMove_units _ _ _)) h
  unfold startPending
  split
  · exact foldl_keeps _ (fun _ c ht => law_startLane k mv c none ht) _ h
  · exact foldl_keeps _ (fun _ (l : Chan × Int) ht => law_startLane k mv l.1 (some l.2) ht) _ h
  · exact group _ _
  · exact group _ _

theorem turnRound_units (k : Slot) (mv : Move) (start : Nat) (s : State) : SameUnits s (turnRound k mv start s) := by
  refine ((SameUnits.of_chans (s := s) (t := setSlot k _ s) rfl rfl).trans (mapChans_units (by intro _ _; rfl) ?_ _)).trans
    (mapGroups_units _ _)
  intro _ ch none
  dsimp only
  rw [none]
  split <;> rfl

/-! ### A touch (R139, R140) -/

theorem retire_chans (k : Slot) (reason : Reason) (r : Nat) (s : State) : (retire k reason r s).chans = s.chans := by
  unfold retire
  split
  · rfl
  · dsimp only
    split
    · split
      · rw [LevelRange.reportRetirement_play]
        rfl
      · rfl
    · rfl

theorem retireEmptied_chans (ks : List Slot) (s : State) : (retireEmptied ks s).chans = s.chans :=
  List.foldlRecOn (motive := fun t : State => t.chans = s.chans) _ _ rfl fun t ht k _ => by
    split
    · exact (retire_chans _ _ _ t).trans ht
    · exact ht

/-- The channels whose claims are removed have none. -/
theorem removeClaims_claim {cs : List Chan} {c : Chan} (mem : c ∈ cs) (s : State) :
    (removeClaims cs s).chans[c].claim = none := by
  have stays : ∀ (ds : List Chan) {t : State}, t.chans[c].claim = none →
      (ds.foldl (fun s d => unclaimChan d s) t).chans[c].claim = none := fun ds _ ht =>
    foldl_keeps (P := fun t : State => t.chans[c].claim = none) _ (fun t d hd => (unclaimChan_units d t).claims c hd) ds ht
  have goes : ∀ (ds : List Chan) (t : State), c ∈ ds → (ds.foldl (fun s d => unclaimChan d s) t).chans[c].claim = none := by
    intro ds
    induction ds with
    | nil => simp
    | cons d ds ih =>
      intro t hc
      rcases List.mem_cons.mp hc with rfl | later
      · refine stays ds ?_
        have named := congrFun (ClaimCount.unclaimChan_claims c t).1 (.inl c)
        rw [Function.update_self, ClaimCount.slotAt_chan, Option.map_eq_none_iff] at named
        exact named
      · exact ih _ later
  unfold removeClaims
  rw [retireEmptied_chans]
  exact goes cs s mem

theorem removeClaims_units (cs : List Chan) (s : State) : SameUnits s (removeClaims cs s) := by
  have released := SameUnits.foldl _ (fun s c => unclaimChan_units c s) cs s
  refine released.trans (.of_chans (retireEmptied_chans _ _) ?_)
  exact (retireEmptied_show _ _).pairLinked

theorem recordBalance_units (c : Chan) (s : State) : SameUnits s (recordBalance c s) := by
  unfold recordBalance
  split
  · exact updChans_units (by intro _; rfl) (by intro _ h; exact h) _ s
  · exact .refl s

theorem setOwnership_alike (o : Ownership) (a b : Channel) (h : a.shared = b.shared) :
    ({ a with ownership := o, side := none, pickupStrip := none, balance := none } : Channel).shared =
      ({ b with ownership := o, side := none, pickupStrip := none, balance := none } : Channel).shared :=
  congrArg (fun x => (o, x.2)) h

/-- After a touch the unit is TOUCHED and its claims are gone. -/
theorem law_touch {s : State} (c : Chan) (cause : TakeoverCause) (h : UnitLaw s) : UnitLaw (takeTouched c cause s) := by
  have units : unitChans (setOwnership c .touched s) c = unitChans s c := by
    unfold unitChans isLinked setOwnership
    rw [updChans_pairLinked]
  unfold takeTouched
  dsimp only
  generalize takeoverNotice s c .touched none cause (liveLevel s (unitLower s c)) = n
  have noticed : SameUnits (setOwnership c .touched s) (queueNotice n (setOwnership c .touched s)) := .of_chans rfl rfl
  have removed := removeClaims_units (unitChans (queueNotice n (setOwnership c .touched s)) c)
    (queueNotice n (setOwnership c .touched s))
  have same := (noticed.trans removed).trans (recordBalance_units c _)
  refine ⟨paired_of_same same (paired_updUnit (setOwnership_alike .touched) h.pairs), fun d held => ?_⟩
  by_cases mem : d ∈ unitChans s c
  · exact (recordBalance_units c _).claims d (removeClaims_claim (units ▸ mem) _)
  · have before := held_of_same same held
    have apart : (setOwnership c .touched s).chans[d] = s.chans[d] :=
      (getChan_updChans _ d (unitChans_nodup s c) s).trans (if_neg mem)
    unfold Held at before
    rw [apart] at before
    refine same.claims d ?_
    rw [apart]
    exact h.held d before

/-! ## Every operation keeps the laws -/

theorem law_claims : Claims UnitLaw where
  link _ _ := law_of_same (.of_chans rfl rfl)
  report s firing r := law_of_same (reportRetirement_units firing r s)
  unclaimChan s c := law_of_same (unclaimChan_units c s)
  unclaimGroup s g := law_of_same (unclaimGroup_units g s)
  free _ _ _ := law_of_same (.of_chans rfl rfl)

theorem law_core : Core (fun _ => True) UnitLaw where
  toClaims := law_claims
  surf _ _ := law_of_same (.of_chans rfl rfl)
  ownMute s c on h := by
    refine law_of_same (resnap_units _ _) (law_updUnit_settings (fun a b same => ?_) (fun ch free => free) h)
    exact congrArg (fun x => (x.1, on, x.2.2)) same
  groupMute s g on h := law_of_same (resnap_units _ _) (law_of_same (s := s) (.of_chans rfl rfl) h)
  cancel s k := law_of_same ((freezeClaims_units k s).trans (.of_chans rfl rfl))
  complete s k := law_of_same ((completeClaims_units k s).trans (.of_chans rfl rfl))
  place _ _ _ _ _ _ := law_of_same (.of_chans rfl rfl)
  start s k mv start _ _ h := law_startPending k mv (law_of_same (s := s) (.of_chans rfl rfl) h)
  turn s k mv start _ _ := law_of_same (turnRound_units k mv start s)
  auto s c := law_setOwnership c .auto nofun
  latch s c touched := law_latch c touched
  touch _ c cause := law_touch c cause
  pickup s c side i h := by
    refine law_updUnit (fun a b same => congrArg (fun x => (Ownership.pickup, x.2)) same) (fun d _ held => ?_) h
    rcases held with held | held <;> cases held
  side s _ _ _ := law_of_same (updChans_units (by intro _; rfl) (by intro _ h; exact h) _ s)
  fader _ t c _ _ := law_of_same (writeFader_units c _ t)
  glide _ _ _ := trivial
  act _ _ _ _ _ _ _ := law_of_same (.of_chans rfl rfl)

theorem law_play : Play (fun _ => True) UnitLaw where
  toCore := law_core
  choice _ _ := law_of_same (.of_chans rfl rfl)
  clock _ _ _ _ := law_of_same (.of_chans rfl rfl)
  timers _ _ _ _ _ := law_of_same (.of_chans rfl rfl)
  push _ _ _ := law_of_same (.of_chans rfl rfl)
  pop _ _ _ _ := law_of_same (.of_chans rfl rfl)
  advance _ _ := law_of_same (.of_chans rfl rfl)
  back _ _ := law_of_same (.of_chans rfl rfl)
  stored _ _ _ _ _ _ _ _ := trivial
  recorded _ _ _ _ := ⟨fun _ _ _ _ => trivial, fun _ _ _ _ => trivial⟩

/-- The members of a group change unit by unit. -/
theorem law_updUnits {f : Channel → Channel} (alike : ∀ a b : Channel, a.shared = b.shared → (f a).shared = (f b).shared)
    (unclaimed : ∀ ch, Unclaimed ch → Unclaimed (f ch)) (s₀ : State) : ∀ (cs : List Chan) {s : State},
    s.pairLinked = s₀.pairLinked → UnitLaw s → UnitLaw (updChans (cs.flatMap (unitChans s₀)) f s)
  | [], _, _, h => h
  | c :: cs, s, links, h => by
    have units : unitChans s₀ c = unitChans s c := by
      unfold unitChans isLinked
      rw [links]
    have split : updChans ((c :: cs).flatMap (unitChans s₀)) f s =
        updChans (cs.flatMap (unitChans s₀)) f (updChans (unitChans s c) f s) := by
      rw [List.flatMap_cons, units]
      exact List.foldl_append
    rw [split]
    exact law_updUnits alike unclaimed s₀ cs ((updChans_pairLinked _ f s).trans links)
      (law_updUnit_settings alike unclaimed h)

/-- Linking copies the shared fields onto the odd channel of two in AUTO (R40). -/
theorem law_linkPair {s : State} (k : PairId) (even : isAuto s (evenOf k) = true) (odd : isAuto s (oddOf k) = true)
    (h : UnitLaw s) : UnitLaw (linkPair k s) := by
  unfold linkPair
  split
  · exact h
  · dsimp only
    generalize copied : updChan (oddOf k) (Channel.copyShared s.chans[evenOf k]) s = s1
    have same := (resnap_units s s1).trans (removeClaims_units (newlySafe s (resnap s s1) [oddOf k]) (resnap s s1))
    have auto : s.chans[evenOf k].ownership = s.chans[oddOf k].ownership := by
      rw [beq_iff_eq.mp even, beq_iff_eq.mp odd]
    have read (d : Chan) : s1.chans[d] =
        if oddOf k = d then Channel.copyShared s.chans[evenOf k] s.chans[d] else s.chans[d] := by
      rw [← copied, getChan_updChan]
    have links : s1.pairLinked = s.pairLinked := by rw [← copied]; rfl
    refine ⟨fun j linked => ?_, fun d held => ?_⟩
    · rw [getLink_setLink] at linked
      show (removeClaims _ (resnap s s1)).chans[evenOf j].shared = (removeClaims _ (resnap s s1)).chans[oddOf j].shared
      rw [same.shared, same.shared, read, read, if_neg (even_ne_odd j k).symm]
      by_cases e : k = j
      · subst e
        rw [if_pos rfl]
        simp only [Channel.shared, Channel.copyShared, auto]
      · rw [if_neg e, same.links, links] at linked
        rw [if_neg (fun o => e (odd_inj.mp o))]
        exact h.pairs j linked
    · refine same.claims d ?_
      have before : Held s1 d := held_of_same same held
      unfold Held at before
      rw [read] at before ⊢
      split at before
      · rename_i e
        rw [if_pos e]
        exact h.held d before
      · rename_i e
        rw [if_neg e]
        exact h.held d before

theorem law_records : Records (fun _ => True) UnitLaw where
  toCore := law_core
  settle _ h := law_play.settle h
  count := law_play.choice
  lanes _ _ := law_of_same (.of_chans rfl rfl)
  attributes s c a h := by
    refine law_claims.removeClaims _ (law_of_same (resnap_units _ _) (law_updUnit_settings (fun x y same => ?_)
      (fun ch free => free) h))
    exact congrArg (fun x => (x.1, x.2.1, a.ramp, a.taper, a.mode, a.policy, a.safe, a.announce, x.2.2.2.2.2.2.2.2)) same
  level s c level h := law_of_same (updChans_units (by intro _; rfl) (by intro _ h; exact h) _ _)
    (law_claims.removeClaims _ h)
  trim s c _ := law_of_same (updChan_units (by intro _; rfl) (by intro _ h; exact h) s)
  linkPair s k even odd := law_linkPair k even odd
  unlink s k h := by
    refine ⟨fun j linked => ?_, h.held⟩
    rw [getLink_setLink] at linked
    split at linked
    · cases linked
    · exact h.pairs j linked
  offset _ g _ h := law_of_same (s := removeGroupClaim g _) (.of_chans rfl rfl) (law_claims.removeGroupClaim g h)
  members s g add cs h := by
    refine law_of_same (resnap_units _ _) (law_updUnits ?_ ?_ s cs rfl h)
    · intro a b same
      exact congrArg (fun x => (x.1, x.2.1, x.2.2.1, x.2.2.2.1, x.2.2.2.2.1, x.2.2.2.2.2.1, x.2.2.2.2.2.2.1,
        x.2.2.2.2.2.2.2.1, regroup g add x.2.2.2.2.2.2.2.2)) same
    · intro ch free
      exact free
  sets _ _ := law_of_same (.of_chans rfl rfl)
  table s t levels _ _ := by
    obtain ⟨-, -, -, -, chans, -, links⟩ := setTable_rest t (tableFrom levels) s
    exact law_of_same (.of_chans chans links)
  writeCue _ _ _ := law_of_same (.of_chans rfl rfl)
  deleteCue _ _ := law_of_same (.of_chans rfl rfl)
  clearCues _ := law_of_same (.of_chans rfl rfl)
  jump _ _ _ := law_of_same (.of_chans rfl rfl)
  backTime _ _ := law_of_same (.of_chans rfl rfl)

theorem law_softReset {s : State} (h : UnitLaw s) : UnitLaw (softReset s) := by
  unfold softReset
  refine ⟨fun k linked => ?_, fun c held => ?_⟩
  · simp only [Fin.getElem_fin, Vector.getElem_ofFn]
    exact congrArg (fun x => (Ownership.auto, x.2)) (h.pairs k linked)
  · simp [Held, Channel.softReset] at held

theorem law_powerOn (stop : StopUnit) (lanes : Lanes) (link : Link) (pending : List Instr) (n : Nat) :
    UnitLaw { State.reset with stop := stop, lanes := lanes, link := link, pending := pending, freeCount := n } := by
  refine ⟨fun k linked => ?_, fun c held => ?_⟩
  · simp [State.reset] at linked
  · simp [Held, State.reset] at held

theorem law_whole : Whole (fun _ => True) UnitLaw where
  toPlay := law_play
  __ := law_records
  ramps s := law_of_same (mapChans_units (by intro _ _; rfl) (by intro _ _ h; exact h) s)
  live _ _ _ := trivial
  stop s f h := law_of_same (resnap_units _ _) (law_of_same (s := s) (.of_chans rfl rfl) h)
  line _ _ := law_of_same (.of_chans rfl rfl)
  locate _ _ _ := law_of_same (.of_chans rfl rfl)
  softReset _ h := law_softReset h
  powerOn _ _ _ _ _ _ _ := law_powerOn _ _ _ _ _

/-- Settles O57: every operation keeps the laws of units. -/
theorem unitsStayWhole : Obligations.UnitsStayWhole := fun _ _ h next =>
  law_whole.kept.step (fun _ _ => law_of_same (.of_chans rfl rfl)) next h

end Sys2Proof.WholeUnits
end

section
/-! SUPPORT. The bytes of a payload and what is read from them: each reader accepts exactly the bytes that its value is
written as. -/

namespace Sys2Proof.Codec

open Sys2Proof Sys2Proof.Machine

/-! ## Numbers (R193) -/

theorem byte_eq_iff (b : Byte) (n : Nat) (h : n < 256) : b = BitVec.ofNat 8 n ↔ b.toNat = n := by
  rw [← BitVec.toNat_inj, BitVec.toNat_ofNat, Nat.mod_eq_of_lt h]

theorem byte_lt (b : Byte) : b.toNat < 256 := b.isLt

theorem toNat_ofNat {n : Nat} (h : n < 256) : (BitVec.ofNat 8 n : Byte).toNat = n := by
  rw [BitVec.toNat_ofNat, Nat.mod_eq_of_lt h]

@[simp] theorem ofNat_toNat (b : Byte) : BitVec.ofNat 8 b.toNat = b := by simp

@[simp] theorem u8_toNat (b : Byte) : u8 b.toNat = [b] := by simp [u8]

theorem le16_lt (b0 b1 : Byte) : le16 b0 b1 < 65536 := by
  have := byte_lt b0
  have := byte_lt b1
  unfold le16
  omega

theorem le24_lt (b0 b1 b2 : Byte) : le24 b0 b1 b2 < 16777216 := by
  have := byte_lt b0
  have := byte_lt b1
  have := byte_lt b2
  unfold le24
  omega

/-- A number below 2^16 is read back from its two bytes. -/
theorem le16_ofNat {n : Nat} (h : n < 65536) : le16 (BitVec.ofNat 8 n) (BitVec.ofNat 8 (n / 256)) = n := by
  unfold le16
  simp only [BitVec.toNat_ofNat]
  omega

theorem le24_ofNat {n : Nat} (h : n < 16777216) :
    le24 (BitVec.ofNat 8 n) (BitVec.ofNat 8 (n / 256)) (BitVec.ofNat 8 (n / 65536)) = n := by
  unfold le24
  simp only [BitVec.toNat_ofNat]
  omega

theorem le32_ofNat {n : Nat} (h : n < 4294967296) :
    le32 (BitVec.ofNat 8 n) (BitVec.ofNat 8 (n / 256)) (BitVec.ofNat 8 (n / 65536)) (BitVec.ofNat 8 (n / 16777216)) = n := by
  unfold le32
  simp only [BitVec.toNat_ofNat]
  omega

/-- Two bytes are the bytes of the number they hold. -/
theorem u16_le16 (b0 b1 : Byte) : u16 (le16 b0 b1) = [b0, b1] := by
  have := byte_lt b0
  have := byte_lt b1
  unfold u16 le16
  simp only [List.cons.injEq, and_true, ← BitVec.toNat_inj, BitVec.toNat_ofNat]
  omega

theorem u24_le24 (b0 b1 b2 : Byte) : u24 (le24 b0 b1 b2) = [b0, b1, b2] := by
  have := byte_lt b0
  have := byte_lt b1
  have := byte_lt b2
  unfold u24 le24
  simp only [List.cons.injEq, and_true, ← BitVec.toNat_inj, BitVec.toNat_ofNat]
  omega

/-- Sixteen bits with a sign (R193). -/
theorem les16_range (b0 b1 : Byte) : -32768 ≤ les16 b0 b1 ∧ les16 b0 b1 ≤ 32767 := by
  unfold les16
  have low := BitVec.le_two_mul_toInt (x := BitVec.ofNat 16 (le16 b0 b1))
  have high := BitVec.two_mul_toInt_lt (x := BitVec.ofNat 16 (le16 b0 b1))
  omega

theorem s16_les16 (b0 b1 : Byte) : s16 (les16 b0 b1) = [b0, b1] := by
  unfold s16 les16
  rw [BitVec.ofInt_toInt, BitVec.toNat_ofNat, Nat.mod_eq_of_lt (le16_lt b0 b1), u16_le16]

theorem les16_s16 {x : Int} (low : -32768 ≤ x) (high : x ≤ 32767) :
    les16 (BitVec.ofNat 8 (BitVec.ofInt 16 x).toNat) (BitVec.ofNat 8 ((BitVec.ofInt 16 x).toNat / 256)) = x := by
  unfold les16
  rw [le16_ofNat (BitVec.ofInt 16 x).isLt, BitVec.ofNat_toNat, BitVec.setWidth_eq, BitVec.toInt_ofInt]
  exact Int.bmod_eq_of_le (by omega) (by omega)

/-! ## Indices and enumerations (R33, R194) -/

section

variable (b : Byte)

theorem asChan_iff (c : Chan) : asChan b = some c ↔ b = BitVec.ofNat 8 c.val := by
  rw [byte_eq_iff b _ (by omega)]
  unfold asChan
  split
  · rw [Option.some.injEq, Fin.ext_iff]
  · simp only [reduceCtorEq, false_iff]
    omega

theorem asGrp_iff (g : Grp) : asGrp b = some g ↔ b = BitVec.ofNat 8 g.val := by
  rw [byte_eq_iff b _ (by omega)]
  unfold asGrp
  split
  · rw [Option.some.injEq, Fin.ext_iff]
  · simp only [reduceCtorEq, false_iff]
    omega

theorem asPair_iff (k : PairId) : asPair b = some k ↔ b = BitVec.ofNat 8 k.val := by
  rw [byte_eq_iff b _ (by omega)]
  unfold asPair
  split
  · rw [Option.some.injEq, Fin.ext_iff]
  · simp only [reduceCtorEq, false_iff]
    omega

theorem asSet_iff (e : SetId) : asSet b = some e ↔ b = BitVec.ofNat 8 e.val := by
  rw [byte_eq_iff b _ (by omega)]
  unfold asSet
  split
  · rw [Option.some.injEq, Fin.ext_iff]
  · simp only [reduceCtorEq, false_iff]
    omega

theorem asSlot_iff (k : Slot) : asSlot b = some k ↔ b = BitVec.ofNat 8 k.val := by
  rw [byte_eq_iff b _ (by omega)]
  unfold asSlot
  split
  · rw [Option.some.injEq, Fin.ext_iff]
  · simp only [reduceCtorEq, false_iff]
    omega

theorem asBit_iff (on : Bool) : asBit b = some on ↔ b = BitVec.ofNat 8 (if on then 1 else 0) := by
  unfold asBit
  split
  · subst_vars
    cases on <;> simp
  · split
    · subst_vars
      cases on <;> simp
    · cases on <;> simpa

theorem taperOf_iff (t : TaperSel) : taperOf b = some t ↔ b = BitVec.ofNat 8 t.code := by
  unfold taperOf TaperSel.code
  split
  · subst_vars
    cases t <;> simp
  · split
    · subst_vars
      cases t <;> simp
    · cases t <;> simpa

theorem modeOf_iff (m : TakeoverMode) : modeOf b = some m ↔ b = BitVec.ofNat 8 m.code := by
  unfold modeOf TakeoverMode.code
  split
  · subst_vars
    cases m <;> simp
  · split
    · subst_vars
      cases m <;> simp
    · split
      · subst_vars
        cases m <;> simp
      · cases m <;> simpa

theorem policyOf_iff (p : ReleasePolicy) : policyOf b = some p ↔ b = BitVec.ofNat 8 p.code := by
  unfold policyOf ReleasePolicy.code
  split
  · subst_vars
    cases p <;> simp
  · split
    · subst_vars
      cases p <;> simp
    · cases p <;> simpa

theorem followOf_iff (k : FollowKind) : followOf b = some k ↔ b = BitVec.ofNat 8 k.code := by
  unfold followOf FollowKind.code
  split
  · subst_vars
    cases k <;> simp
  · split
    · subst_vars
      cases k <;> simp
    · split
      · subst_vars
        cases k <;> simp
      · cases k <;> simpa

end

/-! ### What is written is read back -/

@[simp] theorem asChan_ofNat (c : Chan) : asChan (BitVec.ofNat 8 c.val) = some c := (asChan_iff _ c).mpr rfl
@[simp] theorem asGrp_ofNat (g : Grp) : asGrp (BitVec.ofNat 8 g.val) = some g := (asGrp_iff _ g).mpr rfl
@[simp] theorem asPair_ofNat (k : PairId) : asPair (BitVec.ofNat 8 k.val) = some k := (asPair_iff _ k).mpr rfl
@[simp] theorem asSet_ofNat (e : SetId) : asSet (BitVec.ofNat 8 e.val) = some e := (asSet_iff _ e).mpr rfl
@[simp] theorem asSlot_ofNat (k : Slot) : asSlot (BitVec.ofNat 8 k.val) = some k := (asSlot_iff _ k).mpr rfl
@[simp] theorem asBit_ofNat (on : Bool) : asBit (BitVec.ofNat 8 (if on then 1 else 0)) = some on := (asBit_iff _ on).mpr rfl
@[simp] theorem taperOf_ofNat (t : TaperSel) : taperOf (BitVec.ofNat 8 t.code) = some t := (taperOf_iff _ t).mpr rfl
@[simp] theorem modeOf_ofNat (m : TakeoverMode) : modeOf (BitVec.ofNat 8 m.code) = some m := (modeOf_iff _ m).mpr rfl
@[simp] theorem policyOf_ofNat (p : ReleasePolicy) : policyOf (BitVec.ofNat 8 p.code) = some p := (policyOf_iff _ p).mpr rfl
@[simp] theorem followOf_ofNat (k : FollowKind) : followOf (BitVec.ofNat 8 k.code) = some k := (followOf_iff _ k).mpr rfl

/-- A list of channels is read from the bytes of its channels. -/
theorem asChans_iff : ∀ (bs : List Byte) (cs : List Chan), asChans bs = some cs ↔ bs = cs.flatMap fun c => u8 c.val
  | [], cs => by
    cases cs <;> simp [asChans, u8]
  | b :: bs, cs => by
    unfold asChans
    cases cs with
    | nil => split <;> simp
    | cons c cs =>
      have split : b :: bs = (c :: cs).flatMap (fun c => u8 c.val) ↔ asChan b = some c ∧ asChans bs = some cs := by
        rw [asChans_iff bs cs, asChan_iff]
        exact List.cons_eq_cons
      rw [split]
      split
      · rename_i d ds hd hds
        rw [hd, hds]
        simp
      · rename_i none
        simp only [reduceCtorEq, false_iff, not_and]
        exact fun hc hcs => none _ _ hc hcs

@[simp] theorem asChans_flatMap (cs : List Chan) : asChans (cs.flatMap fun c => u8 c.val) = some cs :=
  (asChans_iff _ cs).mpr rfl

theorem length_flatMap_u8 (cs : List Chan) : (cs.flatMap fun c => u8 c.val).length = cs.length := by
  simp [u8]

/-! ## The answer on an idle link (R185, R186) -/

/-- What a request command does on an idle link, from what its request does. -/
theorem exec_idle {c : Instr} {f : Frame} {s w : State} {p : List Byte} (hf : frameOfCommand c = some f)
    (idle : LinkIdle s) (fits : f.payload.length ≤ 1024) (served : serve f (received s) = (w, p)) :
    exec c s = .next (sending f p w) := by
  rw [Steps.exec_request hf, submitFrame_idle f s idle fits, answered, served]

end Sys2Proof.Codec
end

section
/-! The laws at power-on and the link: O54, O50, O51, O3, O4. -/

namespace Sys2Proof.LinkRequests

open Sys2Proof Sys2Proof.Machine Sys2Proof.Codec

/-- Settles O54: power-on with the pins of `State.reset`. -/
theorem lawsAtReset : Obligations.LawsAtReset :=
  ⟨LevelRange.levels_powerOn {} {} {} [] 0, ClaimCount.law_powerOn {} {} {} [] 0, WholeUnits.law_powerOn {} {} {} [] 0,
    CueStore.law_empty rfl rfl, (ShowStop.stopLaw_iff _).mpr (.inl ⟨rfl, rfl⟩),
    { queue := by decide, notices := by decide, mask := by decide, stats := by decide, dispatched := by decide
      replying := by decide, sending := by decide, held := by decide, instant := rfl }, rfl⟩

/-- Settles O50: the fields of the power-on state, and POWER_ON's choice of its pins. -/
theorem powerOnValues : Obligations.PowerOnValues := by
  refine ⟨fun c => ?_, fun g => ?_, fun k => ?_, fun e => ?_, ?_, ?_, fun k => ?_, rfl, rfl, rfl, fun m => ?_,
    fun i => ?_, rfl, fun id => ?_, rfl, rfl, ⟨rfl, rfl, rfl⟩, fun s resetIn rate stopIn readyA readyB => ?_⟩
  · simp [State.reset, Config.off]
  · simp [State.reset]
  · simp [State.reset]
  · simp [State.reset]
  · decide +kernel
  · decide +kernel
  · simp [State.reset]
  · simp [State.reset]
  · revert i
    decide +kernel
  · cases id <;> rfl
  · cases stopIn
    · rfl
    · have enabled : (0x01FF : BitVec 16).getLsbD (Notice.stop .powerOn true true 0 0 .stopped).bit = true := by decide
      have queued : Link.queue (.stop .powerOn true true 0 0 .stopped) { rate := rate, held := resetIn } =
          { rate := rate, held := resetIn, notices := [.stop .powerOn true true 0 0 .stopped] } := by
        rw [Link.queue_of_other _ rfl, Link.post, enabled]
        rfl
      show Host.Outcome.next (choose (poweredOn resetIn rate true readyA readyB s)) = _
      unfold poweredOn queueNotice
      dsimp only
      rw [if_pos rfl, queued]
      rfl

/-! ## Requests of the link (R188, R189) -/

/-- A byte above 1 is no flag (R194). -/
theorem asBit_large {b : Byte} (large : 1 < b.toNat) : asBit b = none := by
  cases read : asBit b with
  | none => rfl
  | some on =>
    rw [asBit_iff, byte_eq_iff _ _ (by split <;> omega)] at read
    split at read <;> omega

/-- Settles O51: LINK STATUS reads and clears the counters, NOTICE ENABLE writes the mask. -/
theorem linkSettings : Obligations.LinkSettings := by
  intro tag s idle
  refine ⟨fun clear => ?_, fun b large => ?_, fun m bound => ⟨fun small => ?_, fun large => ?_⟩⟩
  · refine exec_idle rfl idle (by simp [flag, u8]) ?_
    show reqLinkStatus [BitVec.ofNat 8 (if clear then 1 else 0)] (received s) = _
    unfold reqLinkStatus
    simp only [asBit_ofNat]
    have empty : (received s).link.rxQueue.length = 0 := by
      show s.link.rxQueue.length = 0
      rw [idle.queue]
      rfl
    rw [empty]
    cases clear <;> rfl
  · refine exec_idle rfl idle (by simp) ?_
    show reqLinkStatus [b] (received s) = _
    unfold reqLinkStatus
    simp only [asBit_large large]
    rfl
  · refine exec_idle rfl idle (by simp [u16]) ?_
    show reqNoticeEnable [BitVec.ofNat 8 m, BitVec.ofNat 8 (m / 256)] (received s) = _
    unfold reqNoticeEnable
    simp only [le16_ofNat bound]
    rw [if_neg (by omega)]
    rfl
  · refine exec_idle rfl idle (by simp [u16]) ?_
    show reqNoticeEnable [BitVec.ofNat 8 m, BitVec.ofNat 8 (m / 256)] (received s) = _
    unfold reqNoticeEnable
    simp only [le16_ofNat bound]
    rw [if_pos large]
    rfl

/-- While a reply waits nothing is dispatched (R185). -/
theorem dispatchHead_of_reply {s : State} (waits : s.link.reply.isSome = true) : dispatchHead s = s := by
  rw [dispatchHead, waits, Bool.or_true, if_pos rfl]

/-- While a frame is being sent nothing is chosen (R186). -/
theorem choose_of_tx {s : State} (sends : s.link.tx.isSome = true) : choose s = s := by
  rw [choose, sends, Bool.or_true, if_pos rfl]

/-- A completed frame joins a receive queue of fewer than four (R184). -/
theorem enqueue_room {s : State} (f : Frame) (room : s.link.rxQueue.length < 4) :
    updLink (Link.enqueue f) s = updLink (fun k => { k with rxQueue := k.rxQueue ++ [f] }) (received s) := by
  have joins : Link.enqueue f s.link = { (received s).link with rxQueue := s.link.rxQueue ++ [f] } := if_pos room
  unfold updLink
  rw [joins]
  rfl

/-- At a queue of four it is discarded as an overrun (R184). -/
theorem enqueue_full {s : State} (f : Frame) (full : 4 ≤ s.link.rxQueue.length) : updLink (Link.enqueue f) s =
    updLink (Link.count fun t => { t with overruns := bump t.overruns }) (received s) := by
  have dropped : Link.enqueue f s.link =
      (received s).link.count fun t => { t with overruns := bump t.overruns } := if_neg (not_lt.mpr full)
  unfold updLink
  rw [dropped]
  rfl

theorem pump_of_busy {s : State} (sends : s.link.tx.isSome = true) (waits : s.link.reply.isSome = true) : pump s = s := by
  rw [pump, dispatchHead_of_reply waits, choose_of_tx sends, dispatchHead_of_reply waits]

/-! ## Requests and the queue (R184 to R186) -/

/-- Settles O3: the reply of any request is its status and its fields. -/
theorem requestAnswered : Obligations.RequestAnswered := by
  intro c f s hf idle fits
  have answer := Steps.serve_answers f (received s)
  generalize served : serve f (received s) = r at answer
  rcases answer with st | ⟨fields, w⟩ | ⟨fields, w⟩
  · exact ⟨st, [], received s, exec_idle hf idle fits served, fun _ _ => ⟨rfl, rfl⟩⟩
  · exact ⟨.ok, fields, w, exec_idle hf idle fits served, fun ne => absurd rfl ne⟩
  · exact ⟨.accepted, fields, w, exec_idle hf idle fits served, fun _ ne => absurd rfl ne⟩

/-- Settles O4: what the link does with a frame while it is held or busy. -/
theorem requestQueued : Obligations.RequestQueued := by
  intro c f s hf
  rw [Steps.exec_request hf]
  refine ⟨fun held => ?_, fun released long => ?_, fun released fits sends waits room => ?_,
    fun released fits sends waits full => ?_, fun released fits sends none empty => ?_⟩
  · rw [submitFrame, if_pos held]
  · rw [submitFrame, released, if_neg Bool.false_ne_true, if_pos long]
    rfl
  all_goals rw [submitFrame, released, if_neg Bool.false_ne_true, if_neg (by omega), completeRequest]
  · rw [enqueue_room f room]
    exact congrArg _ (pump_of_busy sends waits)
  · rw [enqueue_full f full]
    exact congrArg _ (pump_of_busy sends waits)
  · rw [enqueue_room f (by rw [empty]; decide)]
    have dispatched : dispatchHead (updLink (fun k => { k with rxQueue := k.rxQueue ++ [f] }) (received s)) =
        carryOut f (received s) := by
      have alone : (updLink (fun k => { k with rxQueue := k.rxQueue ++ [f] }) (received s)).link.rxQueue = [f] := by
        show s.link.rxQueue ++ [f] = [f]
        rw [empty]
        rfl
      have taken : updLink (fun k => { k with rxQueue := [] })
          (updLink (fun k => { k with rxQueue := k.rxQueue ++ [f] }) (received s)) = received s := by
        unfold received updLink Link.count
        simp [empty]
      rw [dispatchHead, if_neg (by simp [received, Link.count, released, none]), alone]
      dsimp only
      rw [taken]
    have path := serve_path f (received s)
    have stillSends : (carryOut f (received s)).link.tx.isSome = true := by
      show (serve f (received s)).1.link.tx.isSome = true
      rw [path.tx]
      exact sends
    rw [pump, dispatched, choose_of_tx stillSends, dispatchHead_of_reply rfl]
    rfl

end Sys2Proof.LinkRequests
end

section
/-! O19: the action record. -/

namespace Sys2Proof.Codec

open Sys2Proof Sys2Proof.Machine

theorem kindOf_iff (b : Byte) (k : MoveKind) : kindOf b = some k ↔ b = BitVec.ofNat 8 k.code := by
  rw [byte_eq_iff b _ (by cases k <;> decide)]
  unfold kindOf MoveKind.code
  split <;> rename_i code <;> cases k <;> simp_all

@[simp] theorem kindOf_ofNat (k : MoveKind) : kindOf (BitVec.ofNat 8 k.code) = some k := (kindOf_iff _ k).mpr rfl

/-- A target spec is read from its two bytes, and from no others (R74). -/
theorem targetOf_iff (k i : Byte) (t : TargetSpec) : targetOf k i = some t ↔ t.bytes = [k, i] := by
  have pair (n : Nat) (hn : n < 256) (v : Nat) : u8 n ++ u8 v = [k, i] ↔ k.toNat = n ∧ i = BitVec.ofNat 8 v := by
    rw [← byte_eq_iff k n hn]
    simp only [u8, List.singleton_append, List.cons.injEq, and_true]
    exact ⟨fun ⟨a, b⟩ => ⟨a.symm, b.symm⟩, fun ⟨a, b⟩ => ⟨a.symm, b.symm⟩⟩
  unfold targetOf TargetSpec.bytes
  cases t with
  | channel c =>
    rw [pair 0 (by omega), ← asChan_iff]
    split <;> simp_all
  | set e =>
    rw [pair 1 (by omega), ← asSet_iff]
    split <;> simp_all
  | members g =>
    rw [pair 2 (by omega), ← asGrp_iff]
    split <;> simp_all
  | group g =>
    rw [pair 3 (by omega), ← asGrp_iff]
    split <;> simp_all

/-! ## The packed byte -/

/-- The packed byte of an action record (spec 11, action record). -/
def packed (m : Mode) (l : Law) (u : Curve) (b : TimeBase) (cycle : Bool) : Byte :=
  BitVec.ofNat 8 (m.code + 2 * l.code + 4 * u.code + 16 * b.code + if cycle then 32 else 0)

/-- What a packed byte says of each of its fields. -/
structure Packs (p : Byte) (m : Mode) (l : Law) (u : Curve) (b : TimeBase) (cycle : Bool) : Prop where
  mode : (if p.getLsbD 0 then Mode.rel else .abs) = m
  law : (if p.getLsbD 1 then Law.taper else .db) = l
  curve : curveOf p = u
  timeBase : (if p.getLsbD 4 then TimeBase.wallTime else .showTime) = b
  cycle : p.getLsbD 5 = cycle
  spare : (p.getLsbD 6 || p.getLsbD 7) = false

theorem packs_packed (m : Mode) (l : Law) (u : Curve) (b : TimeBase) (cycle : Bool) :
    Packs (packed m l u b cycle) m l u b cycle := by
  constructor <;> cases m <;> cases l <;> cases u <;> cases b <;> cases cycle <;> decide

/-- With its spare bits clear a byte is the packed byte of its fields. -/
theorem packed_of_bits : ∀ p : Byte, (p.getLsbD 6 || p.getLsbD 7) = false →
    packed (if p.getLsbD 0 then .rel else .abs) (if p.getLsbD 1 then .taper else .db) (curveOf p)
      (if p.getLsbD 4 then .wallTime else .showTime) (p.getLsbD 5) = p := by
  decide +kernel

/-! ## The record -/

theorem Action.bytes_eq (a : Action) : a.bytes = u8 a.kind.code ++ a.spec.bytes
    ++ [packed a.mode a.law a.curve a.timeBase a.cycle] ++ s16 a.value ++ u24 a.delay ++ u24 a.duration ++ u8 a.count :=
  rfl

theorem TargetSpec.bytes_two (t : TargetSpec) : ∃ k i, t.bytes = [k, i] := by
  cases t <;> exact ⟨_, _, rfl⟩

theorem length_bytes (a : Action) : a.bytes.length = 13 := by
  obtain ⟨k, i, bytes⟩ := TargetSpec.bytes_two a.spec
  rw [Action.bytes_eq, bytes]
  rfl

/-- An action that fits is read back from its record (R46, R74, R193). -/
theorem parseAction_bytes {a : Action} (fits : ActionFits a) : parseAction a.bytes = some a := by
  obtain ⟨k, i, bytes⟩ := TargetSpec.bytes_two a.spec
  obtain ⟨spec, ⟨low, high⟩, delay, duration, count, cycle, once⟩ := fits
  have pack := packs_packed a.mode a.law a.curve a.timeBase a.cycle
  rw [Action.bytes_eq, bytes]
  simp only [u8, s16, u16, u24, List.cons_append, List.nil_append]
  unfold parseAction
  dsimp only
  rw [kindOf_ofNat, (targetOf_iff k i a.spec).mpr bytes]
  simp only [le24_ofNat delay, le24_ofNat duration, les16_s16 low high, toNat_ofNat count, pack.mode, pack.law, pack.curve,
    pack.timeBase, pack.cycle, pack.spare, spec, Bool.not_true, Bool.false_eq_true, if_false, Bool.and_eq_true, beq_iff_eq,
    Bool.not_eq_true', bne_iff_ne, ne_eq]
  rw [if_neg (fun ⟨on, zero⟩ => cycle on zero), if_neg ?_]
  rintro ⟨off, counts⟩
  exact counts (by rw [once off]; rfl)

/-- What is read from a record fits it, and is written as it (R46, R74, R193). -/
theorem parseAction_eq_some {r : List Byte} {a : Action} (h : parseAction r = some a) :
    ActionFits a ∧ a.bytes = r := by
  unfold parseAction at h
  split at h
  · rename_i k tk ti p v0 v1 d0 d1 d2 u0 u1 u2 n
    split at h
    · rename_i kind spec hkind htarget
      split at h <;> [cases h; rename_i spare]
      split at h <;> [cases h; rename_i allows]
      split at h <;> [cases h; rename_i runs]
      split at h <;> [cases h; rename_i once]
      cases h
      simp only [Bool.not_eq_true, Bool.not_eq_false, Bool.not_eq_true', Bool.and_eq_true, beq_iff_eq, bne_iff_ne, ne_eq,
        not_and, not_not] at spare allows runs once
      refine ⟨⟨allows, les16_range v0 v1, le24_lt _ _ _, le24_lt _ _ _, byte_lt n, runs, fun off => ?_⟩, ?_⟩
      · rw [once off]
        rfl
      · rw [Action.bytes_eq]
        dsimp only
        rw [packed_of_bits p spare, (targetOf_iff tk ti spec).mp htarget, s16_les16, u24_le24, u24_le24, u8_toNat,
          (kindOf_iff k kind).mp hkind]
        rfl
    · cases h
  · cases h

/-- Settles O19: the record is read back field by field. -/
theorem actionRecord : Obligations.ActionRecord := by
  refine ⟨fun a => ?_, fun kind spec => ?_, fun a => parseAction_bytes, fun r a => parseAction_eq_some⟩
  · unfold Action.bytes TargetSpec.bytes
    cases a.spec <;> rfl
  · cases kind <;> cases spec <;> simp [kindAllows]

end Sys2Proof.Codec
end

section
/-! O5: frames that no request takes. -/

namespace Sys2Proof.RefusedFrames

open Sys2Proof Sys2Proof.Machine Sys2Proof.Codec

/-- A request refuses a payload whose length its TYPE does not ask for with BAD_LENGTH, and one of that length whose
values do not fit with BAD_VALUE. -/
structure Screens (code : Nat) (req : List Byte → State → State × List Byte) : Prop where
  length : ∀ (p : List Byte) (s : State), lengthFits code p = false → req p s = refuse .badLength s
  values : ∀ (p : List Byte) (s : State), lengthFits code p = true → ValuesFit code p ∨ req p s = refuse .badValue s

/-- A request whose values cannot be wrong. -/
theorem Screens.of_length {code : Nat} {req : List Byte → State → State × List Byte}
    (fits : ∀ p, ValuesFit code p)
    (length : ∀ (p : List Byte) (s : State), lengthFits code p = false → req p s = refuse .badLength s) :
    Screens code req :=
  ⟨length, fun p _ _ => .inl (fits p)⟩

theorem of_length_five {p : List Byte} (h : p.length = 5) : ∃ a b c d e, p = [a, b, c, d, e] :=
  match p, h with
  | [a, b, c, d, e], _ => ⟨a, b, c, d, e, rfl⟩

theorem of_length_eight {p : List Byte} (h : p.length = 8) : ∃ a b c d e f g i, p = [a, b, c, d, e, f, g, i] :=
  match p, h with
  | [a, b, c, d, e, f, g, i], _ => ⟨a, b, c, d, e, f, g, i, rfl⟩

/-! ## Requests without a value that can be wrong -/

theorem reqIdentify_screens : Screens 0x01 reqIdentify :=
  .of_length (fun _ => trivial) fun p s h => by unfold reqIdentify; split <;> [cases h; rfl]

theorem reqReset_screens : Screens 0x02 reqReset :=
  .of_length (fun _ => trivial) fun p s h => by unfold reqReset; split <;> [cases h; rfl]

theorem reqClockRun_screens : Screens 0x2A reqClockRun :=
  .of_length (fun _ => trivial) fun p s h => by unfold reqClockRun; split <;> [cases h; rfl]

theorem reqClockHold_screens : Screens 0x2B reqClockHold :=
  .of_length (fun _ => trivial) fun p s h => by unfold reqClockHold; split <;> [cases h; rfl]

theorem reqClockStep_screens : Screens 0x2C reqClockStep :=
  .of_length (fun _ => trivial) fun p s h => by unfold reqClockStep; split <;> [cases h; rfl]

theorem reqClockLocate_screens : Screens 0x2D reqClockLocate :=
  .of_length (fun _ => trivial) fun p s h => by unfold reqClockLocate; split <;> [cases h; rfl]

theorem reqClockQuery_screens : Screens 0x2E reqClockQuery :=
  .of_length (fun _ => trivial) fun p s h => by unfold reqClockQuery; split <;> [cases h; rfl]

theorem reqCueClear_screens : Screens 0x33 reqCueClear :=
  .of_length (fun _ => trivial) fun p s h => by unfold reqCueClear; split <;> [cases h; rfl]

theorem reqGo_screens : Screens 0x34 reqGo :=
  .of_length (fun _ => trivial) fun p s h => by unfold reqGo; split <;> [cases h; rfl]

theorem reqBack_screens : Screens 0x35 reqBack :=
  .of_length (fun _ => trivial) fun p s h => by unfold reqBack; split <;> [cases h; rfl]

theorem reqPlaybackQuery_screens : Screens 0x37 reqPlaybackQuery :=
  .of_length (fun _ => trivial) fun p s h => by unfold reqPlaybackQuery; split <;> [cases h; rfl]

theorem reqPlaybackConfig_screens : Screens 0x38 reqPlaybackConfig :=
  .of_length (fun _ => trivial) fun p s h => by unfold reqPlaybackConfig; split <;> [cases h; rfl]

theorem reqSurfaceQuery_screens : Screens 0x42 reqSurfaceQuery :=
  .of_length (fun _ => trivial) fun p s h => by unfold reqSurfaceQuery; split <;> [cases h; rfl]

theorem reqLaneQuery_screens : Screens 0x49 reqLaneQuery :=
  .of_length (fun _ => trivial) fun p s h => by unfold reqLaneQuery; split <;> [cases h; rfl]

theorem reqStop_screens : Screens 0x50 reqStop :=
  .of_length (fun _ => trivial) fun p s h => by unfold reqStop; split <;> [cases h; rfl]

theorem reqStopClear_screens : Screens 0x51 reqStopClear :=
  .of_length (fun _ => trivial) fun p s h => by unfold reqStopClear; split <;> [cases h; rfl]

theorem reqStopConfig_screens : Screens 0x52 reqStopConfig :=
  .of_length (fun _ => trivial) fun p s h => by unfold reqStopConfig; split <;> [cases h; rfl]

/-! ## Requests of one index, flag or enumeration -/

theorem reqLinkStatus_screens : Screens 0x03 reqLinkStatus where
  length p s h := by unfold reqLinkStatus; split <;> [cases h; rfl]
  values p s h := by
    obtain ⟨c, rfl⟩ := List.length_eq_one_iff.mp (beq_iff_eq.mp h)
    unfold reqLinkStatus
    cases read : asBit c with
    | none => exact .inr (by simp only [read])
    | some clear => exact .inl ⟨clear, by rw [(asBit_iff c clear).mp read]; rfl⟩

theorem reqNoticeEnable_screens : Screens 0x04 reqNoticeEnable where
  length p s h := by unfold reqNoticeEnable; split <;> [cases h; rfl]
  values p s h := by
    obtain ⟨m0, m1, rfl⟩ := List.length_eq_two.mp (beq_iff_eq.mp h)
    unfold reqNoticeEnable
    by_cases large : 512 ≤ le16 m0 m1
    · exact .inr (if_pos large)
    · exact .inl ⟨le16 m0 m1, by omega, (u16_le16 m0 m1).symm⟩

theorem reqChannelQuery_screens : Screens 0x11 reqChannelQuery where
  length p s h := by unfold reqChannelQuery; split <;> [cases h; rfl]
  values p s h := by
    obtain ⟨b, rfl⟩ := List.length_eq_one_iff.mp (beq_iff_eq.mp h)
    unfold reqChannelQuery
    cases read : asChan b with
    | none => exact .inr (by simp only [read])
    | some c => exact .inl ⟨c, by rw [(asChan_iff b c).mp read]; rfl⟩

theorem reqSetRead_screens : Screens 0x19 reqSetRead where
  length p s h := by unfold reqSetRead; split <;> [cases h; rfl]
  values p s h := by
    obtain ⟨b, rfl⟩ := List.length_eq_one_iff.mp (beq_iff_eq.mp h)
    unfold reqSetRead
    cases read : asSet b with
    | none => exact .inr (by simp only [read])
    | some e => exact .inl ⟨e, by rw [(asSet_iff b e).mp read]; rfl⟩

theorem reqTaperRead_screens : Screens 0x1B reqTaperRead where
  length p s h := by unfold reqTaperRead; split <;> [cases h; rfl]
  values p s h := by
    obtain ⟨b, rfl⟩ := List.length_eq_one_iff.mp (beq_iff_eq.mp h)
    unfold reqTaperRead
    cases read : taperOf b with
    | none => exact .inr (by simp only [read])
    | some t => exact .inl ⟨t, by rw [(taperOf_iff b t).mp read]; rfl⟩

theorem reqMoveQuery_screens : Screens 0x22 reqMoveQuery where
  length p s h := by unfold reqMoveQuery; split <;> [cases h; rfl]
  values p s h := by
    obtain ⟨b, rfl⟩ := List.length_eq_one_iff.mp (beq_iff_eq.mp h)
    unfold reqMoveQuery
    cases read : asSlot b with
    | none => exact .inr (by simp only [read])
    | some k => exact .inl ⟨k, by rw [(asSlot_iff b k).mp read]; rfl⟩

/-- The byte 255, which stands for all of them (R70, R148). -/
theorem eq_255 {b : Byte} (h : b.toNat = 255) : [b] = [255] := by
  rw [BitVec.eq_of_toNat_eq (y := 255) h]

theorem reqMoveCancel_screens : Screens 0x21 reqMoveCancel where
  length p s h := by unfold reqMoveCancel; split <;> [cases h; rfl]
  values p s h := by
    obtain ⟨b, rfl⟩ := List.length_eq_one_iff.mp (beq_iff_eq.mp h)
    by_cases all : b.toNat = 255
    · exact .inl (.inr (eq_255 all))
    · unfold reqMoveCancel
      simp only [if_neg all]
      cases read : asSlot b with
      | none => exact .inr rfl
      | some k => exact .inl (.inl ⟨k, by rw [(asSlot_iff b k).mp read]; rfl⟩)

theorem reqLatchRelease_screens : Screens 0x44 reqLatchRelease where
  length p s h := by unfold reqLatchRelease; split <;> [cases h; rfl]
  values p s h := by
    obtain ⟨b, rfl⟩ := List.length_eq_one_iff.mp (beq_iff_eq.mp h)
    by_cases all : b.toNat = 255
    · exact .inl (.inr (eq_255 all))
    · unfold reqLatchRelease
      simp only [if_neg all]
      cases read : asChan b with
      | none => exact .inr rfl
      | some c => exact .inl (.inl ⟨c, by rw [(asChan_iff b c).mp read]; rfl⟩)

theorem reqCalibrate_screens : Screens 0x43 reqCalibrate where
  length p s h := by unfold reqCalibrate; split <;> [cases h; rfl]
  values p s h := by
    obtain ⟨b, rfl⟩ := List.length_eq_one_iff.mp (beq_iff_eq.mp h)
    by_cases module : b.toNat < 4
    · exact .inl ⟨⟨b.toNat, module⟩, (u8_toNat b).symm⟩
    · refine .inr ?_
      have none : asExpected b s = none := by rw [asExpected, dif_neg module]
      unfold reqCalibrate
      simp only [none]

theorem reqClockRate_screens : Screens 0x29 reqClockRate where
  length p s h := by unfold reqClockRate; split <;> [cases h; rfl]
  values p s h := by
    obtain ⟨d, rfl⟩ := List.length_eq_one_iff.mp (beq_iff_eq.mp h)
    by_cases rate : d.toNat = 1 ∨ d.toNat = 2 ∨ d.toNat = 4 ∨ d.toNat = 8
    · exact .inl ⟨d.toNat, by simpa using rate, (u8_toNat d).symm⟩
    · exact .inr (if_neg rate)

/-! ## Requests of several values -/

theorem reqChannelConfig_screens : Screens 0x10 reqChannelConfig where
  length p s h := by unfold reqChannelConfig; split <;> [cases h; rfl]
  values p s h := by
    obtain ⟨c, tp, md, po, sf, an, r0, r1, rfl⟩ := of_length_eight (beq_iff_eq.mp h)
    unfold reqChannelConfig parseAttributes
    cases hc : asChan c <;> [exact .inr (by simp only [hc]); rename_i chan]
    cases ht : taperOf tp <;> [exact .inr (by simp only [hc, ht]); rename_i taper]
    cases hm : modeOf md <;> [exact .inr (by simp only [hc, ht, hm]); rename_i mode]
    cases hp : policyOf po <;> [exact .inr (by simp only [hc, ht, hm, hp]); rename_i policy]
    cases hs : asBit sf <;> [exact .inr (by simp only [hc, ht, hm, hp, hs]); rename_i safe]
    cases ha : asBit an <;> [exact .inr (by simp only [hc, ht, hm, hp, hs, ha]); rename_i announce]
    refine .inl ⟨chan, taper, mode, policy, safe, announce, le16 r0 r1, le16_lt r0 r1, ?_⟩
    rw [(asChan_iff c chan).mp hc, (taperOf_iff tp taper).mp ht, (modeOf_iff md mode).mp hm,
      (policyOf_iff po policy).mp hp, (asBit_iff sf safe).mp hs, (asBit_iff an announce).mp ha, u16_le16]
    rfl

theorem reqLevelSet_screens : Screens 0x12 reqLevelSet where
  length p s h := by unfold reqLevelSet; split <;> [cases h; rfl]
  values p s h := by
    obtain ⟨b, l0, l1, rfl⟩ := List.length_eq_three.mp (beq_iff_eq.mp h)
    unfold reqLevelSet
    cases read : asChan b with
    | none => exact .inr (by simp only [read])
    | some c => exact .inl ⟨c, l0, l1, by rw [(asChan_iff b c).mp read]; rfl⟩

theorem reqTrimSet_screens : Screens 0x13 reqTrimSet where
  length p s h := by unfold reqTrimSet; split <;> [cases h; rfl]
  values p s h := by
    obtain ⟨b, l0, l1, rfl⟩ := List.length_eq_three.mp (beq_iff_eq.mp h)
    unfold reqTrimSet
    cases read : asChan b with
    | none => exact .inr (by simp only [read])
    | some c => exact .inl ⟨c, l0, l1, by rw [(asChan_iff b c).mp read]; rfl⟩

theorem reqMuteSet_screens : Screens 0x14 reqMuteSet where
  length p s h := by unfold reqMuteSet; split <;> [cases h; rfl]
  values p s h := by
    obtain ⟨b, m, rfl⟩ := List.length_eq_two.mp (beq_iff_eq.mp h)
    unfold reqMuteSet
    cases hc : asChan b <;> [exact .inr (by simp only [hc]); rename_i c]
    cases hm : asBit m <;> [exact .inr (by simp only [hc, hm]); rename_i on]
    exact .inl ⟨c, on, by rw [(asChan_iff b c).mp hc, (asBit_iff m on).mp hm]; rfl⟩

theorem reqPairLink_screens : Screens 0x15 reqPairLink where
  length p s h := by unfold reqPairLink; split <;> [cases h; rfl]
  values p s h := by
    obtain ⟨b, op, rfl⟩ := List.length_eq_two.mp (beq_iff_eq.mp h)
    unfold reqPairLink
    cases hk : asPair b <;> [exact .inr (by simp only [hk]); rename_i k]
    cases ho : asBit op <;> [exact .inr (by simp only [hk, ho]); rename_i link]
    exact .inl ⟨k, link, by rw [(asPair_iff b k).mp hk, (asBit_iff op link).mp ho]; rfl⟩

theorem reqGroupSet_screens : Screens 0x16 reqGroupSet where
  length p s h := by unfold reqGroupSet; split <;> [cases h; rfl]
  values p s h := by
    obtain ⟨b, sel, o0, o1, m, rfl⟩ := of_length_five (beq_iff_eq.mp h)
    unfold reqGroupSet
    cases hg : asGrp b <;> [exact .inr (by simp only [hg]); rename_i g]
    cases hm : asBit m <;> [exact .inr (by simp only [hg, hm]); rename_i on]
    by_cases large : 3 < sel.toNat
    · exact .inr (by simp only [hg, hm, if_pos large])
    · refine .inl ⟨g, sel.toNat, o0, o1, on, by omega, ?_⟩
      rw [(asGrp_iff b g).mp hg, (asBit_iff m on).mp hm, u8_toNat]
      rfl

theorem reqGroupMembers_screens : Screens 0x17 reqGroupMembers where
  length p s h := by
    unfold reqGroupMembers
    split
    · rename_i g op n bs
      refine if_pos fun same => ?_
      have fits : lengthFits 0x17 (g :: op :: n :: bs) = true := by
        simp [lengthFits, same]; omega
      rw [fits] at h
      cases h
    · rfl
  values p s h := by
    unfold reqGroupMembers
    split
    · rename_i g op n bs
      have same : bs.length = n.toNat := by simpa [lengthFits, Nat.add_comm 3] using h
      rw [if_neg (not_not.mpr same)]
      cases hg : asGrp g <;> [exact .inr rfl; rename_i grp]
      cases ho : asBit op <;> [exact .inr rfl; rename_i remove]
      cases hc : asChans bs <;> [exact .inr rfl; rename_i cs]
      by_cases outside : n.toNat = 0 ∨ 64 < n.toNat
      · exact .inr (if_pos outside)
      · rw [asChans_iff] at hc
        have many : cs.length = n.toNat := by rw [← same, hc, length_flatMap_u8]
        refine .inl ⟨grp, remove, cs, fun none => outside (.inl (by rw [← many, none]; rfl)), by omega, ?_⟩
        rw [(asGrp_iff g grp).mp hg, (asBit_iff op remove).mp ho, hc, many, u8_toNat]
        rfl
    · rename_i short
      simp only [lengthFits, Bool.and_eq_true, decide_eq_true_eq] at h
      match p, h with
      | g :: op :: n :: bs, _ => exact absurd rfl (short g op n bs)

theorem reqSetWrite_screens : Screens 0x18 reqSetWrite where
  length p s h := by
    unfold reqSetWrite
    split
    · rename_i e n bs
      refine if_pos fun same => ?_
      have fits : lengthFits 0x18 (e :: n :: bs) = true := by
        simp [lengthFits, same]; omega
      rw [fits] at h
      cases h
    · rfl
  values p s h := by
    unfold reqSetWrite
    split
    · rename_i e n bs
      have same : bs.length = n.toNat := by simpa [lengthFits, Nat.add_comm 2] using h
      rw [if_neg (not_not.mpr same)]
      cases he : asSet e <;> [exact .inr rfl; rename_i entry]
      cases hc : asChans bs <;> [exact .inr rfl; rename_i cs]
      by_cases large : 64 < n.toNat
      · exact .inr (if_pos large)
      · rw [asChans_iff] at hc
        have many : cs.length = n.toNat := by rw [← same, hc, length_flatMap_u8]
        refine .inl ⟨entry, cs, by omega, ?_⟩
        rw [(asSet_iff e entry).mp he, hc, many, u8_toNat]
        rfl
    · rename_i short
      simp only [lengthFits, Bool.and_eq_true, decide_eq_true_eq] at h
      match p, h with
      | e :: n :: bs, _ => exact absurd rfl (short e n bs)

/-- Levels are written as the bytes they are read from (R193). -/
theorem flatMap_levelsOf : ∀ {bs : List Byte}, bs.length % 2 = 0 → (levelsOf bs).flatMap s16 = bs
  | [], _ => rfl
  | [_], h => by simp at h
  | b0 :: b1 :: bs, h => by
    rw [levelsOf, List.flatMap_cons, s16_les16, flatMap_levelsOf (bs := bs) (by simp at h; omega)]
    rfl

/-- A table read from 33 levels lists them. -/
theorem toList_tableFrom {levels : List Int} (many : levels.length = 33) : (tableFrom levels).toList = levels := by
  refine List.ext_getElem (by simp [many]) fun k h1 h2 => ?_
  have := LevelRange.getElem_tableFrom many ⟨k, by omega⟩
  simpa using this

theorem reqTaperWrite_screens : Screens 0x1A reqTaperWrite where
  length p s h := by
    unfold reqTaperWrite
    split
    · rename_i sel bs
      refine if_pos fun same => ?_
      have fits : lengthFits 0x1A (sel :: bs) = true := by simp [lengthFits, same]
      rw [fits] at h
      cases h
    · rfl
  values p s h := by
    unfold reqTaperWrite
    split
    · rename_i sel bs
      have same : bs.length = 66 := by simpa [lengthFits] using h
      rw [if_neg (not_not.mpr same)]
      cases ht : taperOf sel <;> [exact .inr rfl; rename_i t]
      cases allowed : taperAllowed (levelsOf bs) with
      | false => exact .inr rfl
      | true =>
        have many : (levelsOf bs).length = 33 := by rw [Steps.length_levelsOf]; omega
        obtain ⟨inScale, rising⟩ := LevelRange.tableFrom_law many allowed
        refine .inl ⟨t, tableFrom (levelsOf bs), inScale, rising, ?_⟩
        rw [(taperOf_iff sel t).mp ht, toList_tableFrom many, flatMap_levelsOf (by omega)]
        rfl
    · cases h

theorem reqMoveStart_screens : Screens 0x20 reqMoveStart where
  length p s h := by
    unfold reqMoveStart
    split
    · rfl
    · rename_i tag record
      refine if_pos fun same => ?_
      have fits : lengthFits 0x20 (tag :: record) = true := by simp [lengthFits, same]
      rw [fits] at h
      cases h
  values p s h := by
    unfold reqMoveStart
    split
    · cases h
    · rename_i tag record
      have same : record.length = 13 := by simpa [lengthFits] using h
      rw [if_neg (not_not.mpr same)]
      cases read : parseAction record with
      | none => exact .inr rfl
      | some a =>
        obtain ⟨fits, bytes⟩ := parseAction_eq_some read
        exact .inl ⟨tag, a, fits, by rw [bytes]⟩

theorem reqClockSource_screens : Screens 0x28 reqClockSource where
  length p s h := by unfold reqClockSource; split <;> [cases h; rfl]
  values p s h := by
    obtain ⟨src, w, e, rfl⟩ := List.length_eq_three.mp (beq_iff_eq.mp h)
    unfold reqClockSource
    cases hs : asBit src <;> [exact .inr (by simp only [hs]); rename_i pulse]
    cases he : asBit e <;> [exact .inr (by simp only [hs, he]); rename_i falling]
    exact .inl ⟨pulse, falling, w, by rw [(asBit_iff src pulse).mp hs, (asBit_iff e falling).mp he]; rfl⟩

theorem reqCueRead_screens : Screens 0x31 reqCueRead where
  length p s h := by unfold reqCueRead; split <;> [cases h; rfl]
  values p s h := by
    obtain ⟨n0, n1, sel, rfl⟩ := List.length_eq_three.mp (beq_iff_eq.mp h)
    unfold reqCueRead
    cases read : asBit sel with
    | none => exact .inr (by simp only [read])
    | some next =>
      rw [asBit_iff] at read
      subst read
      cases next with
      | true => exact .inl ⟨le16 n0 n1, le16_lt n0 n1, .inl (by rw [u16_le16]; rfl)⟩
      | false =>
        by_cases zero : le16 n0 n1 = 0
        · exact .inr (if_pos zero)
        · exact .inl ⟨le16 n0 n1, le16_lt n0 n1, .inr ⟨zero, by rw [u16_le16]; rfl⟩⟩

theorem reqCueDelete_screens : Screens 0x32 reqCueDelete where
  length p s h := by unfold reqCueDelete; split <;> [cases h; rfl]
  values p s h := by
    obtain ⟨n0, n1, rfl⟩ := List.length_eq_two.mp (beq_iff_eq.mp h)
    by_cases zero : le16 n0 n1 = 0
    · exact .inr (if_pos zero)
    · exact .inl ⟨le16 n0 n1, by omega, le16_lt n0 n1, (u16_le16 n0 n1).symm⟩

theorem reqJump_screens : Screens 0x36 reqJump where
  length p s h := by unfold reqJump; split <;> [cases h; rfl]
  values p s h := by
    obtain ⟨n0, n1, rfl⟩ := List.length_eq_two.mp (beq_iff_eq.mp h)
    by_cases zero : le16 n0 n1 = 0
    · exact .inr (if_pos zero)
    · exact .inl ⟨le16 n0 n1, by omega, le16_lt n0 n1, (u16_le16 n0 n1).symm⟩

theorem reqSurfaceConfig_screens : Screens 0x40 reqSurfaceConfig where
  length p s h := by unfold reqSurfaceConfig; split <;> [cases h; rfl]
  values p s h := by
    obtain ⟨m, n, db, g0, g1, rfl⟩ := of_length_five (beq_iff_eq.mp h)
    by_cases outside : 4 < m.toNat ∨ n.toNat = 0 ∨ 4 < n.toNat
    · exact .inr (if_pos outside)
    · refine .inl ⟨m.toNat, n.toNat, db.toNat, le16 g0 g1, by omega, by omega, by omega, byte_lt db, le16_lt g0 g1, ?_⟩
      rw [u8_toNat, u8_toNat, u8_toNat, u16_le16]
      rfl

theorem reqBankSet_screens : Screens 0x41 reqBankSet where
  length p s h := by unfold reqBankSet; split <;> [cases h; rfl]
  values p s h := by
    obtain ⟨a, b, sp, rfl⟩ := List.length_eq_three.mp (beq_iff_eq.mp h)
    by_cases outside : 63 < a.toNat ∨ 63 < b.toNat ∨ 4 < sp.toNat
    · exact .inr (if_pos outside)
    · refine .inl ⟨a.toNat, b.toNat, sp.toNat, by omega, by omega, by omega, ?_⟩
      rw [u8_toNat, u8_toNat, u8_toNat]
      rfl

theorem reqLaneConfig_screens : Screens 0x48 reqLaneConfig where
  length p s h := by unfold reqLaneConfig; split <;> [cases h; rfl]
  values p s h := by
    obtain ⟨md, pt, per, ea, eb, rfl⟩ := of_length_five (beq_iff_eq.mp h)
    unfold reqLaneConfig parseLaneSettings
    cases hm : asBit md <;> [exact .inr (by simp only [hm]); rename_i split]
    cases ha : asBit ea <;> [exact .inr (by simp only [hm, ha]); rename_i a]
    cases hb : asBit eb <;> [exact .inr (by simp only [hm, ha, hb]); rename_i b]
    by_cases lists : (per.toNat = 1 ∨ per.toNat = 2 ∨ per.toNat = 4) ∧ 8 ≤ pt.toNat ∧ pt.toNat ≤ 56 ∧ pt.toNat % 8 = 0
    · obtain ⟨period, low, high, eighth⟩ := lists
      refine .inl ⟨⟨split, pt.toNat, per.toNat, a, b⟩, by simpa using period, low, high, eighth, ?_⟩
      rw [(asBit_iff md split).mp hm, (asBit_iff ea a).mp ha, (asBit_iff eb b).mp hb, u8_toNat, u8_toNat]
      rfl
    · exact .inr (by simp only [hm, ha, hb, if_neg lists])

/-! ## CUE WRITE (R94) -/

theorem parseActions_eq_some : ∀ {n : Nat} {bs : List Byte} {as : List Action}, parseActions n bs = some as →
    bs.length = 13 * n → as.length = n ∧ (∀ a ∈ as, ActionFits a) ∧ as.flatMap Action.bytes = bs
  | 0, bs, as, h, many => by
    cases h
    rw [List.length_eq_zero_iff.mp many]
    simp
  | n + 1, bs, as, h, many => by
    unfold parseActions at h
    split at h
    · rename_i a rest first others
      cases h
      obtain ⟨fits, bytes⟩ := parseAction_eq_some first
      obtain ⟨length, allFit, restBytes⟩ := parseActions_eq_some others (by rw [List.length_drop]; omega)
      refine ⟨by rw [List.length_cons, length], List.forall_mem_cons.mpr ⟨fits, allFit⟩, ?_⟩
      rw [List.flatMap_cons, bytes, restBytes, List.take_append_drop]
    · cases h

theorem parseCue_eq_some {n0 n1 fk w0 w1 w2 t0 t1 lc ac : Byte} {records : List Byte} {c : Cue}
    (h : parseCue n0 n1 fk w0 w1 w2 t0 t1 lc ac records = some c) (many : records.length = 13 * ac.toNat) :
    CueFits c ∧ c.wire = n0 :: n1 :: fk :: w0 :: w1 :: w2 :: t0 :: t1 :: lc :: ac :: records := by
  unfold parseCue at h
  split at h
  · rename_i follow actions hfollow hactions
    split at h <;> [cases h; rename_i number]
    split at h <;> [cases h; rename_i few]
    split at h <;> [cases h; rename_i loops]
    cases h
    obtain ⟨length, fits, bytes⟩ := parseActions_eq_some hactions many
    refine ⟨⟨⟨Nat.pos_of_ne_zero number, le16_lt n0 n1⟩, le24_lt w0 w1 w2, ⟨byte_lt lc, rfl⟩, ⟨le16_lt t0 t1, ?_⟩,
      ⟨?_, fits⟩⟩, ?_⟩
    · intro counts none
      refine loops ⟨fun zero => counts ?_, none⟩
      rw [zero]
      rfl
    · show actions.length ≤ 64
      omega
    · unfold Cue.wire
      dsimp only
      rw [u16_le16, u24_le24, u16_le16, u8_toNat, length, u8_toNat, bytes, (followOf_iff fk follow).mp hfollow]
      rfl
  · cases h

theorem reqCueWrite_screens : Screens 0x30 reqCueWrite where
  length p s h := by
    unfold reqCueWrite
    split
    · rename_i n0 n1 fk w0 w1 w2 t0 t1 lc ac records
      refine if_pos fun same => ?_
      have fits : lengthFits 0x30 (n0 :: n1 :: fk :: w0 :: w1 :: w2 :: t0 :: t1 :: lc :: ac :: records) = true := by
        simp [lengthFits, same]; omega
      rw [fits] at h
      cases h
    · rfl
  values p s h := by
    unfold reqCueWrite
    split
    · rename_i n0 n1 fk w0 w1 w2 t0 t1 lc ac records
      have same : records.length = 13 * ac.toNat := by simpa [lengthFits, Nat.add_comm 10] using h
      rw [if_neg (not_not.mpr same)]
      cases read : parseCue n0 n1 fk w0 w1 w2 t0 t1 lc ac records with
      | none => exact .inr rfl
      | some c =>
        obtain ⟨fits, bytes⟩ := parseCue_eq_some read same
        exact .inl ⟨c, fits, bytes.symm⟩
    · rename_i short
      simp only [lengthFits, Bool.and_eq_true, decide_eq_true_eq] at h
      match p, h with
      | n0 :: n1 :: fk :: w0 :: w1 :: w2 :: t0 :: t1 :: lc :: ac :: records, _ =>
        exact absurd rfl (short n0 n1 fk w0 w1 w2 t0 t1 lc ac records)

/-! ## Every request -/

theorem serve_badType {f : Frame} (unknown : f.type.toNat ∉ requestCodes) (s : State) :
    serve f s = refuse .badType s := by
  unfold serve
  split
  case h_46 => rfl
  all_goals
    rename_i type
    exact absurd (by rw [type]; decide) unknown

/-- The request that a TYPE names screens its payload (R185). -/
theorem serve_screens {f : Frame} (known : f.type.toNat ∈ requestCodes) :
    ∃ req, Screens f.type.toNat req ∧ ∀ s : State, serve f s = req f.payload s := by
  unfold serve
  simp only [requestCodes, List.mem_cons, List.not_mem_nil, or_false] at known
  rcases known with type | type | type | type | type | type | type | type | type | type | type | type | type | type | type | type | type | type | type | type | type | type | type | type | type | type | type | type | type | type | type | type | type | type | type | type | type | type | type | type | type | type | type | type | type <;> simp only [type]
  · exact ⟨_, reqIdentify_screens, fun _ => rfl⟩
  · exact ⟨_, reqReset_screens, fun _ => rfl⟩
  · exact ⟨_, reqLinkStatus_screens, fun _ => rfl⟩
  · exact ⟨_, reqNoticeEnable_screens, fun _ => rfl⟩
  · exact ⟨_, reqChannelConfig_screens, fun _ => rfl⟩
  · exact ⟨_, reqChannelQuery_screens, fun _ => rfl⟩
  · exact ⟨_, reqLevelSet_screens, fun _ => rfl⟩
  · exact ⟨_, reqTrimSet_screens, fun _ => rfl⟩
  · exact ⟨_, reqMuteSet_screens, fun _ => rfl⟩
  · exact ⟨_, reqPairLink_screens, fun _ => rfl⟩
  · exact ⟨_, reqGroupSet_screens, fun _ => rfl⟩
  · exact ⟨_, reqGroupMembers_screens, fun _ => rfl⟩
  · exact ⟨_, reqSetWrite_screens, fun _ => rfl⟩
  · exact ⟨_, reqSetRead_screens, fun _ => rfl⟩
  · exact ⟨_, reqTaperWrite_screens, fun _ => rfl⟩
  · exact ⟨_, reqTaperRead_screens, fun _ => rfl⟩
  · exact ⟨_, reqMoveStart_screens, fun _ => rfl⟩
  · exact ⟨_, reqMoveCancel_screens, fun _ => rfl⟩
  · exact ⟨_, reqMoveQuery_screens, fun _ => rfl⟩
  · exact ⟨_, reqClockSource_screens, fun _ => rfl⟩
  · exact ⟨_, reqClockRate_screens, fun _ => rfl⟩
  · exact ⟨_, reqClockRun_screens, fun _ => rfl⟩
  · exact ⟨_, reqClockHold_screens, fun _ => rfl⟩
  · exact ⟨_, reqClockStep_screens, fun _ => rfl⟩
  · exact ⟨_, reqClockLocate_screens, fun _ => rfl⟩
  · exact ⟨_, reqClockQuery_screens, fun _ => rfl⟩
  · exact ⟨_, reqCueWrite_screens, fun _ => rfl⟩
  · exact ⟨_, reqCueRead_screens, fun _ => rfl⟩
  · exact ⟨_, reqCueDelete_screens, fun _ => rfl⟩
  · exact ⟨_, reqCueClear_screens, fun _ => rfl⟩
  · exact ⟨_, reqGo_screens, fun _ => rfl⟩
  · exact ⟨_, reqBack_screens, fun _ => rfl⟩
  · exact ⟨_, reqJump_screens, fun _ => rfl⟩
  · exact ⟨_, reqPlaybackQuery_screens, fun _ => rfl⟩
  · exact ⟨_, reqPlaybackConfig_screens, fun _ => rfl⟩
  · exact ⟨_, reqSurfaceConfig_screens, fun _ => rfl⟩
  · exact ⟨_, reqBankSet_screens, fun _ => rfl⟩
  · exact ⟨_, reqSurfaceQuery_screens, fun _ => rfl⟩
  · exact ⟨_, reqCalibrate_screens, fun _ => rfl⟩
  · exact ⟨_, reqLatchRelease_screens, fun _ => rfl⟩
  · exact ⟨_, reqLaneConfig_screens, fun _ => rfl⟩
  · exact ⟨_, reqLaneQuery_screens, fun _ => rfl⟩
  · exact ⟨_, reqStop_screens, fun _ => rfl⟩
  · exact ⟨_, reqStopClear_screens, fun _ => rfl⟩
  · exact ⟨_, reqStopConfig_screens, fun _ => rfl⟩

/-- Settles O5: the TYPE, then the length, then the values. -/
theorem refusedByFrame : Obligations.RefusedByFrame := by
  intro c f s hf idle fits
  refine ⟨fun unknown => exec_idle hf idle fits (serve_badType unknown _), fun known wrong => ?_,
    fun known right outside => ?_⟩
  · obtain ⟨req, screens, serves⟩ := serve_screens known
    exact exec_idle hf idle fits ((serves _).trans (screens.length _ _ wrong))
  · obtain ⟨req, screens, serves⟩ := serve_screens known
    exact exec_idle hf idle fits ((serves _).trans ((screens.values _ _ right).resolve_left outside))

end Sys2Proof.RefusedFrames
end

section
/-! O7 and O11: the inverse mapping (R14) and the mute ramp (R9). -/

namespace Sys2Proof.LevelInverse

open Sys2Proof Sys2Proof.Machine Sys2Proof.LevelScale

/-! ## The ceiling of a quotient -/

theorem le_mul_ceilDivInt (a : Int) {b : Int} (hb : 0 < b) : a ≤ ceilDivInt a b * b := by
  have := Int.ediv_mul_le (-a) (Int.ne_of_gt hb)
  rw [ceilDivInt, Int.neg_mul]
  omega

theorem mul_pred_ceilDivInt_lt (a : Int) {b : Int} (hb : 0 < b) : (ceilDivInt a b - 1) * b < a := by
  have := Int.lt_ediv_add_one_mul_self (-a) hb
  have opposite : (ceilDivInt a b - 1) * b = -(((-a) / b + 1) * b) := by rw [ceilDivInt]; ring
  rw [opposite]
  omega

theorem ceilDivInt_le {a b m : Int} (hb : 0 < b) (h : a ≤ m * b) : ceilDivInt a b ≤ m := by
  have strict : (ceilDivInt a b - 1) * b < m * b := (mul_pred_ceilDivInt_lt a hb).trans_le h
  have := lt_of_mul_lt_mul_right strict hb.le
  omega

theorem ceilDivInt_pos {a b : Int} (ha : 0 < a) (hb : 0 < b) : 0 < ceilDivInt a b :=
  pos_of_mul_pos_left (ha.trans_le (le_mul_ceilDivInt a hb)) hb.le

theorem ceilDivInt_mono {a a' b : Int} (hb : 0 < b) (h : a ≤ a') : ceilDivInt a b ≤ ceilDivInt a' b :=
  ceilDivInt_le hb (h.trans (le_mul_ceilDivInt a' hb))

/-! ## The segment of a level (R14, step 3) -/

/-- A level above T[k] and at most T[k + 1]. -/
structure InSegment (t : Vector Int 33) (v : Int) (k : Nat) : Prop where
  lt : k < 32
  above : taperEntry t k < v
  below : v ≤ taperEntry t (k + 1)

theorem taperSegment_inSegment {t : Vector Int 33} {v : Int} (low : taperEntry t 0 < v) (high : v ≤ taperEntry t 32) :
    InSegment t v (taperSegment t v) := by
  have found : ((List.range 32).find? fun k => decide (v ≤ taperEntry t (k + 1))).isSome := by
    rw [List.find?_isSome]
    exact ⟨31, by simp, by simpa using high⟩
  obtain ⟨k, hk⟩ := Option.isSome_iff_exists.mp found
  have segment : taperSegment t v = k := by rw [taperSegment, hk, Option.getD_some]
  obtain ⟨reached, inRange, before⟩ := List.find?_range_eq_some.mp hk
  have lt : k < 32 := by simpa using inRange
  rw [segment]
  refine ⟨lt, ?_, of_decide_eq_true reached⟩
  cases k with
  | zero => exact low
  | succ j => exact Int.not_le.mp (of_decide_eq_false (by simpa using before j (by omega)))

section TableMeetsLaw

variable {t : Vector Int 33} (ht : TableLaw t)
include ht

/-- The segment is the least k with T[k + 1] at or above the level. -/
theorem InSegment.least {v : Int} {k j : Nat} (h : InSegment t v k) (reached : v ≤ taperEntry t (j + 1)) :
    k ≤ j := by
  by_contra below
  have fallsShort := taperEntry_mono ht (show j + 1 ≤ k by omega) h.lt.le
  have := h.above
  omega

theorem InSegment.unique {v : Int} {k j : Nat} (h : InSegment t v k) (h' : InSegment t v j) : k = j :=
  Nat.le_antisymm (h.least ht h'.below) (h'.least ht h.below)

end TableMeetsLaw

/-- What R14 adds to 32k inside the segment. -/
def segmentOffset (t : Vector Int 33) (v : Int) (k : Nat) : Int :=
  ceilDivInt ((v - taperEntry t k) * 32) (taperEntry t (k + 1) - taperEntry t k)

theorem InSegment.rise {t : Vector Int 33} {v : Int} {k : Nat} (h : InSegment t v k) :
    0 < taperEntry t (k + 1) - taperEntry t k := by
  have := h.above
  have := h.below
  omega

theorem InSegment.offset_pos {t : Vector Int 33} {v : Int} {k : Nat} (h : InSegment t v k) : 0 < segmentOffset t v k :=
  ceilDivInt_pos (by have := h.above; omega) h.rise

theorem InSegment.offset_le {t : Vector Int 33} {v : Int} {k : Nat} (h : InSegment t v k) :
    segmentOffset t v k ≤ 32 :=
  ceilDivInt_le h.rise (by have := h.below; omega)

/-! ## The inverse mapping (R14) -/

theorem taperInverse_low {t : Vector Int 33} {v : Int} (h : v ≤ taperEntry t 0) : taperInverse t v = 0 := if_pos h

theorem taperInverse_high {t : Vector Int 33} {v : Int} (low : taperEntry t 0 < v) (high : taperEntry t 32 ≤ v) :
    taperInverse t v = 1024 := by
  rw [taperInverse, if_neg (Int.not_le.mpr low), if_pos high]

theorem taperInverse_inside {t : Vector Int 33} {v : Int} (low : taperEntry t 0 < v) (high : v < taperEntry t 32) :
    taperInverse t v = 32 * taperSegment t v + (segmentOffset t v (taperSegment t v)).toNat := by
  rw [taperInverse, if_neg (Int.not_le.mpr low), if_neg (Int.not_le.mpr high), segmentOffset]

theorem taperInverse_inside_le {t : Vector Int 33} {v : Int} (low : taperEntry t 0 < v) (high : v < taperEntry t 32) :
    taperInverse t v ≤ 32 * (taperSegment t v + 1) := by
  have := (taperSegment_inSegment low high.le).offset_le
  rw [taperInverse_inside low high]
  omega

section TableMeetsLaw

variable {t : Vector Int 33} (ht : TableLaw t)
include ht

theorem taperInverse_of_segment {v : Int} {k : Nat} (h : InSegment t v k) (high : v < taperEntry t 32) :
    taperInverse t v = 32 * k + (segmentOffset t v k).toNat := by
  have low : taperEntry t 0 < v := (taperEntry_mono ht (Nat.zero_le k) h.lt.le).trans_lt h.above
  rw [taperInverse_inside low high, (taperSegment_inSegment low high.le).unique ht h]

theorem taperInverse_mono {v w : Int} (h : v ≤ w) : taperInverse t v ≤ taperInverse t w := by
  rcases lt_or_ge (taperEntry t 0) v with lowV | lowV
  case inr => rw [taperInverse_low lowV]; exact Nat.zero_le _
  have lowW := lowV.trans_le h
  rcases lt_or_ge v (taperEntry t 32) with highV | highV
  case inr => rw [taperInverse_high lowV highV, taperInverse_high lowW (highV.trans h)]
  have segV := taperSegment_inSegment lowV highV.le
  rcases lt_or_ge w (taperEntry t 32) with highW | highW
  case inr =>
    have := taperInverse_inside_le lowV highV
    have := segV.lt
    rw [taperInverse_high lowW highW]
    omega
  have segW := taperSegment_inSegment lowW highW.le
  rcases Nat.lt_or_eq_of_le (segV.least ht (h.trans segW.below)) with before | same
  · have := taperInverse_inside_le lowV highV
    rw [taperInverse_inside lowW highW]
    omega
  · have offsets : segmentOffset t v (taperSegment t v) ≤ segmentOffset t w (taperSegment t v) :=
      ceilDivInt_mono segV.rise (by omega)
    rw [taperInverse_inside lowV highV, taperInverse_inside lowW highW, ← same]
    omega

/-- An entry above all before it is mapped to its own position. -/
theorem taperInverse_node {k : Nat} (rises : taperEntry t k < taperEntry t (k + 1))
    (below : taperEntry t (k + 1) < taperEntry t 32) (lt : k < 32) :
    taperInverse t (taperEntry t (k + 1)) = 32 * (k + 1) := by
  have seg : InSegment t (taperEntry t (k + 1)) k := ⟨lt, rises, le_rfl⟩
  have atEnd : 32 ≤ segmentOffset t (taperEntry t (k + 1)) k := by
    have reached := le_mul_ceilDivInt ((taperEntry t (k + 1) - taperEntry t k) * 32) seg.rise
    exact le_of_mul_le_mul_right ((Int.mul_comm 32 _).trans_le reached) seg.rise
  have := seg.offset_le
  rw [taperInverse_of_segment ht seg below]
  omega

/-- Mapped there and back, a level ends between itself and the upper end of its segment. -/
theorem taperForward_taperInverse {v : Int} {k : Nat} (seg : InSegment t v k) (high : v < taperEntry t 32) :
    v ≤ taperForward t (taperInverse t v) ∧ taperForward t (taperInverse t v) ≤ taperEntry t (k + 1) := by
  have positive := seg.offset_pos
  have bounded := seg.offset_le
  have lt := seg.lt
  rw [taperInverse_of_segment ht seg high]
  refine ⟨?_, ?_⟩
  · rcases Int.lt_or_eq_of_le bounded with inside | atEnd
    · have segment : (32 * k + (segmentOffset t v k).toNat) / 32 = k := by omega
      have rest : (((32 * k + (segmentOffset t v k).toNat) % 32 : Nat) : Int) = segmentOffset t v k := by omega
      have covers : (v - taperEntry t k) * 32 ≤ segmentOffset t v k * (taperEntry t (k + 1) - taperEntry t k) :=
        le_mul_ceilDivInt _ seg.rise
      rw [taperForward_eq_floor ht (by omega), segmentProduct, segment, rest, Int.mul_comm]
      omega
    · rw [atEnd, show 32 * k + (32 : Int).toNat = 32 * (k + 1) by simp; omega, taperForward_node t (by omega)]
      exact seg.below
  · rw [← taperForward_node t (show k + 1 ≤ 32 by omega)]
    exact taperForward_mono ht (by omega) (by omega)

end TableMeetsLaw

/-- Settles O7: the segment of the level, then the ceiling of the quotient within it. -/
theorem inverseMapping : Obligations.InverseMapping := by
  have entry (t : Vector Int 33) (k : Fin 33) : t[k] = taperEntry t k.val := (taperEntry_eq_getElem t k.isLt).symm
  have entryLt (t : Vector Int 33) (k : Nat) (h : k < 33) : t[k] = taperEntry t k := (taperEntry_eq_getElem t h).symm
  refine ⟨fun t v h => taperInverse_low (by simpa using h), fun t v low high =>
    taperInverse_high (by simpa using low) (by simpa using high), fun t ht => ⟨?formula, ?mono, ?nodes, ?roundTrip⟩⟩
  case formula =>
    intro v k low high reached least
    simp only [entryLt] at low high reached least ⊢
    have seg := taperSegment_inSegment low high.le
    have same : taperSegment t v = k :=
      Nat.le_antisymm (seg.least ht reached) (least ⟨_, seg.lt⟩ seg.below)
    rw [same] at seg
    refine ⟨seg.above, seg.rise, (segmentOffset t v k).toNat, taperInverse_of_segment ht seg high, ?_⟩
    rw [Int.toNat_of_nonneg seg.offset_pos.le]
    exact ⟨le_mul_ceilDivInt _ seg.rise, mul_pred_ceilDivInt_lt _ seg.rise⟩
  case mono => exact fun v w => taperInverse_mono ht
  case nodes =>
    intro j lt before
    simp only [entry, entryLt] at before ⊢
    obtain ⟨j, hj⟩ := j
    cases j with
    | zero => exact .inl (taperInverse_low le_rfl)
    | succ k =>
      have rises := before ⟨k, by omega⟩ (Nat.lt_succ_self k)
      rcases Int.lt_or_eq_of_le (taperEntry_mono ht (show k + 1 ≤ 32 by omega) le_rfl) with below | top
      · exact .inl (taperInverse_node ht rises below (by omega))
      · exact .inr top
  case roundTrip =>
    intro v low high
    simp only [entry, entryLt] at low high ⊢
    rcases Int.lt_or_eq_of_le high with inside | rfl
    · have seg := taperSegment_inSegment low high
      obtain ⟨atLeast, atMost⟩ := taperForward_taperInverse ht seg inside
      refine ⟨atLeast, fun j reached => atMost.trans ?_⟩
      obtain ⟨j, hj⟩ := j
      cases j with
      | zero => exact absurd (low.trans_le reached) (Int.lt_irrefl _)
      | succ i => exact taperEntry_mono ht (by have := seg.least ht (j := i) reached; simp only; omega) (by omega)
    · rw [taperInverse_high low le_rfl, taperForward_top]
      exact ⟨le_rfl, fun j reached => reached⟩

/-! ## The mute ramp (R9) -/

theorem rampToward_goal (len : Nat) (goal : Int) : rampToward len goal goal = goal := by
  have : 0 ≤ rampStep len := Int.natCast_nonneg _
  unfold rampToward
  split_ifs <;> omega

theorem rampToward_down {len : Nat} (pos : 0 < len) {m : Int} (low : -3072 ≤ m) :
    rampToward len (-3072) m = max (-3072) (m - rampStep len) := by
  rw [rampToward, if_neg (by omega), if_neg (by omega)]

theorem rampToward_up {len : Nat} (pos : 0 < len) {m : Int} (high : m ≤ 0) :
    rampToward len 0 m = min 0 (m + rampStep len) := by
  rcases Int.lt_or_eq_of_le high with below | rfl
  · rw [rampToward, if_neg (by omega), if_pos below]
  · rw [rampToward_goal, Int.zero_add]
    exact (min_eq_left (Int.natCast_nonneg _)).symm

/-- The least whole number of q a millisecond that covers 3072 q in `len` milliseconds. -/
theorem rampStep_eq {len : Nat} (pos : 0 < len) : rampStep len = ((3072 + len - 1) / len : Nat) := by
  rw [rampStep, ceilDiv, Nat.add_sub_assoc pos]

theorem rampStep_covers {len : Nat} (pos : 0 < len) : 3072 ≤ (len : Int) * rampStep len := by
  have covers : 3072 ≤ len * ((3072 + (len - 1)) / len) := by
    have := Nat.lt_mul_div_succ (3072 + (len - 1)) pos
    rw [Nat.mul_add, Nat.mul_one] at this
    omega
  rw [rampStep, ceilDiv]
  exact_mod_cast covers

theorem rampStep_pos {len : Nat} (pos : 0 < len) : 0 < rampStep len := by
  rw [rampStep, ceilDiv]
  exact_mod_cast Nat.div_pos (by omega) pos

/-- Steps toward the silent goal. -/
theorem rampToward_down_iterate {len : Nat} (pos : 0 < len) {m : Int} (low : -3072 ≤ m) (n : Nat) :
    (rampToward len (-3072))^[n] m = max (-3072) (m - n * rampStep len) := by
  induction n with
  | zero => simp [low]
  | succ n ih =>
    have := rampStep_pos pos
    rw [Function.iterate_succ_apply', ih, rampToward_down pos (le_max_left _ _), Nat.cast_succ, Int.add_mul]
    omega

/-- Steps toward the open goal. -/
theorem rampToward_up_iterate {len : Nat} (pos : 0 < len) {m : Int} (high : m ≤ 0) (n : Nat) :
    (rampToward len 0)^[n] m = min 0 (m + n * rampStep len) := by
  induction n with
  | zero => simp [high]
  | succ n ih =>
    have := rampStep_pos pos
    rw [Function.iterate_succ_apply', ih, rampToward_up pos (min_le_left _ _), Nat.cast_succ, Int.add_mul]
    omega

/-- Settles O11: each direction of the ramp, then n steps of it by induction. -/
theorem muteRamp : Obligations.MuteRamp := by
  refine ⟨fun s c => rfl, ?step, rampToward_goal, ?reaches, ?length⟩
  case step =>
    intro len goal m pos hgoal low high
    have step := rampStep_pos pos
    dsimp only
    rw [← rampStep_eq pos]
    rcases hgoal with rfl | rfl
    · rw [rampToward_down pos low, if_pos rfl]
      exact ⟨rfl, by omega, by omega⟩
    · rw [rampToward_up pos high, if_neg (by decide)]
      exact ⟨rfl, by omega, by omega⟩
  case reaches =>
    intro len goal m pos hgoal low high
    have covers := rampStep_covers pos
    rcases hgoal with rfl | rfl
    · rw [rampToward_down_iterate pos low]
      omega
    · rw [rampToward_up_iterate pos high]
      omega
  case length =>
    intro len pos
    have step : 0 < (3072 + len - 1) / len := Nat.div_pos (by omega) pos
    have covers : 3072 ≤ len * ((3072 + len - 1) / len) := by
      have := rampStep_covers pos
      rw [rampStep_eq pos] at this
      exact_mod_cast this
    rw [Nat.div_le_iff_le_mul_add_pred step]
    have := Nat.mul_comm len ((3072 + len - 1) / len)
    omega

end Sys2Proof.LevelInverse
end

section
/-! The mute ramp's response to a change (R10), and the requests that write one field or one table: O14, O17, O18. -/

namespace Sys2Proof.Settings

open Sys2Proof Sys2Proof.Machine Sys2Proof.Codec

/-! ## Changes of channel records alone -/

/-- From s to t nothing but channel records changed. -/
structure OnlyChans (s t : State) : Prop where
  rest : { t with chans := s.chans } = s

namespace OnlyChans

theorem trans {a b c : State} (h : OnlyChans a b) (h' : OnlyChans b c) : OnlyChans a c :=
  ⟨(congrArg (fun u : State => { u with chans := a.chans }) h'.rest).trans h.rest⟩

theorem updChans (f : Channel → Channel) : ∀ (cs : List Chan) (s : State), OnlyChans s (updChans cs f s)
  | [], _ => ⟨rfl⟩
  | c :: cs, s => .trans (b := updChan c f s) ⟨rfl⟩ (OnlyChans.updChans f cs (updChan c f s))

theorem mapChans (f : Chan → Channel → Channel) (s : State) : OnlyChans s (mapChans f s) := by
  unfold Machine.mapChans
  exact ⟨rfl⟩

theorem resnap (before after : State) : OnlyChans after (resnap before after) := .mapChans _ after

theorem groups {s t : State} (h : OnlyChans s t) : t.groups = s.groups := (congrArg State.groups h.rest :)

theorem stop {s t : State} (h : OnlyChans s t) : t.stop = s.stop := (congrArg State.stop h.rest :)

end OnlyChans

/-- A change that is the same done twice, read in a channel of a list and in another. -/
theorem getChan_updChans_idem {f : Channel → Channel} (twice : ∀ ch, f (f ch) = f ch) (d : Chan) :
    ∀ (cs : List Chan) (s : State), (updChans cs f s).chans[d] = if d ∈ cs then f s.chans[d] else s.chans[d]
  | [], s => rfl
  | c :: cs, s => by
    show (updChans cs f (updChan c f s)).chans[d] = _
    rw [getChan_updChans_idem twice d cs, getChan_updChan]
    by_cases e : c = d
    · subst e
      simp [twice]
    · simp [e, Ne.symm e]

/-! ## The ramp's response (R10) -/

/-- The inputs of a channel's mute ramp are the same in two states. -/
structure SameRamp (s t : State) (c : Chan) : Prop where
  own : t.chans[c].ownMute = s.chans[c].ownMute
  member : t.chans[c].groups = s.chans[c].groups
  announce : t.chans[c].announce = s.chans[c].announce
  ramp : t.chans[c].ramp = s.chans[c].ramp
  mutes : ∀ g : Grp, t.groups[g].mute = s.groups[g].mute
  stop : t.stop = s.stop

namespace SameRamp

variable {s t : State} {c : Chan}

theorem goal (h : SameRamp s t c) : rampGoal t c = rampGoal s c := by
  unfold rampGoal composedMute underStop groupsOf inGroup
  simp only [h.own, h.member, h.announce, h.mutes, h.stop]

theorem inForce (h : SameRamp s t c) : rampInForce t c = rampInForce s c := by
  unfold rampInForce underStop
  simp only [h.ramp, h.announce, h.stop]

theorem after (h : SameRamp s t c) (before : State) : rampAfter before t c = rampAfter before s c := by
  unfold rampAfter
  rw [h.goal, h.inForce]

/-- Without a change of its inputs m is not moved. -/
theorem unmoved (h : SameRamp s t c) : rampAfter s t c = s.chans[c].atten := by
  unfold rampAfter
  rw [h.goal, h.inForce, if_neg (by simp)]

theorem trans {u : State} (h : SameRamp s t c) (h' : SameRamp t u c) : SameRamp s u c :=
  ⟨h'.own.trans h.own, h'.member.trans h.member, h'.announce.trans h.announce, h'.ramp.trans h.ramp,
    fun g => (h'.mutes g).trans (h.mutes g), h'.stop.trans h.stop⟩

end SameRamp

/-- A channel after R10's response. -/
theorem getChan_resnap (before after : State) (c : Chan) : (resnap before after).chans[c] = { after.chans[c] with
    atten := if (rampGoal before c ≠ rampGoal after c ∨ rampInForce before c ≠ rampInForce after c) ∧ rampInForce after c = 0
      then rampGoal after c else after.chans[c].atten } := by
  unfold resnap
  rw [getChan_mapChans]
  split <;> rfl

theorem resnap_sameRamp (before after : State) (c : Chan) : SameRamp after (resnap before after) c where
  own := by rw [getChan_resnap]
  member := by rw [getChan_resnap]
  announce := by rw [getChan_resnap]
  ramp := by rw [getChan_resnap]
  mutes g := by rw [(OnlyChans.resnap before after).groups]
  stop := (OnlyChans.resnap before after).stop

/-- A channel after R10's response, where the change itself left m alone. -/
theorem getChan_resnap_after {before after : State} {c : Chan} (atten : after.chans[c].atten = before.chans[c].atten) :
    (resnap before after).chans[c] = { after.chans[c] with atten := rampAfter before (resnap before after) c } := by
  rw [(resnap_sameRamp before after c).after, getChan_resnap, rampAfter, atten]

/-! ## TRIM SET and MUTE SET (R38, R39) -/

/-- The channels after an own mute is written. -/
theorem getChan_setOwnMute (c : Chan) (on : Bool) (s : State) (d : Chan) :
    (setOwnMute c on s).chans[d] = { s.chans[d] with
      ownMute := if d ∈ unitChans s c then on else s.chans[d].ownMute
      atten := rampAfter s (setOwnMute c on s) d } := by
  have written := WholeUnits.getChan_updChans (fun ch => { ch with ownMute := on }) d (WholeUnits.unitChans_nodup s c) s
  refine (getChan_resnap_after ?_).trans ?_
  · rw [written]
    split <;> rfl
  · rw [written]
    split <;> rfl

theorem setOwnMute_only (c : Chan) (on : Bool) (s : State) : OnlyChans s (setOwnMute c on s) :=
  .trans (.updChans _ _ s) (.resnap _ _)

/-- Settles O14: one record for the trim, the unit's records and the ramps for the mute. -/
theorem trimAndMute : Obligations.TrimAndMute := by
  refine ⟨fun tag s c t0 t1 idle => ?_, fun tag s c on idle => ⟨setOwnMute c on (received s), ?_, fun d => ?_, ?_⟩⟩
  · refine exec_idle rfl idle (by simp [u8]) ?_
    show reqTrimSet [BitVec.ofNat 8 c.val, t0, t1] (received s) = _
    unfold reqTrimSet
    simp only [asChan_ofNat]
    rfl
  · refine exec_idle rfl idle (by simp [u8, flag]) ?_
    show reqMuteSet [BitVec.ofNat 8 c.val, BitVec.ofNat 8 (if on then 1 else 0)] (received s) = _
    unfold reqMuteSet
    simp only [asChan_ofNat, asBit_ofNat]
    rfl
  · exact getChan_setOwnMute c on (received s) d
  · exact (setOwnMute_only c on (received s)).rest

/-! ## GROUP MEMBERS (R42) -/

theorem regroup_twice (g : Grp) (add : Bool) (set : BitVec 8) : regroup g add (regroup g add set) = regroup g add set := by
  refine BitVec.eq_of_getLsbD_eq fun i _ => ?_
  unfold regroup
  cases add <;> simp

/-- The membership after a group is put in or taken out. -/
theorem getLsbD_regroup (g h : Grp) (add : Bool) (set : BitVec 8) :
    (regroup g add set).getLsbD h.val = if h = g then add else set.getLsbD h.val := by
  have hlt := h.isLt
  unfold regroup
  by_cases e : h = g
  · subst e
    cases add <;> simp [hlt]
  · have other : ¬ g.val = h.val := fun same => e (Fin.ext same.symm)
    cases add <;> simp [hlt, e, Ne.symm other]

/-- The channels after a group is put in or taken out, whatever the order and the repeats of the names. -/
theorem getChan_changeMembers (g : Grp) (add : Bool) (cs : List Chan) (s : State) (d : Chan) :
    (changeMembers g add cs s).chans[d] = { s.chans[d] with
      groups := if d ∈ cs.flatMap (unitChans s) then regroup g add s.chans[d].groups else s.chans[d].groups
      atten := rampAfter s (changeMembers g add cs s) d } := by
  have written := getChan_updChans_idem (f := fun ch => { ch with groups := regroup g add ch.groups })
    (fun ch => by simp only [regroup_twice]) d (cs.flatMap (unitChans s)) s
  refine (getChan_resnap_after ?_).trans ?_
  · rw [written]
    split <;> rfl
  · rw [written]
    split <;> rfl

/-- Settles O17: what the named units' records hold, and the reply read from them. -/
theorem groupMembers : Obligations.GroupMembers := by
  intro tag s g add cs idle some few
  have read (d : Chan) := getChan_changeMembers g add cs (received s) d
  refine ⟨changeMembers g add cs (received s), ?_, fun h d => ?_, fun d => ?_, ?_⟩
  · refine exec_idle rfl idle (by simp [u8, flag]; omega) ?_
    show reqGroupMembers (BitVec.ofNat 8 g.val :: BitVec.ofNat 8 (if !add then 1 else 0) :: BitVec.ofNat 8 cs.length ::
      cs.flatMap fun c => u8 c.val) (received s) = _
    have length : (BitVec.ofNat 8 cs.length : Byte).toNat = cs.length := toNat_ofNat (by omega)
    unfold reqGroupMembers
    simp only [asGrp_ofNat, asBit_ofNat, asChans_flatMap, length_flatMap_u8, length, Bool.not_not, ne_eq, not_true_eq_false,
      if_false]
    rw [if_neg (by have := List.length_pos_iff.mpr some; omega)]
    simp [accept, memberReport, chanListField, Status.byte]
  · show (changeMembers g add cs (received s)).chans[d].groups.getLsbD h.val = if h = g ∧ d ∈ cs.flatMap (unitChans s) then add
      else s.chans[d].groups.getLsbD h.val
    have groups : (changeMembers g add cs (received s)).chans[d].groups =
        if d ∈ cs.flatMap (unitChans s) then regroup g add s.chans[d].groups else s.chans[d].groups :=
      congrArg Channel.groups (read d)
    rw [groups]
    by_cases mem : d ∈ cs.flatMap (unitChans s)
    · rw [if_pos mem, getLsbD_regroup]
      simp only [mem, and_true]
    · simp only [mem, and_false, if_false]
  · have read := read d
    generalize changeMembers g add cs (received s) = w at read ⊢
    rw [read]
    rfl
  · exact ((OnlyChans.updChans _ _ (received s)).trans (.resnap _ _)).rest

/-! ## SET WRITE, SET READ, TAPER WRITE and TAPER READ (R43, R44, R16, R17) -/

/-- Levels of 16 bits are read from the bytes they are written as (R193). -/
theorem levelsOf_flatMap : ∀ {ls : List Int}, (∀ l ∈ ls, -32768 ≤ l ∧ l ≤ 32767) → levelsOf (ls.flatMap s16) = ls
  | [], _ => rfl
  | l :: ls, fits => by
    obtain ⟨⟨low, high⟩, fits⟩ := List.forall_mem_cons.mp fits
    show les16 _ _ :: levelsOf (ls.flatMap s16) = l :: ls
    rw [levelsOf_flatMap fits, les16_s16 low high]

theorem tableFrom_toList (table : Vector Int 33) : tableFrom table.toList = table := by
  refine Vector.ext fun k h => ?_
  have := LevelRange.getElem_tableFrom (levels := table.toList) (by simp) ⟨k, h⟩
  simpa using this

/-- TAPER WRITE takes exactly the tables that meet R12. -/
theorem taperAllowed_toList (table : Vector Int 33) : taperAllowed table.toList = true ↔ TableLaw table := by
  refine ⟨fun allowed => ?_, fun law => ?_⟩
  · rw [← tableFrom_toList table]
    exact LevelRange.tableFrom_law (by simp) allowed
  · obtain ⟨inScale, rising⟩ := law
    refine (LevelRange.taperAllowed_iff _).mpr ⟨fun l mem => ?_, ?_⟩
    · obtain ⟨k, h, rfl⟩ := Vector.mem_iff_getElem.mp (Vector.mem_toList_iff.mp mem)
      exact inScale ⟨k, h⟩
    · refine List.pairwise_iff_getElem.mpr fun i j hi hj lt => ?_
      simpa using rising ⟨i, by simpa using hi⟩ ⟨j, by simpa using hj⟩ lt.le

/-- Settles O18: each request writes or reads one entry or one table. -/
theorem setsAndTapers : Obligations.SetsAndTapers := by
  refine ⟨fun tag s e cs idle few => ?_, fun tag s e idle => ?_, fun tag s t table idle fits => ?_, fun tag s t idle => ?_⟩
  · refine exec_idle rfl idle (by simp [u8]; omega) ?_
    show reqSetWrite (BitVec.ofNat 8 e.val :: BitVec.ofNat 8 cs.length :: cs.flatMap fun c => u8 c.val) (received s) = _
    have length : (BitVec.ofNat 8 cs.length : Byte).toNat = cs.length := toNat_ofNat (by omega)
    have distinct : distinctChans cs = (List.finRange 64).filter fun c => c ∈ cs := by simp [distinctChans, allFin]
    unfold reqSetWrite
    simp only [asSet_ofNat, asChans_flatMap, length_flatMap_u8, length, ne_eq, not_true_eq_false, if_false]
    rw [if_neg (by omega), distinct]
    rfl
  · refine exec_idle rfl idle (by simp [u8]) ?_
    show reqSetRead [BitVec.ofNat 8 e.val] (received s) = _
    unfold reqSetRead
    simp only [asSet_ofNat]
    simp [accept, chanListField, Status.byte, received, updLink]
  · have length : (table.toList.flatMap s16).length = 66 := by simp [s16, u16]
    have entries : ∀ l ∈ table.toList, -32768 ≤ l ∧ l ≤ 32767 := fun l mem => by
      obtain ⟨k, h, rfl⟩ := Vector.mem_iff_getElem.mp (Vector.mem_toList_iff.mp mem)
      exact fits ⟨k, h⟩
    have served : serve ⟨0x1A, tag, u8 t.code ++ table.toList.flatMap s16⟩ (received s) =
        if taperAllowed table.toList then accept [] (setTable t table (received s)) else refuse .badValue (received s) := by
      show reqTaperWrite (BitVec.ofNat 8 t.code :: table.toList.flatMap s16) (received s) = _
      unfold reqTaperWrite
      simp only [length, taperOf_ofNat, levelsOf_flatMap entries, tableFrom_toList, ne_eq, not_true_eq_false, if_false]
    refine ⟨fun law => ?_, fun broken => ?_⟩
    · refine exec_idle rfl idle (by simp [u8, length]) (served.trans ?_)
      rw [if_pos ((taperAllowed_toList table).mpr law)]
      cases t <;> rfl
    · refine exec_idle rfl idle (by simp [u8, length]) (served.trans ?_)
      rw [if_neg (fun allowed => broken ((taperAllowed_toList table).mp allowed))]
      rfl
  · refine exec_idle rfl idle (by simp [u8]) ?_
    show reqTaperRead [BitVec.ofNat 8 t.code] (received s) = _
    unfold reqTaperRead
    simp only [taperOf_ofNat]
    rfl

end Sys2Proof.Settings
end

section
/-! What retirements and claim removals leave behind (R48, R69, R71, R72, R108). -/

namespace Sys2Proof.Removal

open Sys2Proof Sys2Proof.Machine

/-! ## What a claim reads (R2, R3) -/

/-- What a claim reads of its move: the law and where the move stands between its start and its end. -/
def timing (mv : Move) : Law × Curve × TimeBase × MovePhase × Nat := (mv.law, mv.curve, mv.timeBase, mv.phase, mv.duration)

theorem moveProgress_of_timing {s t : State} {a b : Move} (clock : t.clock = s.clock) (same : timing a = timing b) :
    moveProgress a t = moveProgress b s := by
  obtain ⟨-, curve, base, phase, duration⟩ : a.law = b.law ∧ a.curve = b.curve ∧ a.timeBase = b.timeBase
      ∧ a.phase = b.phase ∧ a.duration = b.duration := by simpa [timing] using same
  unfold moveProgress elapsedSince
  rw [curve, base, phase, duration, clock]

theorem claimValue_congr {s t : State} {cl : Claim} (clock : t.clock = s.clock)
    (move : t.moves[cl.slot].map timing = s.moves[cl.slot].map timing) (table : Vector Int 33) (free : Int) :
    claimValue t table cl free = claimValue s table cl free := by
  unfold claimValue
  cases old : s.moves[cl.slot] with
  | none =>
    rw [old, Option.map_none, Option.map_eq_none_iff] at move
    rw [move]
  | some b =>
    rw [old, Option.map_some] at move
    obtain ⟨a, new, same⟩ := Option.map_eq_some_iff.mp move
    have law : a.law = b.law := congrArg Prod.fst same
    simp only [new, law, moveProgress_of_timing clock same]

/-- The slots that claims name read the same in two states. -/
structure SameLanes (s t : State) : Prop where
  clock : t.clock = s.clock
  taperA : t.taperA = s.taperA
  taperB : t.taperB = s.taperB

theorem SameLanes.table {s t : State} (h : SameLanes s t) (sel : TaperSel) : tableOf t sel = tableOf s sel := by
  cases sel
  · exact h.taperA
  · exact h.taperB

theorem liveLevel_congr {s t : State} {c : Chan} (h : SameLanes s t) (base : t.chans[c].base = s.chans[c].base)
    (claim : t.chans[c].claim = s.chans[c].claim) (taper : t.chans[c].taper = s.chans[c].taper)
    (move : ∀ cl, s.chans[c].claim = some cl → t.moves[cl.slot].map timing = s.moves[cl.slot].map timing) :
    liveLevel t c = liveLevel s c := by
  unfold liveLevel
  rw [claim]
  cases held : s.chans[c].claim with
  | none => exact base
  | some cl =>
    simp only
    rw [taper, base, h.table, claimValue_congr h.clock (move cl held)]

theorem liveOffset_congr {s t : State} {g : Grp} (h : SameLanes s t) (group : t.groups[g] = s.groups[g])
    (move : ∀ cl, s.groups[g].claim = some cl → t.moves[cl.slot].map timing = s.moves[cl.slot].map timing) :
    liveOffset t g = liveOffset s g := by
  unfold liveOffset
  rw [group]
  cases held : s.groups[g].claim with
  | none => rfl
  | some cl =>
    simp only
    rw [h.taperA, claimValue_congr h.clock (move cl held)]

/-! ## One retirement (R71, R72, R108) -/

/-- The retirement that `retire` makes of a move. -/
theorem reportRetirement_after {s : State} {r : Retirement} {firing number : Nat} (origin : r.move.origin = .cue firing number)
    (finite : r.move.isFinite = true) : (reportRetirement firing r.instant s).play = afterReport s.play r := by
  have ends : r.move.kind.isInstant = true ∨ r.move.cycle = false ∨ r.move.count ≠ 0 := by
    simpa [Move.isFinite, or_assoc] using finite
  unfold reportRetirement afterReport
  rw [origin]
  cases watch : s.play.endWatch with
  | none => rfl
  | some u =>
    simp only
    by_cases same : u.firing = firing
    · rw [if_pos same, if_pos ⟨same, ends⟩]
      unfold expireEndWatch
      simp only [updPlay_play]
      by_cases last : u.count ≤ 1
      · rw [if_pos last, if_pos (by omega)]
        rfl
      · rw [if_neg last, if_neg (by omega)]
        rfl
    · rw [if_neg same, if_neg (fun h => same h.1)]

theorem afterReport_endless {p : Playback} {r : Retirement} (endless : r.move.isFinite = false) : afterReport p r = p := by
  have ends : ¬ (r.move.kind.isInstant = true ∨ r.move.cycle = false ∨ r.move.count ≠ 0) := by
    simpa [Move.isFinite, and_assoc] using endless
  unfold afterReport
  split
  · rw [if_neg (fun h => ends h.2)]
  · rfl

theorem reportRetirement_rest (firing r : Nat) (s : State) : { reportRetirement firing r s with play := s.play } = s := by
  unfold reportRetirement expireEndWatch
  split
  · split
    · simp only [updPlay_play]
      split <;> rfl
    · rfl
  · rfl

/-- What a retirement does: the slot is FREE, the report reaches the playback timers, the notice is queued. -/
theorem retire_some {s : State} {k : Slot} {mv : Move} (occupied : s.moves[k] = some mv) (reason : Reason) (r : Nat) :
    retire k reason r s = { setSlot k none s with
      play := afterReport s.play ⟨k, mv, reason, r⟩
      link := s.link.queue (Retirement.notice ⟨k, mv, reason, r⟩) } := by
  have rest (firing : Nat) (t : State) : reportRetirement firing r t = { t with play := (reportRetirement firing r t).play } :=
    (congrArg (fun u : State => { u with play := (reportRetirement firing r t).play }) (reportRetirement_rest firing r t))
  unfold retire
  rw [occupied]
  simp only
  split
  · rename_i firing number origin
    split
    · rename_i finite
      rw [rest, reportRetirement_after (r := ⟨k, mv, reason, r⟩) origin finite]
      rfl
    · rename_i endless
      rw [afterReport_endless (by simpa using endless)]
      rfl
  · rename_i origin
    have other : afterReport s.play ⟨k, mv, reason, r⟩ = s.play := by
      unfold afterReport
      split
      · exact absurd ‹_› (origin _ _)
      · rfl
    rw [other]
    rfl

theorem retire_none {s : State} {k : Slot} (free : s.moves[k] = none) (reason : Reason) (r : Nat) : retire k reason r s = s := by
  unfold retire
  rw [free]

/-! ## Retirements one after another -/

/-- From s to w the moves of a list of retirements leave their slots and nothing else happens to the slots, the
playback timers and the link. -/
structure Retires (rs : List Retirement) (s w : State) : Prop extends Reports rs s w where
  moves : ∀ j : Slot, w.moves[j] = if j ∈ rs.map Retirement.slot then none else s.moves[j]
  clock : w.clock = s.clock

theorem queueAll_append (ns ms : List Notice) (k : Link) : queueAll (ns ++ ms) k = queueAll ms (queueAll ns k) :=
  List.foldl_append

namespace Retires

theorem refl (s : State) : Retires [] s s := ⟨⟨rfl, rfl⟩, fun _ => rfl, rfl⟩

theorem trans {rs rs' : List Retirement} {a b c : State} (h : Retires rs a b) (h' : Retires rs' b c) :
    Retires (rs ++ rs') a c where
  play := by rw [h'.play, h.play, List.foldl_append]
  link := by rw [h'.link, h.link, List.map_append, queueAll_append]
  moves j := by
    rw [h'.moves, h.moves, List.map_append]
    simp only [List.mem_append]
    split
    · rename_i mem
      rw [if_pos (.inr mem)]
    · rename_i other
      simp only [other, or_false]
  clock := h'.clock.trans h.clock

theorem of_retire {s : State} {k : Slot} {mv : Move} (occupied : s.moves[k] = some mv) (reason : Reason) (r : Nat) :
    Retires [⟨k, mv, reason, r⟩] s (retire k reason r s) := by
  rw [retire_some occupied]
  refine ⟨⟨rfl, rfl⟩, fun j => ?_, rfl⟩
  show (setSlot k none s).moves[j] = _
  rw [getSlot_setSlot]
  simp [eq_comm]

/-- Steps over the slots of a list, each of which retires its own slot's move or nothing. -/
theorem sweep {step : State → Slot → State} {made : Slot → Option Retirement} {s : State}
    (own : ∀ j, ∀ r ∈ made j, r.slot = j)
    (one : ∀ (t : State) (j : Slot), t.moves[j] = s.moves[j] → t.clock = s.clock → Retires (made j).toList t (step t j)) :
    ∀ {l : List Slot} {t : State}, l.Nodup → (∀ j ∈ l, t.moves[j] = s.moves[j]) → t.clock = s.clock →
      Retires (l.filterMap made) t (l.foldl step t)
  | [], t, _, _, _ => refl t
  | j :: l, t, nodup, same, clock => by
    obtain ⟨fresh, nodup⟩ := List.nodup_cons.mp nodup
    have first := one t j (same j List.mem_cons_self) clock
    have others : ∀ i ∈ l, (step t j).moves[i] = s.moves[i] := fun i mem => by
      rw [first.moves, if_neg, same i (List.mem_cons_of_mem _ mem)]
      intro named
      obtain ⟨r, hr, slot⟩ := List.mem_map.mp named
      have : i = j := slot ▸ own j r (Option.mem_toList.mp hr)
      exact fresh (this ▸ mem)
    have rest := sweep own one (l := l) nodup others (first.clock.trans clock)
    have whole : (j :: l).filterMap made = (made j).toList ++ l.filterMap made := by
      rw [List.filterMap_cons]
      cases made j <;> rfl
    rw [whole]
    exact first.trans rest

end Retires

/-! ## Two lists of retirements that say the same -/

/-- What the notice and the report of a retirement say of it. -/
def said (r : Retirement) : Slot × MoveKind × Origin × Bool × Nat × Reason × Nat :=
  (r.slot, r.move.kind, r.move.origin, r.move.cycle, r.move.count, r.reason, r.instant)

theorem notice_of_said {a b : Retirement} (h : said a = said b) : a.notice = b.notice := by
  simp only [said, Prod.mk.injEq] at h
  obtain ⟨slot, kind, origin, -, -, reason, -⟩ := h
  unfold Retirement.notice
  rw [slot, kind, origin, reason]

theorem afterReport_of_said {a b : Retirement} (h : said a = said b) (p : Playback) : afterReport p a = afterReport p b := by
  simp only [said, Prod.mk.injEq] at h
  obtain ⟨-, kind, origin, cycle, count, -, instant⟩ := h
  unfold afterReport
  rw [kind, origin, cycle, count, instant]

theorem reports_of_said {rs rs' : List Retirement} (h : rs.map said = rs'.map said) (p : Playback) (k : Link) :
    rs.foldl afterReport p = rs'.foldl afterReport p
      ∧ queueAll (rs.map Retirement.notice) k = queueAll (rs'.map Retirement.notice) k := by
  have same : List.Forall₂ (fun a b => said a = said b) rs rs' := by
    rwa [← List.forall₂_eq_eq_eq, List.forall₂_map_left_iff, List.forall₂_map_right_iff] at h
  clear h
  induction same generalizing p k with
  | nil => exact ⟨rfl, rfl⟩
  | cons head _ ih =>
    obtain ⟨play, link⟩ := ih (afterReport p _) (k.queue (Retirement.notice _))
    refine ⟨?_, ?_⟩
    · rw [List.foldl_cons, play, afterReport_of_said head, List.foldl_cons]
    · rw [List.map_cons, List.map_cons, ← notice_of_said head]
      exact link

theorem Reports.of_said {rs rs' : List Retirement} {s w : State} (h : Reports rs s w) (same : rs.map said = rs'.map said) :
    Reports rs' s w := by
  obtain ⟨play, link⟩ := reports_of_said same s.play s.link
  exact ⟨h.play.trans play, h.link.trans link⟩

theorem map_said_filterMap {l : List Slot} {f g : Slot → Option Retirement}
    (h : ∀ j, (f j).map said = (g j).map said) : (l.filterMap f).map said = (l.filterMap g).map said := by
  rw [List.map_filterMap, List.map_filterMap]
  exact congrArg (List.filterMap · l) (funext h)

/-! ## Slots left without a claim (R48, step 4) -/

/-- The retirement of a slot of a list whose move is left without a claim. -/
def emptiedOf (ks : List Slot) (s : State) (j : Slot) : Option Retirement :=
  if j ∈ ks ∧ isEmptied j s = true then s.moves[j].map fun mv => ⟨j, mv, .superseded, s.clock.showTime⟩ else none

theorem retireEmptied_retires (ks : List Slot) (s : State) :
    Retires ((allFin 48).filterMap (emptiedOf ks s)) s (retireEmptied ks s) := by
  refine Retires.sweep (fun j r hr => ?_) (fun t j move clock => ?_) (List.nodup_finRange 48) (fun _ _ => rfl) rfl
  · unfold emptiedOf at hr
    split at hr
    · obtain ⟨mv, -, rfl⟩ := Option.map_eq_some_iff.mp hr
      rfl
    · cases hr
  · have emptied : isEmptied j t = isEmptied j s := by unfold isEmptied; rw [move]
    unfold emptiedOf
    rw [emptied, clock, ← move]
    split
    · rename_i cond
      cases occupied : t.moves[j] with
      | none =>
        rw [retire_none occupied]
        exact .refl t
      | some mv => exact .of_retire occupied _ _
    · exact .refl t

theorem isEmptied_iff (k : Slot) (s : State) : isEmptied k s = true ↔ ∃ mv, s.moves[k] = some mv ∧ mv.claims = 0 := by
  unfold isEmptied
  cases s.moves[k] <;> simp

theorem getSlot_retireEmptied (ks : List Slot) (s : State) (j : Slot) :
    (retireEmptied ks s).moves[j] = if j ∈ ks ∧ isEmptied j s = true then none else s.moves[j] := by
  rw [(retireEmptied_retires ks s).moves]
  refine if_congr ⟨fun mem => ?_, fun cond => ?_⟩ rfl rfl
  · obtain ⟨r, hr, rfl⟩ := List.mem_map.mp mem
    obtain ⟨i, -, made⟩ := List.mem_filterMap.mp hr
    unfold emptiedOf at made
    split at made
    · obtain ⟨mv, -, rfl⟩ := Option.map_eq_some_iff.mp made
      assumption
    · cases made
  · obtain ⟨mv, occupied, -⟩ := (isEmptied_iff j s).mp cond.2
    refine List.mem_map.mpr ⟨⟨j, mv, .superseded, s.clock.showTime⟩, List.mem_filterMap.mpr ⟨j, List.mem_finRange j, ?_⟩, rfl⟩
    rw [emptiedOf, if_pos cond, occupied]
    rfl

/-- The moves that go when claims are dropped from s to t and the emptied ones retire, as the moves that s holds and
the end does not. -/
theorem retireEmptied_gone {ks : List Slot} {s t : State} (play : t.play = s.play) (link : t.link = s.link)
    (clock : t.clock = s.clock) (dropped : ∀ j : Slot, ∃ n, t.moves[j] = s.moves[j].map fun mv => { mv with claims := mv.claims - n }) :
    Reports (goneWith .superseded s (retireEmptied ks t)) s (retireEmptied ks t) := by
  have reports := (retireEmptied_retires ks t).toReports
  refine Reports.of_said (rs := (allFin 48).filterMap (emptiedOf ks t)) ⟨?_, ?_⟩ (map_said_filterMap fun j => ?_)
  · rw [← play]; exact reports.play
  · rw [← link]; exact reports.link
  · obtain ⟨n, drop⟩ := dropped j
    rw [getSlot_retireEmptied, emptiedOf]
    by_cases cond : j ∈ ks ∧ isEmptied j t = true
    · rw [if_pos cond, if_pos cond, drop, clock]
      cases s.moves[j] <;> rfl
    · rw [if_neg cond, if_neg cond, drop]
      cases s.moves[j] <;> rfl

/-! ## Removing claims (R48) -/

/-- How many channels of a list claim a slot. -/
def claimsIn (s : State) (cs : List Chan) (k : Slot) : Nat := (cs.filter fun c => claimIs k s.chans[c].claim).length

/-- From s to t the claims on the channels of a list are dropped: B becomes V and the counts fall. -/
structure Unclaims (cs : List Chan) (s t : State) : Prop where
  chans : ∀ d : Chan, t.chans[d] =
    if d ∈ cs then { s.chans[d] with base := liveLevel s d, claim := none } else s.chans[d]
  moves : ∀ k : Slot, t.moves[k] = s.moves[k].map fun mv => { mv with claims := mv.claims - claimsIn s cs k }
  rest : { t with chans := s.chans, moves := s.moves } = s

theorem updMove_rest (k : Slot) (f : Move → Move) (s : State) : { updMove k f s with moves := s.moves } = s := by
  unfold updMove
  split <;> rfl

/-- One channel. -/
theorem unclaimChan_unclaims (c : Chan) (s : State) : Unclaims [c] s (unclaimChan c s) := by
  unfold unclaimChan
  cases claim : s.chans[c].claim with
  | none =>
    have count (k : Slot) : claimsIn s [c] k = 0 := by simp [claimsIn, claimIs, -Fin.getElem_fin, claim]
    show Unclaims [c] s s
    refine ⟨fun d => ?_, fun k => ?_, rfl⟩
    · by_cases e : d = c
      · subst e
        rw [if_pos List.mem_cons_self, LevelScale.liveLevel_of_unclaimed claim, ← claim]
      · rw [if_neg (by simpa using e)]
    · rw [count]
      cases s.moves[k] <;> rfl
  | some cl =>
    have count (k : Slot) : claimsIn s [c] k = if cl.slot = k then 1 else 0 := by
      by_cases e : cl.slot = k <;> simp [claimsIn, claimIs, -Fin.getElem_fin, claim, e]
    simp only [dropClaim]
    refine ⟨fun d => ?_, fun k => ?_, ?_⟩
    · have chans : (updMove cl.slot (fun mv => { mv with claims := mv.claims - 1 })
          (updChan c (fun ch => { ch with base := liveLevel s c, claim := none }) s)).chans =
          (updChan c (fun ch => { ch with base := liveLevel s c, claim := none }) s).chans :=
        (congrArg State.chans (updMove_rest _ _ _) :)
      rw [chans, getChan_updChan]
      by_cases e : c = d
      · subst e
        simp
      · simp [e, Ne.symm e]
    · rw [getSlot_updMove, count]
      show (if cl.slot = k then s.moves[k].map _ else s.moves[k]) = _
      by_cases e : cl.slot = k
      · rw [if_pos e, if_pos e]
      · rw [if_neg e, if_neg e]
        cases s.moves[k] <;> rfl
    · exact (congrArg (fun u : State => { u with chans := s.chans }) (updMove_rest _ _ _) :)

namespace Unclaims

variable {cs : List Chan} {s t : State}

theorem sameLanes (h : Unclaims cs s t) : SameLanes s t :=
  ⟨(congrArg State.clock h.rest :), (congrArg State.taperA h.rest :), (congrArg State.taperB h.rest :)⟩

theorem timings (h : Unclaims cs s t) (k : Slot) : t.moves[k].map timing = s.moves[k].map timing := by
  rw [h.moves]
  cases s.moves[k] <;> rfl

theorem unnamed (h : Unclaims cs s t) {d : Chan} (other : d ∉ cs) : t.chans[d] = s.chans[d] := by
  rw [h.chans, if_neg other]

theorem live (h : Unclaims cs s t) {d : Chan} (other : d ∉ cs) : liveLevel t d = liveLevel s d :=
  liveLevel_congr h.sameLanes (by rw [h.unnamed other]) (by rw [h.unnamed other]) (by rw [h.unnamed other])
    fun cl _ => h.timings cl.slot

/-- Channel after channel. -/
theorem append {c : Chan} {u : State} (h : Unclaims [c] s t) (fresh : c ∉ cs) (h' : Unclaims cs t u) :
    Unclaims (c :: cs) s u where
  chans d := by
    rw [h'.chans]
    by_cases e : d = c
    · subst e
      rw [if_neg fresh, h.chans]
      simp
    · have other : d ∉ [c] := by simpa using e
      rw [h.unnamed other, h.live other]
      simp [e]
  moves k := by
    have later : claimsIn t cs k = claimsIn s cs k := by
      unfold claimsIn
      refine congrArg List.length (List.filter_congr fun d mem => ?_)
      rw [h.unnamed (fun named => fresh (List.mem_singleton.mp named ▸ mem))]
    have whole : claimsIn s (c :: cs) k = claimsIn s [c] k + claimsIn s cs k := by
      unfold claimsIn
      rw [← List.length_append, ← List.filter_append]
      rfl
    rw [h'.moves, h.moves, later, whole, Option.map_map]
    refine congrArg (Option.map · s.moves[k]) (funext fun mv => ?_)
    simp [Nat.sub_sub]
  rest := (congrArg (fun v : State => { v with chans := s.chans, moves := s.moves }) h'.rest).trans h.rest

end Unclaims

theorem unclaimChans_unclaims : ∀ {cs : List Chan} (_ : cs.Nodup) (s : State),
    Unclaims cs s (cs.foldl (fun s c => unclaimChan c s) s)
  | [], _, s => ⟨fun _ => rfl, fun k => show s.moves[k] = _ by cases s.moves[k] <;> rfl, rfl⟩
  | c :: cs, nodup, s => by
    obtain ⟨fresh, nodup⟩ := List.nodup_cons.mp nodup
    exact (unclaimChan_unclaims c s).append fresh (unclaimChans_unclaims nodup (unclaimChan c s))

theorem mem_claimants (s : State) (cs : List Chan) (k : Slot) : k ∈ claimants s cs ↔ claimsIn s cs k ≠ 0 := by
  unfold claimants claimsIn
  rw [← Nat.pos_iff_ne_zero, List.length_filter_pos_iff, List.mem_filterMap]
  refine exists_congr fun c => and_congr_right fun _ => ?_
  rw [ClaimCount.claimIs_iff]

/-- What the removal of the claims on channels leaves in the slots (R48). -/
theorem getSlot_removal {cs : List Chan} {s t : State} (h : Unclaims cs s t) (k : Slot) :
    (retireEmptied (claimants s cs) t).moves[k] = afterRemoval s cs k := by
  rw [getSlot_retireEmptied, h.moves]
  unfold afterRemoval
  rw [← claimsIn]
  cases occupied : s.moves[k] with
  | none => simp
  | some mv =>
    have emptied : isEmptied k t = decide (mv.claims ≤ claimsIn s cs k) := by
      unfold isEmptied
      rw [h.moves, occupied]
      exact Bool.eq_iff_iff.mpr (by simp [Nat.sub_eq_zero_iff_le])
    simp only [mem_claimants, emptied, decide_eq_true_eq, Option.map_some]
    by_cases none : claimsIn s cs k = 0
    · simp [none]
    · simp only [none, ne_eq, not_false_eq_true, true_and, if_false]

/-- What the removal of every claim on the channels of a list leaves behind (R48). -/
structure Removes (cs : List Chan) (s w : State) : Prop where
  chans : ∀ d : Chan, w.chans[d] =
    if d ∈ cs then { s.chans[d] with base := liveLevel s d, claim := none } else s.chans[d]
  moves : ∀ k : Slot, w.moves[k] = afterRemoval s cs k
  groups : w.groups = s.groups
  reports : Reports (goneWith .superseded s w) s w

theorem retireEmptied_groups (ks : List Slot) (s : State) : (retireEmptied ks s).groups = s.groups :=
  List.foldlRecOn (motive := fun t : State => t.groups = s.groups) _ _ rfl fun t ht k _ => by
    split
    · cases occupied : t.moves[k] with
      | none => rw [retire_none occupied, ht]
      | some mv => rw [retire_some occupied]; exact ht
    · exact ht

theorem removeClaims_removes {cs : List Chan} (nodup : cs.Nodup) (s : State) : Removes cs s (removeClaims cs s) := by
  have dropped := unclaimChans_unclaims nodup s
  refine ⟨fun d => ?_, fun k => ?_, ?_, ?_⟩
  · have stand : (removeClaims cs s).chans = (cs.foldl (fun s c => unclaimChan c s) s).chans := WholeUnits.retireEmptied_chans _ _
    rw [stand, dropped.chans]
  · exact getSlot_removal dropped k
  · exact (retireEmptied_groups _ _).trans (congrArg State.groups dropped.rest :)
  · exact retireEmptied_gone (congrArg State.play dropped.rest :) (congrArg State.link dropped.rest :)
      dropped.sameLanes.clock fun j => ⟨_, dropped.moves j⟩

end Sys2Proof.Removal
end

section
/-! The requests that remove claims: O12, O13, O15, O16. -/

namespace Sys2Proof.ClaimRequests

open Sys2Proof Sys2Proof.Machine Sys2Proof.Codec Sys2Proof.Settings Sys2Proof.Removal

/-! ## What a change of channel records leaves of a removal -/

theorem OnlyChans.moves {s t : State} (h : OnlyChans s t) : t.moves = s.moves := (congrArg State.moves h.rest :)

theorem goneWith_congr {reason : Reason} {s s' w w' : State} (before : s'.moves = s.moves) (clock : s'.clock = s.clock)
    (after : w'.moves = w.moves) : goneWith reason s' w' = goneWith reason s w := by
  unfold goneWith
  rw [before, clock, after]

/-- A removal between two changes of channel records reports what it would report alone. -/
theorem Removes.reports_between {cs : List Chan} {s t u w : State} (h : Removes cs t u) (before : OnlyChans s t)
    (after : OnlyChans u w) : Reports (goneWith .superseded s w) s w := by
  rw [goneWith_congr (s := t) (w := u) (OnlyChans.moves before).symm (congrArg State.clock before.rest.symm :)
    (OnlyChans.moves after)]
  have play : t.play = s.play := (congrArg State.play before.rest :)
  have link : t.link = s.link := (congrArg State.link before.rest :)
  exact ⟨(congrArg State.play after.rest :).trans (h.reports.play.trans (by rw [play])),
    (congrArg State.link after.rest :).trans (h.reports.link.trans (by rw [link]))⟩

theorem afterRemoval_congr {s t : State} {cs : List Chan} (moves : t.moves = s.moves)
    (claims : ∀ c ∈ cs, t.chans[c].claim = s.chans[c].claim) (k : Slot) : afterRemoval t cs k = afterRemoval s cs k := by
  have count : (cs.filter fun c => claimIs k t.chans[c].claim) = cs.filter fun c => claimIs k s.chans[c].claim :=
    List.filter_congr fun c mem => by rw [claims c mem]
  unfold afterRemoval
  rw [moves, count]

/-! ## LEVEL SET (R36) -/

theorem isHeld_iff (s : State) (c : Chan) : isHeld s c = true ↔ Held s c := by
  unfold isHeld Held
  simp

theorem any_isHeld (s : State) (c : Chan) : (unitChans s c).any (isHeld s) = true ↔ ∃ d ∈ unitChans s c, Held s d := by
  simp only [List.any_eq_true, isHeld_iff]

/-- Settles O13: the unit's claims go, then B and the cue level are written. -/
theorem levelSet : Obligations.LevelSet := by
  intro tag s c l0 l1 idle
  have served : serve ⟨0x12, tag, u8 c.val ++ [l0, l1]⟩ (received s) =
      if (unitChans s c).any (isHeld s) then refuse .collision (received s)
      else accept (flag (decide (clampLevel (les16 l0 l1) ≠ les16 l0 l1)) ++ u8 c.val ++ s16 (clampLevel (les16 l0 l1)))
        (settle (setLevel c (clampLevel (les16 l0 l1)) (received s))) := by
    show reqLevelSet [BitVec.ofNat 8 c.val, l0, l1] (received s) = _
    unfold reqLevelSet
    simp only [asChan_ofNat]
    rfl
  refine ⟨fun held => exec_idle rfl idle (by simp [u8]) (served.trans (if_pos ((any_isHeld s c).mpr held))), fun free => ?_⟩
  have removed := removeClaims_removes (WholeUnits.unitChans_nodup s c) (received s)
  have level : clampLevel (les16 l0 l1) = max (-3072) (min 320 (les16 l0 l1)) := rfl
  have read (d : Chan) := WholeUnits.getChan_updChans
    (fun ch : Channel => { ch with base := clampLevel (les16 l0 l1), cueLevel := clampLevel (les16 l0 l1) }) d
    (WholeUnits.unitChans_nodup s c) (removeClaims (unitChans s c) (received s))
  have written := OnlyChans.updChans
    (fun ch : Channel => { ch with base := clampLevel (les16 l0 l1), cueLevel := clampLevel (les16 l0 l1) })
    (unitChans s c) (removeClaims (unitChans s c) (received s))
  refine ⟨setLevel c (clampLevel (les16 l0 l1)) (received s), ?_, fun d mem => ?_, fun d other => ?_, fun k => ?_, ?_, ?_, ?_⟩
  · refine exec_idle rfl idle (by simp [u8]) (served.trans (if_neg fun held => ?_))
    obtain ⟨d, mem, holds⟩ := (any_isHeld s c).mp held
    exact free d mem holds
  · refine (read d).trans ?_
    rw [if_pos mem, removed.chans, if_pos mem]
    rfl
  · refine (read d).trans ?_
    rw [if_neg other, removed.chans, if_neg other]
    rfl
  · exact (congrArg (·[k]) (OnlyChans.moves written)).trans (removed.moves k)
  · exact written.groups.trans removed.groups
  · exact Removes.reports_between (s := received s) removed ⟨rfl⟩ written
  · exact setLevel_show c _ _

/-! ## CHANNEL CONFIG and PAIR LINK: settings written, then SAFE's removals (R29, R34, R40) -/

/-- What a change of channel settings leaves, with the ramp's response and the removal of the claims on the channels
of a list. -/
structure Rewrites (f : Chan → Channel) (gone : List Chan) (s w : State) : Prop where
  chans : ∀ d : Chan, w.chans[d] = { f d with
    atten := rampAfter s w d
    base := if d ∈ gone then unclaimedThrough s (f d).taper d s.chans[d].claim else s.chans[d].base
    claim := if d ∈ gone then none else s.chans[d].claim }
  moves : ∀ k : Slot, w.moves[k] = afterRemoval s gone k
  groups : w.groups = s.groups
  reports : Reports (goneWith .superseded s w) s w
  keeps : KeepsShow { s with chans := w.chans } w

/-- The channels whose SAFE turned on over a claim of CUE or BACK origin, told from the settings before and after. -/
theorem newlySafe_eq {s t : State} {cs : List Chan} {safe : Chan → Bool} (only : OnlyChans s t)
    (claim : ∀ d ∈ cs, t.chans[d].claim = s.chans[d].claim) (after : ∀ d ∈ cs, t.chans[d].safe = safe d) :
    newlySafe s t cs = cs.filter fun d => safe d && !s.chans[d].safe && claimedByShow s d := by
  unfold newlySafe
  refine List.filter_congr fun d mem => ?_
  have same : claimedByShow t d = claimedByShow s d := by
    unfold claimedByShow
    rw [claim d mem, OnlyChans.moves only]
  rw [after d mem, same, Bool.and_comm (!s.chans[d].safe)]

theorem keepsShow_rebased {s t w : State} (only : OnlyChans s t) (h : KeepsShow t w) : KeepsShow { s with chans := w.chans } w := by
  obtain ⟨⟨-, pairLinked, sets, taperA, taperB, lanes, stop, wallTime, divisor, weight, rising, backTime, pending, link⟩,
    clock, surf, plan⟩ := h
  have rest {α : Type} (field : State → α) (reads : field { t with chans := s.chans } = field t) : field t = field s :=
    reads.symm.trans (congrArg field only.rest)
  rw [rest (·.pairLinked) rfl] at pairLinked
  rw [rest (·.sets) rfl] at sets
  rw [rest (·.taperA) rfl] at taperA
  rw [rest (·.taperB) rfl] at taperB
  rw [rest (·.lanes) rfl] at lanes
  rw [rest (·.stop) rfl] at stop
  rw [rest (·.clock) rfl] at wallTime divisor weight rising clock
  rw [rest (·.play) rfl] at backTime plan
  rw [rest (·.pending) rfl] at pending
  rw [rest (·.link) rfl] at link
  rw [rest (·.surf) rfl] at surf
  exact ⟨⟨fun _ => rfl, pairLinked, sets, taperA, taperB, lanes, stop, wallTime, divisor, weight, rising, backTime, pending,
    link⟩, clock, surf, plan⟩

/-- Settings are written, m responds, and the claims on a list of channels go. -/
theorem rewrites_removeClaims {s t : State} {f : Chan → Channel} {gone : List Chan} (only : OnlyChans s t)
    (read : ∀ d : Chan, t.chans[d] = f d) (atten : ∀ d, (f d).atten = s.chans[d].atten) (base : ∀ d, (f d).base = s.chans[d].base)
    (claim : ∀ d, (f d).claim = s.chans[d].claim) (nodup : gone.Nodup) :
    Rewrites f gone s (removeClaims gone (resnap s t)) := by
  have removed := removeClaims_removes nodup (resnap s t)
  have snapped := only.trans (OnlyChans.resnap s t)
  have chan (d : Chan) : (resnap s t).chans[d] = { f d with atten := rampAfter s (resnap s t) d } := by
    rw [getChan_resnap_after (by rw [read, atten]), read]
  have ramp (d : Chan) : SameRamp (resnap s t) (removeClaims gone (resnap s t)) d := by
    have chan := removed.chans d
    refine ⟨?_, ?_, ?_, ?_, fun g => by rw [removed.groups], (removeClaims_show _ _).stop⟩ <;>
    · rw [chan]
      split <;> rfl
  refine ⟨fun d => ?_, fun k => ?_, ?_, ?_, ?_⟩
  · rw [removed.chans, (ramp d).after]
    split
    · have live : liveLevel (resnap s t) d = unclaimedThrough s (f d).taper d s.chans[d].claim := by
        have same : (resnap s t).chans[d].claim = s.chans[d].claim := by rw [chan]; exact claim d
        unfold liveLevel unclaimedThrough
        rw [same]
        cases held : s.chans[d].claim with
        | none =>
          rw [chan]
          exact base d
        | some cl =>
          have lanes : SameLanes s (resnap s t) := ⟨(congrArg State.clock snapped.rest :),
            (congrArg State.taperA snapped.rest :), (congrArg State.taperB snapped.rest :)⟩
          simp only
          rw [lanes.table, claimValue_congr lanes.clock (by rw [OnlyChans.moves snapped]), chan]
          simp only [base]
      rw [live, chan]
    · rw [chan, ← base, ← claim]
  · rw [removed.moves, afterRemoval_congr (OnlyChans.moves snapped) fun c _ => by rw [chan]; exact claim c]
  · exact removed.groups.trans snapped.groups
  · exact Removes.reports_between removed snapped ⟨rfl⟩
  · exact keepsShow_rebased snapped (removeClaims_show _ _)

/-- A channel whose settings stand as they were is as it was, where it loses no claim. -/
theorem Rewrites.unchanged {f : Chan → Channel} {gone : List Chan} {s w : State} (h : Rewrites f gone s w) {d : Chan}
    (same : f d = s.chans[d]) (kept : d ∉ gone) (stop : w.stop = s.stop) : w.chans[d] = s.chans[d] := by
  have read := h.chans d
  rw [if_neg kept, if_neg kept, same] at read
  have ramp : SameRamp s w d := by
    refine ⟨?_, ?_, ?_, ?_, fun g => by rw [h.groups], stop⟩ <;> rw [read]
  rw [read, ramp.unmoved]

/-- The channel records after the attributes of a unit are written. -/
def attributed (c : Chan) (a : Attributes) (s : State) (d : Chan) : Channel :=
  if d ∈ unitChans s c then Channel.withAttributes a s.chans[d] else s.chans[d]

/-- A field that the attributes do not hold. -/
theorem attributed_field {α : Type} (field : Channel → α) (c : Chan) (a : Attributes) (s : State) (d : Chan)
    (kept : field (Channel.withAttributes a s.chans[d]) = field s.chans[d]) : field (attributed c a s d) = field s.chans[d] := by
  unfold attributed
  split
  · exact kept
  · rfl

theorem setAttributes_rewrites (c : Chan) (a : Attributes) (s : State) : Rewrites (attributed c a s)
    ((unitChans s c).filter fun d => a.safe && !s.chans[d].safe && claimedByShow s d) s (setAttributes c a s) := by
  have only := OnlyChans.updChans (Channel.withAttributes a) (unitChans s c) s
  have read (d : Chan) : (updChans (unitChans s c) (Channel.withAttributes a) s).chans[d] = attributed c a s d :=
    WholeUnits.getChan_updChans _ d (WholeUnits.unitChans_nodup s c) s
  have snapped (d : Chan) := getChan_resnap s (updChans (unitChans s c) (Channel.withAttributes a) s) d
  have newly : newlySafe s (resnap s (updChans (unitChans s c) (Channel.withAttributes a) s)) (unitChans s c) =
      (unitChans s c).filter fun d => a.safe && !s.chans[d].safe && claimedByShow s d :=
    newlySafe_eq (only.trans (.resnap _ _))
      (fun d _ => by rw [snapped, read]; exact attributed_field Channel.claim c a s d rfl)
      (fun d mem => by rw [snapped, read, attributed, if_pos mem]; rfl)
  unfold setAttributes
  simp only [newly]
  exact rewrites_removeClaims only read (fun d => attributed_field Channel.atten c a s d rfl)
    (fun d => attributed_field Channel.base c a s d rfl) (fun d => attributed_field Channel.claim c a s d rfl)
    ((WholeUnits.unitChans_nodup s c).filter _)

theorem removeClaims_stop (cs : List Chan) (s : State) : (removeClaims cs s).stop = s.stop := (removeClaims_show cs s).stop

/-- Settles O12: the unit's attributes are written and SAFE turning on removes its claims. -/
theorem channelConfig : Obligations.ChannelConfig := by
  intro tag s c a r idle bound
  have written := setAttributes_rewrites c { a with ramp := min r 250 } (received s)
  refine ⟨setAttributes c { a with ramp := min r 250 } (received s), ?_, fun d other => ?_, fun d mem => ?_, written.moves,
    written.groups, written.reports, written.keeps⟩
  · refine exec_idle rfl idle (by simp [u8, flag, u16]) ?_
    show reqChannelConfig [BitVec.ofNat 8 c.val, BitVec.ofNat 8 a.taper.code, BitVec.ofNat 8 a.mode.code,
      BitVec.ofNat 8 a.policy.code, BitVec.ofNat 8 (if a.safe then 1 else 0), BitVec.ofNat 8 (if a.announce then 1 else 0),
      BitVec.ofNat 8 r, BitVec.ofNat 8 (r / 256)] (received s) = _
    unfold reqChannelConfig parseAttributes
    simp only [asChan_ofNat, taperOf_ofNat, modeOf_ofNat, policyOf_ofNat, asBit_ofNat, le16_ofNat bound]
    rfl
  · refine written.unchanged (if_neg other) (fun gone => other (List.mem_filter.mp gone).1) ?_
    exact written.keeps.stop
  · have own : attributed c { a with ramp := min r 250 } (received s) d =
        Channel.withAttributes { a with ramp := min r 250 } s.chans[d] := if_pos mem
    refine (written.chans d).trans ?_
    rw [own]
    rfl

/-- The channel records after the even channel's shared fields are copied onto the odd one. -/
def copied (k : PairId) (s : State) (d : Chan) : Channel :=
  if oddOf k = d then Channel.copyShared s.chans[evenOf k] s.chans[d] else s.chans[d]

theorem copied_field {α : Type} (field : Channel → α) (k : PairId) (s : State) (d : Chan)
    (kept : field (Channel.copyShared s.chans[evenOf k] s.chans[d]) = field s.chans[d]) :
    field (copied k s d) = field s.chans[d] := by
  unfold copied
  split
  · exact kept
  · rfl

/-- The copy of a pair that is not linked, before the link is set. -/
theorem linkPair_rewrites (k : PairId) (s : State) (unlinked : s.pairLinked[k] = false) : ∃ w, linkPair k s = setLink k true w ∧
    Rewrites (copied k s) ([oddOf k].filter fun d => s.chans[evenOf k].safe && !s.chans[d].safe && claimedByShow s d) s w := by
  have only : OnlyChans s (updChan (oddOf k) (Channel.copyShared s.chans[evenOf k]) s) := ⟨rfl⟩
  have read (d : Chan) : (updChan (oddOf k) (Channel.copyShared s.chans[evenOf k]) s).chans[d] = copied k s d :=
    getChan_updChan _ _ _ _
  have snapped (d : Chan) := getChan_resnap s (updChan (oddOf k) (Channel.copyShared s.chans[evenOf k]) s) d
  have newly : newlySafe s (resnap s (updChan (oddOf k) (Channel.copyShared s.chans[evenOf k]) s)) [oddOf k] =
      [oddOf k].filter fun d => s.chans[evenOf k].safe && !s.chans[d].safe && claimedByShow s d :=
    newlySafe_eq (only.trans (.resnap _ _))
      (fun d _ => by rw [snapped, read]; exact copied_field Channel.claim k s d rfl)
      (fun d mem => by rw [snapped, read, copied, if_pos (List.mem_singleton.mp mem).symm]; rfl)
  unfold linkPair
  rw [if_neg (by rw [unlinked]; decide)]
  simp only [newly]
  exact ⟨_, rfl, rewrites_removeClaims only read (fun d => copied_field Channel.atten k s d rfl)
    (fun d => copied_field Channel.base k s d rfl) (fun d => copied_field Channel.claim k s d rfl)
    ((List.nodup_singleton _).filter _)⟩

/-- Settles O15: the answers in order of the conditions, then the copy and the link. -/
theorem pairLink : Obligations.PairLink := by
  intro tag s k idle
  have served (on : Bool) : serve ⟨0x15, tag, u8 k.val ++ [if on then 1 else 0]⟩ (received s) =
      if s.chans[evenOf k].ownership = .auto ∧ s.chans[oddOf k].ownership = .auto then
        accept (u8 k.val ++ flag (if on then linkPair k (received s) else setLink k false (received s)).pairLinked[k])
          (settle (if on then linkPair k (received s) else setLink k false (received s)))
      else refuse .collision (received s) := by
    have payload : u8 k.val ++ [if on then 1 else 0] = [BitVec.ofNat 8 k.val, BitVec.ofNat 8 (if on then 1 else 0)] := by
      cases on <;> rfl
    rw [payload]
    show reqPairLink [BitVec.ofNat 8 k.val, BitVec.ofNat 8 (if on then 1 else 0)] (received s) = _
    unfold reqPairLink
    simp only [asPair_ofNat, asBit_ofNat]
    have auto : (!(isAuto (received s) (evenOf k) && isAuto (received s) (oddOf k))) = true ↔
        ¬ (s.chans[evenOf k].ownership = .auto ∧ s.chans[oddOf k].ownership = .auto) := by
      show (!(s.chans[evenOf k].ownership == .auto && s.chans[oddOf k].ownership == .auto)) = true ↔ _
      simp [-Fin.getElem_fin, imp_iff_not_or]
    by_cases both : s.chans[evenOf k].ownership = .auto ∧ s.chans[oddOf k].ownership = .auto
    · rw [if_pos both, if_neg (fun h => auto.mp h both)]
    · rw [if_neg both, if_pos (auto.mpr both)]
  refine ⟨fun busy => ⟨?_, ?_⟩, fun auto => ?_, fun auto linked => ?_, fun auto unlinked => ?_⟩
  · exact exec_idle rfl idle (by simp [u8]) ((served true).trans (if_neg busy))
  · exact exec_idle rfl idle (by simp [u8]) ((served false).trans (if_neg busy))
  · refine exec_idle rfl idle (by simp [u8]) (((served false).trans (if_pos auto)).trans ?_)
    have off : (setLink k false (received s)).pairLinked[k] = false := by rw [getLink_setLink, if_pos rfl]
    rw [if_neg (by decide), off]
    rfl
  · refine exec_idle rfl idle (by simp [u8]) (((served true).trans (if_pos auto)).trans ?_)
    have stands : linkPair k (received s) = received s := if_pos linked
    have on : (received s).pairLinked[k] = true := linked
    rw [if_pos rfl, stands, on]
    rfl
  · obtain ⟨u, linking, written⟩ := linkPair_rewrites k (received s) unlinked
    have on : (setLink k true u).pairLinked[k] = true := by rw [getLink_setLink, if_pos rfl]
    have links : u.pairLinked = s.pairLinked := written.keeps.pairLinked
    have keeps := written.keeps
    refine ⟨setLink k true u, ?_, ?_, fun d other => ?_, ?_, written.moves, written.groups,
      ⟨written.reports.play, written.reports.link⟩, ?_⟩
    · refine exec_idle rfl idle (by simp [u8]) (((served true).trans (if_pos auto)).trans ?_)
      rw [if_pos rfl, linking, on]
      rfl
    · rw [setLink_pairLinked, links]
    · refine written.unchanged (if_neg fun e => other e.symm) (fun gone => ?_) keeps.stop
      exact other (List.mem_singleton.mp (List.mem_filter.mp gone).1)
    · refine (written.chans (oddOf k)).trans ?_
      rw [copied, if_pos rfl]
      rfl
    · exact ⟨⟨fun _ => rfl, rfl, keeps.sets, keeps.taperA, keeps.taperB, keeps.lanes, keeps.stop, keeps.wallTime,
        keeps.divisor, keeps.weight, keeps.rising, keeps.backTime, keeps.pending, keeps.link⟩, keeps.clock, keeps.surf, keeps.plan⟩

end Sys2Proof.ClaimRequests
end

section
/-! The removal of a group's claim, and O16. -/

namespace Sys2Proof.GroupRequests

open Sys2Proof Sys2Proof.Machine Sys2Proof.Codec Sys2Proof.Settings Sys2Proof.Removal Sys2Proof.ClaimRequests

/-! ## Removing a group's claim (R41, R48) -/

/-- What a slot holds after the claim on a group is removed. -/
def afterGroupRemoval (s : State) (g : Grp) (k : Slot) : Option Move :=
  if claimIs k s.groups[g].claim = true then
    match s.moves[k] with
    | some mv => if mv.claims ≤ 1 then none else some { mv with claims := mv.claims - 1 }
    | none => none
  else s.moves[k]

/-- What the removal of a group's claim leaves behind. -/
structure RemovesGroup (g : Grp) (s w : State) : Prop where
  own : w.groups[g] = { s.groups[g] with offset := liveOffset s g, claim := none }
  others : ∀ h : Grp, h ≠ g → w.groups[h] = s.groups[h]
  chans : w.chans = s.chans
  moves : ∀ k : Slot, w.moves[k] = afterGroupRemoval s g k
  reports : Reports (goneWith .superseded s w) s w

/-- Steps 1 to 3 of R48 for a group. -/
structure UnclaimsGroup (g : Grp) (s t : State) : Prop where
  own : t.groups[g] = { s.groups[g] with offset := liveOffset s g, claim := none }
  others : ∀ h : Grp, h ≠ g → t.groups[h] = s.groups[h]
  moves : ∀ k : Slot, t.moves[k] =
    s.moves[k].map fun mv => { mv with claims := mv.claims - if claimIs k s.groups[g].claim then 1 else 0 }
  rest : { t with groups := s.groups, moves := s.moves } = s

theorem unclaimGroup_unclaims (g : Grp) (s : State) : UnclaimsGroup g s (unclaimGroup g s) := by
  unfold unclaimGroup
  cases claim : s.groups[g].claim with
  | none =>
    show UnclaimsGroup g s s
    refine ⟨?_, fun _ _ => rfl, fun k => ?_, rfl⟩
    · rw [LevelScale.liveOffset_of_unclaimed claim, ← claim]
    · rw [claim]
      cases s.moves[k] <;> rfl
  | some cl =>
    simp only [dropClaim]
    have groups : (updMove cl.slot (fun mv => { mv with claims := mv.claims - 1 })
        (updGroup g (fun gr => { gr with offset := liveOffset s g, claim := none }) s)).groups =
        (updGroup g (fun gr => { gr with offset := liveOffset s g, claim := none }) s).groups :=
      (congrArg State.groups (updMove_rest _ _ _) :)
    refine ⟨?_, fun h other => ?_, fun k => ?_, ?_⟩
    · rw [groups, getGroup_updGroup, if_pos rfl]
    · rw [groups, getGroup_updGroup, if_neg (Ne.symm other)]
    · rw [getSlot_updMove, claim]
      show (if cl.slot = k then s.moves[k].map _ else s.moves[k]) = _
      by_cases e : cl.slot = k
      · simp only [e, claimIs, beq_self_eq_true, if_true]
      · simp only [e, claimIs, beq_eq_false_iff_ne.mpr e, Bool.false_eq_true, if_false]
        cases s.moves[k] <;> rfl
    · exact (congrArg (fun u : State => { u with groups := s.groups }) (updMove_rest _ _ _) :)

theorem removeGroupClaim_removes (g : Grp) (s : State) : RemovesGroup g s (removeGroupClaim g s) := by
  have dropped := unclaimGroup_unclaims g s
  have groups : (removeGroupClaim g s).groups = (unclaimGroup g s).groups := retireEmptied_groups _ _
  refine ⟨?_, fun h other => ?_, ?_, fun k => ?_, ?_⟩
  · rw [groups, dropped.own]
  · rw [groups, dropped.others h other]
  · exact (WholeUnits.retireEmptied_chans _ _).trans (congrArg State.chans dropped.rest :)
  · have named : k ∈ (s.groups[g].claim.map (·.slot)).toList ↔ claimIs k s.groups[g].claim = true := by
      rw [ClaimCount.claimIs_iff, Option.mem_toList]
    unfold removeGroupClaim afterGroupRemoval
    rw [getSlot_retireEmptied, dropped.moves]
    simp only [named]
    by_cases claimed : claimIs k s.groups[g].claim = true
    · cases occupied : s.moves[k] with
      | none => simp
      | some mv =>
        have emptied : isEmptied k (unclaimGroup g s) = decide (mv.claims ≤ 1) := by
          unfold isEmptied
          rw [dropped.moves, occupied]
          rw [if_pos claimed]
          exact Bool.eq_iff_iff.mpr (by simp [Nat.sub_eq_zero_iff_le])
        simp only [claimed, emptied, decide_eq_true_eq, true_and, if_true, Option.map_some]
    · simp only [claimed, Bool.false_eq_true, false_and, if_false]
      cases s.moves[k] <;> rfl
  · exact retireEmptied_gone (congrArg State.play dropped.rest :) (congrArg State.link dropped.rest :)
      (congrArg State.clock dropped.rest :) fun j => ⟨_, dropped.moves j⟩

/-! ## GROUP SET (R41) -/

theorem goneWith_self (reason : Reason) (s : State) : goneWith reason s s = [] := by
  unfold goneWith
  refine List.filterMap_eq_nil_iff.mpr fun j _ => ?_
  cases s.moves[j] <;> rfl

/-- What the offset's part of GROUP SET leaves, where it is selected or not. -/
structure SetsOffset (too : Bool) (g : Grp) (level : Int) (s w : State) : Prop where
  own : w.groups[g] = { s.groups[g] with
    offset := if too then level else s.groups[g].offset, claim := if too then none else s.groups[g].claim }
  others : ∀ h : Grp, h ≠ g → w.groups[h] = s.groups[h]
  chans : w.chans = s.chans
  moves : ∀ k : Slot, w.moves[k] = if too then afterGroupRemoval s g k else s.moves[k]
  reports : Reports (goneWith .superseded s w) s w
  keeps : KeepsShow s w

theorem offset_sets (too : Bool) (g : Grp) (level : Int) (s : State) :
    SetsOffset too g level s (if too then setOffset g level s else s) := by
  cases too with
  | false => exact ⟨rfl, fun _ _ => rfl, rfl, fun _ => rfl, by rw [if_neg Bool.false_ne_true, goneWith_self]; exact ⟨rfl, rfl⟩, .refl s⟩
  | true =>
    have removed := removeGroupClaim_removes g s
    have groups : (setOffset g level s).groups = (updGroup g (fun gr => { gr with offset := level }) (removeGroupClaim g s)).groups := rfl
    refine ⟨?_, fun h other => ?_, removed.chans, removed.moves, ⟨removed.reports.play, removed.reports.link⟩,
      setOffset_show g level s⟩
    · show (setOffset g level s).groups[g] = _
      simp only [groups, getGroup_updGroup, if_true, removed.own]
    · show (setOffset g level s).groups[h] = _
      simp only [groups, getGroup_updGroup, if_neg (Ne.symm other), removed.others h other]

/-- A channel whose ramp's inputs are read before a change from another state that has the same. -/
theorem rampAfter_before {s t : State} {c : Chan} (h : SameRamp s t c) (atten : t.chans[c].atten = s.chans[c].atten) (w : State) :
    rampAfter t w c = rampAfter s w c := by
  unfold rampAfter
  rw [h.goal, h.inForce, atten]

/-- What the mute's part of GROUP SET leaves, where it is selected or not. -/
structure SetsMute (too : Bool) (g : Grp) (on : Bool) (s w : State) : Prop where
  own : w.groups[g] = { s.groups[g] with mute := if too then on else s.groups[g].mute }
  others : ∀ h : Grp, h ≠ g → w.groups[h] = s.groups[h]
  chans : ∀ d : Chan, w.chans[d] = { s.chans[d] with atten := rampAfter s w d }
  rest : { w with chans := s.chans, groups := s.groups } = s
  keeps : KeepsShow s w

theorem groupMute_sets (too : Bool) (g : Grp) (on : Bool) (s : State) :
    SetsMute too g on s (if too then setGroupMute g on s else s) := by
  cases too with
  | false =>
    refine ⟨rfl, fun _ _ => rfl, fun d => ?_, rfl, .refl s⟩
    show s.chans[d] = { s.chans[d] with atten := rampAfter s s d }
    rw [SameRamp.unmoved ⟨rfl, rfl, rfl, rfl, fun _ => rfl, rfl⟩]
  | true =>
    have only := OnlyChans.resnap s (updGroup g (fun gr => { gr with mute := on }) s)
    have groups : (setGroupMute g on s).groups = (updGroup g (fun gr => { gr with mute := on }) s).groups := only.groups
    refine ⟨?_, fun h other => ?_, fun d => ?_, ?_, setGroupMute_show g on s⟩
    · show (setGroupMute g on s).groups[g] = _
      simp only [groups, getGroup_updGroup, if_true]
    · show (setGroupMute g on s).groups[h] = _
      simp only [groups, getGroup_updGroup, if_neg (Ne.symm other)]
    · exact getChan_resnap_after rfl
    · exact (congrArg (fun u : State => { u with groups := s.groups }) only.rest :)

/-- What GROUP SET leaves (R41). -/
structure SetsGroup (offsetToo muteToo : Bool) (g : Grp) (level : Int) (on : Bool) (s w : State) : Prop where
  own : w.groups[g] =
    { offset := if offsetToo then level else s.groups[g].offset
      mute := if muteToo then on else s.groups[g].mute
      claim := if offsetToo then none else s.groups[g].claim }
  others : ∀ h : Grp, h ≠ g → w.groups[h] = s.groups[h]
  chans : ∀ d : Chan, w.chans[d] = { s.chans[d] with atten := rampAfter s w d }
  moves : ∀ k : Slot, w.moves[k] = if offsetToo then afterGroupRemoval s g k else s.moves[k]
  reports : Reports (goneWith .superseded s w) s w
  keeps : KeepsShow s w

theorem SetsOffset.thenMute {offsetToo muteToo : Bool} {g : Grp} {level : Int} {on : Bool} {s t w : State}
    (h : SetsOffset offsetToo g level s t) (h' : SetsMute muteToo g on t w) : SetsGroup offsetToo muteToo g level on s w := by
  have moves : w.moves = t.moves := (congrArg State.moves h'.rest :)
  have ramp (d : Chan) : SameRamp s t d := by
    refine ⟨by rw [h.chans], by rw [h.chans], by rw [h.chans], by rw [h.chans], fun i => ?_, h.keeps.stop⟩
    by_cases e : i = g
    · rw [e, h.own]
    · rw [h.others i e]
  refine ⟨?_, fun i other => (h'.others i other).trans (h.others i other), fun d => ?_, fun k => ?_, ?_, h.keeps.trans h'.keeps⟩
  · rw [h'.own, h.own]
  · rw [h'.chans, rampAfter_before (ramp d) (by rw [h.chans]), h.chans]
  · rw [moves]
    exact h.moves k
  · rw [goneWith_congr (s := s) (w := t) rfl rfl moves]
    exact ⟨(congrArg State.play h'.rest :).trans h.reports.play, (congrArg State.link h'.rest :).trans h.reports.link⟩

/-- The state GROUP SET comes to, its selection given as two flags. -/
def groupSetTo (offsetToo muteToo : Bool) (g : Grp) (level : Int) (on : Bool) (s : State) : State :=
  if muteToo then setGroupMute g on (if offsetToo then setOffset g level s else s)
  else if offsetToo then setOffset g level s else s

theorem groupSetTo_sets (offsetToo muteToo : Bool) (g : Grp) (level : Int) (on : Bool) (s : State) :
    SetsGroup offsetToo muteToo g level on s (groupSetTo offsetToo muteToo g level on s) :=
  (offset_sets offsetToo g level s).thenMute (groupMute_sets muteToo g on _)

/-- The members of a group depend on the channels' group sets alone. -/
theorem membersOf_congr {s w : State} (groups : ∀ d : Chan, w.chans[d].groups = s.chans[d].groups) (g : Grp) :
    membersOf w g = membersOf s g := by
  unfold membersOf inGroup
  simp only [groups]

theorem selection_bits (sel : Nat) (few : sel ≤ 3) :
    (BitVec.ofNat 8 sel).getLsbD 0 = decide (sel = 1 ∨ sel = 3) ∧ (BitVec.ofNat 8 sel).getLsbD 1 = decide (sel = 2 ∨ sel = 3) := by
  interval_cases sel <;> decide

/-- Settles O16: the offset and the mute in turn, each where it is selected. -/
theorem groupSet : Obligations.GroupSet := by
  intro tag s g sel o0 o1 on idle bound
  have value : (BitVec.ofNat 8 sel : Byte).toNat = sel := toNat_ofNat bound
  refine ⟨fun large => ?_, fun few => ?_⟩
  · refine exec_idle rfl idle (by simp [u8, flag]) ?_
    show reqGroupSet [BitVec.ofNat 8 g.val, BitVec.ofNat 8 sel, o0, o1, BitVec.ofNat 8 (if on then 1 else 0)] (received s) = _
    unfold reqGroupSet
    simp only [asGrp_ofNat, asBit_ofNat, value, if_pos large]
    rfl
  · obtain ⟨bit0, bit1⟩ := selection_bits sel few
    have served : serve ⟨0x16, tag, u8 g.val ++ u8 sel ++ [o0, o1] ++ flag on⟩ (received s) =
        (settle (groupSetTo (decide (sel = 1 ∨ sel = 3)) (decide (sel = 2 ∨ sel = 3)) g (clampLevel (les16 o0 o1)) on (received s)),
          [0x00] ++ flag (decide ((sel = 1 ∨ sel = 3) ∧ clampLevel (les16 o0 o1) ≠ les16 o0 o1)) ++ groupReport
            (groupSetTo (decide (sel = 1 ∨ sel = 3)) (decide (sel = 2 ∨ sel = 3)) g (clampLevel (les16 o0 o1)) on (received s)) g) := by
      show reqGroupSet [BitVec.ofNat 8 g.val, BitVec.ofNat 8 sel, o0, o1, BitVec.ofNat 8 (if on then 1 else 0)] (received s) = _
      unfold reqGroupSet
      simp only [asGrp_ofNat, asBit_ofNat, value, if_neg (Nat.not_lt.mpr few), bit0, bit1, ← Bool.decide_and]
      rfl
    have done := groupSetTo_sets (decide (sel = 1 ∨ sel = 3)) (decide (sel = 2 ∨ sel = 3)) g (clampLevel (les16 o0 o1)) on (received s)
    generalize groupSetTo (decide (sel = 1 ∨ sel = 3)) (decide (sel = 2 ∨ sel = 3)) g (clampLevel (les16 o0 o1)) on (received s) = w
      at done served
    refine ⟨w, ?_, ?_, done.others, done.chans, fun k => ?_, done.reports, done.keeps⟩
    · have members : membersOf w g = membersOf s g := membersOf_congr (fun d => by rw [done.chans]; rfl) g
      refine exec_idle rfl idle (by simp [u8, flag]) (served.trans ?_)
      unfold groupReport memberReport chanListField
      rw [members]
      simp only [List.append_assoc]
      rfl
    · have own := done.own
      simp only [decide_eq_true_eq] at own
      exact own
    · refine (done.moves k).trans ?_
      unfold afterGroupRemoval
      by_cases too : sel = 1 ∨ sel = 3
      · simp only [too, decide_true, if_true, true_and]
        rfl
      · simp only [too, decide_false, if_false, false_and, Bool.false_eq_true]
        rfl

end Sys2Proof.GroupRequests
end

section
/-! The requests on the Show Clock and the stop: O26, O27, O48. -/

namespace Sys2Proof.ClockStop

open Sys2Proof Sys2Proof.Machine Sys2Proof.Codec Sys2Proof.Settings

/-! ## CLOCK SOURCE, CLOCK RATE, CLOCK LOCATE (R84, R87, R90) -/

theorem wallSince_self (t : Nat) : wallSince t t = 0 := by
  show (t + 4294967296 - t) % 4294967296 = 0
  omega

/-- CLOCK SOURCE as it is served, from what the source's change comes to. -/
theorem serve_clockSource (tag w0 : Byte) (pulse falling : Bool) (s : State) :
    serve ⟨0x28, tag, [if pulse then 0x01 else 0x00, w0] ++ flag falling⟩ s =
      (setSource pulse (max 1 (min w0.toNat 100)) (!falling) s,
        [0x00] ++ flag (decide (max 1 (min w0.toNat 100) ≠ w0.toNat))
          ++ u8 (setSource pulse (max 1 (min w0.toNat 100)) (!falling) s).clock.source.code
          ++ u8 (setSource pulse (max 1 (min w0.toNat 100)) (!falling) s).clock.weight
          ++ u8 (edgeCode (setSource pulse (max 1 (min w0.toNat 100)) (!falling) s).clock.rising)) := by
  have read : asBit (if pulse then 0x01 else 0x00) = some pulse := by cases pulse <;> rfl
  show reqClockSource [if pulse then 0x01 else 0x00, w0, BitVec.ofNat 8 (if falling then 1 else 0)] s = _
  unfold reqClockSource
  simp only [read, asBit_ofNat]
  rfl

theorem noticeIfSource_same {s : State} {before : Source} (same : s.clock.source = before) : noticeIfSource before s = s :=
  if_pos same

theorem noticeIfSource_changed {s : State} {before : Source} (other : s.clock.source ≠ before) :
    noticeIfSource before s =
      { s with link := s.link.queue (.clock .request s.clock.state s.clock.source s.clock.showTime) } := if_neg other

theorem lossAtChange_early {s : State} (early : lossDue s.clock = false) : lossAtChange s = s :=
  if_neg (by rw [early]; exact Bool.false_ne_true)

theorem lossAtChange_due {s : State} (due : lossDue s.clock = true) : lossAtChange s =
    { s with
      clock := { s.clock with lossTimer := none, source := .freewheel }
      link := s.link.queue (.clock .pulseLost s.clock.state .freewheel s.clock.showTime) } := if_pos due

theorem lossDue_iff (k : Clock) : lossDue k = true ↔ ∃ t, k.lossTimer = some t ∧ 4 * k.weight ≤ wallSince k.wallTime t := by
  unfold lossDue
  cases k.lossTimer <;> simp

/-- INTERNAL disarms the timer, so no loss is due after it. -/
theorem setSource_internal (w : Nat) (rising : Bool) (s : State) : setSource false w rising s =
    { s with
      clock := { s.clock with source := .internal, weight := w, rising := rising, lossTimer := none, divCount := 0 }
      link := if s.clock.source = .internal then s.link
        else s.link.queue (.clock .request s.clock.state .internal s.clock.showTime) } := by
  show lossAtChange (noticeIfSource s.clock.source { s with
    clock := { s.clock with source := .internal, weight := w, rising := rising, lossTimer := none, divCount := 0 } }) = _
  by_cases same : s.clock.source = .internal
  · rw [noticeIfSource_same same.symm, lossAtChange_early rfl, if_pos same]
  · rw [noticeIfSource_changed (Ne.symm same), lossAtChange_early rfl, if_neg same]

/-- PULSE asked for while another source is in force: a RUNNING clock arms the timer, which is not due at once. -/
theorem setSource_toPulse (w : Nat) (pos : 0 < w) (rising : Bool) (s : State) (other : s.clock.source ≠ .pulse) :
    setSource true w rising s =
    { s with
      clock := { s.clock with
        source := .pulse, weight := w, rising := rising
        lossTimer := if s.clock.state = .running then some s.clock.wallTime else none }
      link := s.link.queue (.clock .request s.clock.state .pulse s.clock.showTime) } := by
  have clock : Clock.toPulse { s.clock with weight := w, rising := rising } = { s.clock with
      source := .pulse, weight := w, rising := rising
      lossTimer := if s.clock.state = .running then some s.clock.wallTime else none } := if_neg other
  show lossAtChange (noticeIfSource s.clock.source { s with
    clock := Clock.toPulse { s.clock with weight := w, rising := rising } }) = _
  rw [clock, noticeIfSource_changed (Ne.symm other), lossAtChange_early]
  refine Bool.eq_false_iff.mpr fun due => ?_
  obtain ⟨t, armed, late⟩ := (lossDue_iff _).mp due
  dsimp only at armed late
  split at armed
  · cases armed
    rw [wallSince_self] at late
    omega
  · cases armed

/-- PULSE asked for while it is in force: only W and the edge are written, and then a loss that is due. -/
theorem setSource_samePulse (w : Nat) (rising : Bool) (s : State) (same : s.clock.source = .pulse) :
    setSource true w rising s = lossAtChange { s with clock := { s.clock with weight := w, rising := rising } } := by
  have clock : Clock.toPulse { s.clock with weight := w, rising := rising } = { s.clock with weight := w, rising := rising } :=
    if_pos same
  show lossAtChange (noticeIfSource s.clock.source { s with
    clock := Clock.toPulse { s.clock with weight := w, rising := rising } }) = _
  rw [clock]
  exact congrArg lossAtChange (noticeIfSource_same rfl)

theorem le32_u32 {t : Nat} (bound : t < 4294967296) : ∃ b0 b1 b2 b3, u32 t = [b0, b1, b2, b3] ∧ le32 b0 b1 b2 b3 = t :=
  ⟨_, _, _, _, rfl, le32_ofNat bound⟩

/-- CLOCK LOCATE's conditions (R90). -/
theorem canLocate_iff (s : State) : canLocate s = true ↔ (s.clock.state = .stopped ∨ s.clock.state = .held)
    ∧ (∀ (k : Slot) (mv : Move), s.moves[k] = some mv → mv.timeBase = .wallTime)
    ∧ s.play.follow = none ∧ s.play.endWatch = none := by
  have noShow : (slotsWhere Move.isShow s).isEmpty = true ↔
      ∀ (k : Slot) (mv : Move), s.moves[k] = some mv → mv.timeBase = .wallTime := by
    rw [List.isEmpty_iff, List.eq_nil_iff_forall_not_mem]
    simp only [Laws.mem_slotsWhere, not_exists, not_and, Move.isShow]
    refine forall_congr' fun k => forall_congr' fun mv => imp_congr_right fun _ => ?_
    cases mv.timeBase <;> simp
  unfold canLocate
  simp only [Bool.and_eq_true, Bool.or_eq_true, beq_iff_eq, Option.isNone_iff_eq_none, noShow, and_assoc]

/-- Settles O26: each request's change of the clock, and what it reports. -/
theorem clockSettings : Obligations.ClockSettings := by
  intro tag s idle
  refine ⟨fun w0 falling => ?_, fun w0 falling other => ?_, fun w0 falling same => ⟨fun inTime => ?_, fun lost => ?_⟩,
    fun d => ⟨fun listed => ?_, fun unlisted => ?_⟩, fun t bound => ⟨fun free => ?_, fun busy => ?_⟩⟩
  · refine exec_idle rfl idle (by simp [flag, u8]) ((serve_clockSource tag w0 false falling (received s)).trans ?_)
    rw [setSource_internal]
    cases falling <;> rfl
  · refine exec_idle rfl idle (by simp [flag, u8]) ((serve_clockSource tag w0 true falling (received s)).trans ?_)
    rw [setSource_toPulse _ (by omega) _ (received s) other]
    cases falling <;> rfl
  · have early : lossDue { s.clock with weight := max 1 (min w0.toNat 100), rising := !falling } = false :=
      Bool.eq_false_iff.mpr fun due => inTime ((lossDue_iff _).mp due)
    refine exec_idle rfl idle (by simp [flag, u8]) ((serve_clockSource tag w0 true falling (received s)).trans ?_)
    rw [setSource_samePulse _ _ (received s) same, lossAtChange_early early]
    have code : s.clock.source.code = 1 := by rw [same]; rfl
    show (_, [0x00] ++ _ ++ u8 s.clock.source.code ++ _ ++ _) = _
    rw [code]
    cases falling <;> rfl
  · have due : lossDue { s.clock with weight := max 1 (min w0.toNat 100), rising := !falling } = true :=
      (lossDue_iff _).mpr lost
    refine exec_idle rfl idle (by simp [flag, u8]) ((serve_clockSource tag w0 true falling (received s)).trans ?_)
    rw [setSource_samePulse _ _ (received s) same, lossAtChange_due due]
    cases falling <;> rfl
  · refine exec_idle rfl idle (by simp) ?_
    show reqClockRate [d] (received s) = _
    unfold reqClockRate
    simp only
    rw [if_pos (by simpa using listed)]
    have byte : u8 d.toNat = [d] := u8_toNat d
    rw [byte]
    rfl
  · refine exec_idle rfl idle (by simp) ?_
    show reqClockRate [d] (received s) = _
    unfold reqClockRate
    exact if_neg (by simpa using unlisted)
  · refine exec_idle rfl idle (by simp [u32]) ?_
    show reqClockLocate (u32 t) (received s) = _
    obtain ⟨b0, b1, b2, b3, bytes, value⟩ := le32_u32 bound
    rw [bytes]
    unfold reqClockLocate
    simp only [value]
    rw [if_pos ((canLocate_iff (received s)).mpr free), ← bytes]
    rfl
  · refine exec_idle rfl idle (by simp [u32]) ?_
    show reqClockLocate (u32 t) (received s) = _
    obtain ⟨b0, b1, b2, b3, bytes, value⟩ := le32_u32 bound
    rw [bytes]
    unfold reqClockLocate
    exact if_neg fun can => busy ((canLocate_iff _).mp can)

/-! ## CLOCK RUN and CLOCK HOLD (R80, R85, R88) -/

section

variable {u : State}

theorem reqClockRun_running (clear : u.stop.active = false) (runs : u.clock.state = .running) :
    reqClockRun [] u = (u, [0x00] ++ u8 1 ++ u32 u.clock.showTime) := by
  unfold reqClockRun
  simp only [clear, Bool.false_eq_true, if_false, runs, if_true, acceptClock, clockFields]
  rfl

theorem reqClockRun_starts (clear : u.stop.active = false) (other : u.clock.state ≠ .running) :
    reqClockRun [] u = acceptClock (runClock .request u) := by
  unfold reqClockRun
  simp only [clear, Bool.false_eq_true, if_false, other]

/-- At the last show time a clock that enters RUNNING is held at once (R85). -/
theorem runClock_last (cause : ClockCause) (last : u.clock.showTime = 4294967295) :
    runClock cause u = holdClock .saturated (clockNotice cause (updClock (fun k => { k with
      state := .running, divCount := 0, lossTimer := if k.source = .pulse then some k.wallTime else none }) u)) :=
  if_pos ⟨last, .inl rfl⟩

theorem runClock_below (cause : ClockCause) (below : u.clock.showTime ≠ 4294967295) :
    runClock cause u = clockNotice cause (updClock (fun k => { k with
      state := .running, divCount := 0, lossTimer := if k.source = .pulse then some k.wallTime else none }) u) :=
  if_neg fun h => below h.1

theorem reqClockHold_stopped (state : u.clock.state = .stopped) : reqClockHold [] u = refuse .state u := by
  unfold reqClockHold
  simp only [state]

theorem reqClockHold_held (state : u.clock.state = .held) :
    reqClockHold [] u = (u, [0x00] ++ u8 2 ++ u32 u.clock.showTime) := by
  unfold reqClockHold
  simp only [state, acceptClock, clockFields]
  rfl

theorem reqClockHold_goes (state : u.clock.state = .running ∨ u.clock.state = .stepping) :
    reqClockHold [] u = acceptClock (holdClock .request u) := by
  unfold reqClockHold
  rcases state with runs | steps
  · simp only [runs]
  · simp only [steps]

end

/-- Settles O27: the transition each state allows, with its notices. -/
theorem clockRunHold : Obligations.ClockRunHold := by
  intro tag s idle
  refine ⟨fun locked => ?_, fun clear runs => ?_, fun clear other below => ?_, fun clear other last => ?_, fun stopped => ?_,
    fun held => ?_, fun goes => ?_⟩
  · refine exec_idle rfl idle (by simp) ?_
    show reqClockRun [] (received s) = _
    exact if_pos locked
  · exact exec_idle rfl idle (by simp) (reqClockRun_running (u := received s) clear runs)
  · refine exec_idle rfl idle (by simp) ((reqClockRun_starts (u := received s) clear other).trans ?_)
    rw [runClock_below (u := received s) _ below]
    rfl
  · refine exec_idle rfl idle (by simp) ((reqClockRun_starts (u := received s) clear other).trans ?_)
    rw [runClock_last (u := received s) _ last, ← last]
    rfl
  · exact exec_idle rfl idle (by simp) (reqClockHold_stopped (u := received s) stopped)
  · exact exec_idle rfl idle (by simp) (reqClockHold_held (u := received s) held)
  · exact exec_idle rfl idle (by simp) (reqClockHold_goes (u := received s) goes)

/-! ## STOP CLEAR, STOP CONFIG, STOP_IN_RELEASED (R178 to R180) -/

/-- The stop changes and m responds (R10). -/
theorem resnap_updStop (f : StopUnit → StopUnit) (s : State) :
    (resnap s (updStop f s)).stop = f s.stop ∧
    (∀ c : Chan, (resnap s (updStop f s)).chans[c] = { s.chans[c] with atten := rampAfter s (resnap s (updStop f s)) c }) ∧
    { resnap s (updStop f s) with stop := s.stop, chans := s.chans } = s := by
  have only := OnlyChans.resnap s (updStop f s)
  exact ⟨only.stop, fun c => getChan_resnap_after rfl, (congrArg (fun u : State => { u with stop := s.stop }) only.rest :)⟩

/-- Settles O48: the refusal, the clearing, the clamped ramp and the release of the line. -/
theorem stopClearConfig : Obligations.StopClearConfig := by
  refine ⟨fun tag s idle => ⟨fun active line => ?_, fun clear => ?_, fun active released => ?_⟩, fun tag s n idle bound => ?_,
    fun s => ?_⟩
  · refine exec_idle rfl idle (by simp) ?_
    show reqStopClear [] (received s) = _
    refine if_pos ?_
    show (s.stop.active && s.stop.line) = true
    rw [active, line]
    rfl
  · refine exec_idle rfl idle (by simp) ?_
    have idle (u : State) (clear : u.stop.active = false) : reqStopClear [] u = (u, [0x00, 0x00] ++ flag u.stop.line) := by
      unfold reqStopClear
      simp only [clear, Bool.false_and, Bool.false_eq_true, if_false, stopFields]
      rfl
    exact idle (received s) clear
  · obtain ⟨stop, chans, rest⟩ := resnap_updStop (fun k => { k with active := false }) (received s)
    have cleared (u : State) (active : u.stop.active = true) (released : u.stop.line = false) :
        reqStopClear [] u = accept (stopFields (clearStop u)) (clearStop u) := by
      unfold reqStopClear
      simp only [active, released, Bool.and_false, Bool.false_eq_true, if_false, if_true]
    have link : (resnap (received s) (updStop (fun k => { k with active := false }) (received s))).link = (received s).link :=
      (congrArg State.link rest :)
    have clock : (resnap (received s) (updStop (fun k => { k with active := false }) (received s))).clock = s.clock :=
      (congrArg State.clock rest :)
    refine ⟨clearStop (received s), ?_, stop, chans, ?_, ?_⟩
    · refine exec_idle rfl idle (by simp) ((cleared (received s) active released).trans ?_)
      have fields : stopFields (clearStop (received s)) = [0x00, 0x00] := by
        show flag (resnap _ _).stop.active ++ flag (resnap _ _).stop.line = _
        rw [stop, show (received s).stop = s.stop from rfl, released]
        rfl
      rw [fields]
      rfl
    · show (resnap _ _).link.queue (.stop .cleared (resnap _ _).stop.active (resnap _ _).stop.line 0 (resnap _ _).clock.showTime
        (resnap _ _).clock.state) = _
      rw [link, stop, clock, show (received s).stop = s.stop from rfl, released]
    · exact (congrArg (fun u : State => { u with link := s.link }) rest :)
  · obtain ⟨stop, chans, rest⟩ := resnap_updStop (fun k => { k with ramp := min n 1000 }) (received s)
    refine ⟨setStopRamp (min n 1000) (received s), ?_, stop, chans, rest⟩
    refine exec_idle rfl idle (by simp [u16]) ?_
    show reqStopConfig [BitVec.ofNat 8 n, BitVec.ofNat 8 (n / 256)] (received s) = _
    unfold reqStopConfig
    simp only [le16_ofNat bound]
    have fields : stopFields (setStopRamp (min n 1000) (received s)) = flag s.stop.active ++ flag s.stop.line := by
      show flag (resnap _ _).stop.active ++ flag (resnap _ _).stop.line = _
      rw [stop]
      rfl
    rw [fields, ← List.append_assoc]
    rfl
  · have released : releaseStopIn s = { s with
        stop := { s.stop with line := false }
        link := if s.stop.active then
            s.link.queue (.stop .lineReleased true false 0 s.clock.showTime s.clock.state)
          else s.link } := by
      unfold releaseStopIn
      cases active : s.stop.active
      · rfl
      · unfold stopNotice queueNotice
        simp only [updStop_stop, active]
        rfl
    rw [← released]
    rfl

end Sys2Proof.ClockStop
end

section
/-! The soft reset and the output lanes: O45, O46, O49. -/

namespace Sys2Proof.LanesReset

open Sys2Proof Sys2Proof.Machine Sys2Proof.Codec Sys2Proof.Settings

/-! ## RESET (R191) -/

/-- Settles O49: `softReset` block by block. -/
theorem softReset : Obligations.SoftReset := by
  intro tag s idle
  refine ⟨Machine.softReset (received s), exec_idle rfl idle (by simp) rfl, fun c => ?_, fun g => ?_, fun k => ?_, rfl, rfl,
    fun m => ?_, fun i => ?_, rfl, rfl, ?_⟩
  · unfold Machine.softReset
    simp only [Fin.getElem_fin, Vector.getElem_ofFn]
    rfl
  · unfold Machine.softReset
    simp only [Fin.getElem_fin, Vector.getElem_ofFn]
    rfl
  · unfold Machine.softReset
    simp only [Fin.getElem_fin, Vector.getElem_replicate]
  · unfold Machine.softReset Surface.softReset
    simp only [Fin.getElem_fin, Vector.getElem_map]
    rfl
  · unfold Machine.softReset Surface.softReset
    simp only [Fin.getElem_fin, Vector.getElem_map]
    rfl
  · unfold Machine.softReset
    rfl

/-! ## A lane's record (R173) -/

/-- What a change of one lane's record leaves: the record, and a notice where the lane's state changes. -/
structure ChangesLane (id : LaneId) (cause : LaneCause) (after : Lane) (s w : State) : Prop where
  own : laneOf id w.lanes = after
  other : ∀ j : LaneId, j ≠ id → laneOf j w.lanes = laneOf j s.lanes
  settings : w.lanes.settings = s.lanes.settings
  pending : w.lanes.pending = s.lanes.pending
  nextStart : w.lanes.nextStart = s.lanes.nextStart
  rest : { w with lanes := s.lanes, link := s.link } = s
  link : w.link = if after.state = (laneOf id s.lanes).state then s.link
    else s.link.queue (.lane id (laneOf id s.lanes).state after.state cause after.counter after.losses)

theorem laneOf_updLane (id : LaneId) (f : Lane → Lane) (s : State) : laneOf id (updLane id f s).lanes = f (laneOf id s.lanes) := by
  cases id <;> rfl

theorem laneOf_updLane_of_ne {id j : LaneId} (ne : j ≠ id) (f : Lane → Lane) (s : State) :
    laneOf j (updLane id f s).lanes = laneOf j s.lanes :=
  match id, j, ne with
  | .laneA, .laneB, _ => rfl
  | .laneB, .laneA, _ => rfl
  | .laneA, .laneA, ne => absurd rfl ne
  | .laneB, .laneB, ne => absurd rfl ne

theorem changeLane_changes (id : LaneId) (cause : LaneCause) (f : Lane → Lane) (s : State) :
    ChangesLane id cause (f (laneOf id s.lanes)) s (changeLane id cause f s) := by
  have lanes : (changeLane id cause f s).lanes = (updLane id (fun _ => f (laneOf id s.lanes)) s).lanes := by
    unfold changeLane
    dsimp only
    split <;> rfl
  have own := laneOf_updLane id (fun _ => f (laneOf id s.lanes)) s
  have other (j : LaneId) (ne : j ≠ id) := laneOf_updLane_of_ne ne (fun _ => f (laneOf id s.lanes)) s
  rw [← lanes] at own other
  refine ⟨own, other, ?_, ?_, ?_, ?_, ?_⟩
  · rw [lanes]
    cases id <;> rfl
  · rw [lanes]
    cases id <;> rfl
  · rw [lanes]
    cases id <;> rfl
  · unfold changeLane
    dsimp only
    split <;> rfl
  · unfold changeLane
    dsimp only
    split <;> rfl

/-! ## LANE CONFIG, FRAME_COMPLETION and LANE_READY_EDGE (R167, R168, R171) -/

/-- The end of a frame on its lane's record. -/
theorem complete_eq (l : Lane) : l.complete = { l with
    inFlight := none, fallPending := false, sent := (l.sent + 1) % 4294967296
    state := if l.fallPending = true ∧ l.ready = true ∧ l.state = .waiting then .sending else l.state
    counter := if l.fallPending = true ∧ l.ready = true ∧ l.state = .waiting then 0 else l.counter } := by
  unfold Lane.complete
  by_cases back : l.fallPending = true ∧ l.ready = true ∧ l.state = .waiting
  · obtain ⟨fell, ready, waits⟩ := back
    simp [fell, ready, waits, Lane.startSending]
  · have cond : ¬ (l.fallPending && l.ready && l.state == .waiting) = true := by simpa [and_assoc] using back
    simp only [if_neg cond, if_neg back]

/-- An edge of LANE READY on its lane's record. -/
def Lane.edge (rising : Bool) (l : Lane) : Lane := if rising then l.rise else l.fall

theorem edge_eq (rising : Bool) (l : Lane) : Lane.edge rising l = { l with
    ready := rising
    state := if rising = true ∧ l.state = .waiting ∧ l.inFlight = none then .sending
      else if rising = false ∧ l.state = .sending then .waiting else l.state
    counter := if rising = true ∧ l.state = .waiting ∧ l.inFlight = none then 0 else l.counter
    losses := if rising = false ∧ l.state = .sending then min (l.losses + 1) 65535 else l.losses
    fallPending := if (rising = false ∧ l.state = .sending) ∧ l.inFlight ≠ none then true else l.fallPending } := by
  unfold Lane.edge
  cases rising with
  | true =>
    unfold Lane.rise
    by_cases starts : l.state = .waiting ∧ l.inFlight = none
    · obtain ⟨waits, clear⟩ := starts
      simp [waits, clear, Lane.startSending]
    · simp [starts]
  | false =>
    unfold Lane.fall
    by_cases sends : l.state = .sending
    · simp [sends, bump, Config.count16, Option.isSome_iff_ne_none]
    · simp [sends]

theorem readyEdge_changes (id : LaneId) (rising : Bool) (s : State) :
    ChangesLane id (if rising then .readyRise else .readyFall) (Lane.edge rising (laneOf id s.lanes)) s (readyEdge id rising s) := by
  cases rising
  · exact changeLane_changes id .readyFall Lane.fall s
  · exact changeLane_changes id .readyRise Lane.rise s

/-- Settles O45: the records after each input, then what they say of the notice. -/
theorem laneInputs : Obligations.LaneInputs := by
  refine ⟨fun tag s a idle small short => ?_, fun s id clear => ?_, fun s id flies => ?_, fun s id rising => ?_⟩
  · have partition : (BitVec.ofNat 8 a.partition : Byte).toNat = a.partition := toNat_ofNat small
    have period : (BitVec.ofNat 8 a.period : Byte).toNat = a.period := toNat_ofNat short
    have served (u : State) : serve ⟨0x48, tag, flag a.splitMode ++ u8 a.partition ++ u8 a.period ++ flag a.enableA
        ++ flag a.enableB⟩ u =
        if (a.period = 1 ∨ a.period = 2 ∨ a.period = 4) ∧ 8 ≤ a.partition ∧ a.partition ≤ 56 ∧ a.partition % 8 = 0 then
          accept (laneSettingsField a) (updLanes (fun l => { l with pending := some a }) u)
        else refuse .badValue u := by
      show reqLaneConfig [BitVec.ofNat 8 (if a.splitMode then 1 else 0), BitVec.ofNat 8 a.partition, BitVec.ofNat 8 a.period,
        BitVec.ofNat 8 (if a.enableA then 1 else 0), BitVec.ofNat 8 (if a.enableB then 1 else 0)] u = _
      unfold reqLaneConfig parseLaneSettings
      simp only [asBit_ofNat, partition, period]
      by_cases allowed : (a.period = 1 ∨ a.period = 2 ∨ a.period = 4) ∧ 8 ≤ a.partition ∧ a.partition ≤ 56 ∧ a.partition % 8 = 0
      · simp only [if_pos allowed]
      · simp only [if_neg allowed]
    refine ⟨fun allowed => ?_, fun refused => ?_⟩
    · refine exec_idle rfl idle (by simp [flag, u8]) ((served (received s)).trans ?_)
      rw [if_pos (by simpa using allowed)]
      rfl
    · refine exec_idle rfl idle (by simp [flag, u8]) ((served (received s)).trans ?_)
      rw [if_neg (by simpa using refused)]
      rfl
  · have ends : takeCompletion id s = s := if_neg (by rw [clear]; exact Bool.false_ne_true)
    show execFrameCompletion id s = _
    rw [execFrameCompletion, ends]
  · have changed := changeLane_changes id .readyRise Lane.complete s
    have ends : takeCompletion id s = completeFrame id s := if_pos (Option.isSome_iff_ne_none.mpr flies)
    have exec : exec (.frameCompletion id) s = .next (choose (completeFrame id s)) := by
      rw [← ends]
      rfl
    rw [complete_eq] at changed
    refine ⟨completeFrame id s, exec, changed.own, changed.other, changed.settings, changed.pending, changed.nextStart,
      changed.rest, changed.link.trans ?_⟩
    dsimp only
    split
    · rename_i back
      rw [if_neg (by rw [back.2.2]; decide), back.2.2]
    · rw [if_pos rfl]
  · have changed := readyEdge_changes id rising s
    rw [edge_eq] at changed
    refine ⟨readyEdge id rising s, rfl, changed.own, changed.other, changed.settings, changed.pending, changed.nextStart,
      changed.rest, changed.link.trans ?_⟩
    generalize laneOf id s.lanes = l
    dsimp only
    by_cases starts : rising = true ∧ l.state = .waiting ∧ l.inFlight = none
    · obtain ⟨rfl, waits, clear⟩ := starts
      simp [waits, clear]
    · by_cases falls : rising = false ∧ l.state = .sending
      · obtain ⟨rfl, sends⟩ := falls
        simp [sends]
      · simp only [if_neg starts, if_neg falls, if_true]

/-! ## FRAME_START (R166, R168 to R170) -/

theorem frameStartDue_iff (s : State) : frameStartDue s = true ↔
    (s.clock.wallTime + 4294967296 - s.lanes.nextStart) % 4294967296 < 2147483648 ∧
      s.lanes.laneA.inFlight = none ∧ s.lanes.laneB.inFlight = none := by
  unfold frameStartDue wallSince
  simp only [Bool.and_eq_true, decide_eq_true_eq, Option.isNone_iff_eq_none, and_assoc]
  rfl

/-- The flag byte bit by bit, from what it is put together of. -/
theorem flagBits : ∀ (mute off ceiling claimed : Bool) (o : Ownership),
    let flags := (if mute then 1 else 0) + (if off then 2 else 0) + (if ceiling then 4 else 0) + (if claimed then 8 else 0)
      + 16 * o.code
    let bits := BitVec.ofNat 8 flags
    flags < 64 ∧ bits.getLsbD 0 = mute ∧ bits.getLsbD 1 = off ∧ bits.getLsbD 2 = ceiling ∧ bits.getLsbD 3 = claimed ∧
    bits.getLsbD 4 = (o == .pickup || o == .latched) ∧ bits.getLsbD 5 = (o == .touched || o == .latched) := by
  intro mute off ceiling claimed o
  cases o <;> revert mute off ceiling claimed <;> decide

theorem pairwise_filter_finRange {n : Nat} (p : Fin n → Bool) : ((List.finRange n).filter p).Pairwise (· < ·) :=
  (List.pairwise_lt_finRange n).filter p

/-- The channels a lane carries (R170). -/
theorem carriedChans_iff (id : LaneId) (a : LaneSettings) (small : a.partition ≤ 64) :
    let first := if a.splitMode = true ∧ id = .laneB then a.partition else 0
    let last := if a.splitMode = true ∧ id = .laneA then a.partition else 64
    firstChannel id a = first ∧ channelCount id a = last - first ∧
    (carriedChans id a).Pairwise (· < ·) ∧
    ∀ c : Chan, c ∈ carriedChans id a ↔ first ≤ c.val ∧ c.val < last := by
  have first : firstChannel id a = if a.splitMode = true ∧ id = .laneB then a.partition else 0 := by
    cases id <;> simp [firstChannel]
  have count : channelCount id a = (if a.splitMode = true ∧ id = .laneA then a.partition else 64)
      - if a.splitMode = true ∧ id = .laneB then a.partition else 0 := by
    cases id <;> cases split : a.splitMode <;> simp [channelCount, split]
  refine ⟨first, count, pairwise_filter_finRange _, fun c => ?_⟩
  have member : c ∈ carriedChans id a ↔
      firstChannel id a ≤ c.val ∧ c.val < firstChannel id a + channelCount id a := by
    unfold carriedChans allFin
    simp
  rw [member, first, count]
  split_ifs <;> omega

/-! ### Pending settings and the schedule (R168, steps 1 and 2) -/

/-- The state a lane comes to when settings are applied. -/
def stateUnder (on : Bool) (l : Lane) : LaneState :=
  if on = false then .disabled
  else if l.state = .disabled then (if l.ready then .sending else .waiting)
  else l.state

theorem followEnable_eq (on : Bool) (l : Lane) : followEnable on l = { l with
    state := stateUnder on l
    counter := if on = true ∧ l.state = .disabled ∧ l.ready = true then 0 else l.counter } := by
  unfold followEnable stateUnder
  cases on with
  | false => simp
  | true =>
    by_cases disabled : l.state = .disabled
    · cases ready : l.ready <;> simp [disabled, ready, Lane.startSending]
    · simp [disabled]

/-- What pending settings that come into force leave: each lane follows its enable, lane A first. -/
theorem applyPending_some {s : State} {a : LaneSettings} (pending : s.lanes.pending = some a) :
    (applyPending s).lanes.settings = a ∧ (applyPending s).lanes.pending = none ∧
    (applyPending s).lanes.nextStart = s.lanes.nextStart ∧
    (∀ id, laneOf id (applyPending s).lanes = followEnable (a.enableOf id) (laneOf id s.lanes)) ∧
    { applyPending s with lanes := s.lanes, link := s.link } = s ∧
    (applyPending s).link = queueAll ([LaneId.laneA, .laneB].filterMap fun id =>
      if (followEnable (a.enableOf id) (laneOf id s.lanes)).state = (laneOf id s.lanes).state then none
      else some (.lane id (laneOf id s.lanes).state (followEnable (a.enableOf id) (laneOf id s.lanes)).state .config
        (followEnable (a.enableOf id) (laneOf id s.lanes)).counter (followEnable (a.enableOf id) (laneOf id s.lanes)).losses)) s.link := by
  have first := changeLane_changes .laneA .config (followEnable a.enableA)
    (updLanes (fun l => { l with settings := a, pending := none }) s)
  have second := changeLane_changes .laneB .config (followEnable a.enableB)
    (changeLane .laneA .config (followEnable a.enableA) (updLanes (fun l => { l with settings := a, pending := none }) s))
  have applied : applyPending s = changeLane .laneB .config (followEnable a.enableB)
      (changeLane .laneA .config (followEnable a.enableA) (updLanes (fun l => { l with settings := a, pending := none }) s)) := by
    unfold applyPending
    rw [pending]
  rw [← applied] at second
  rw [first.other .laneB (by decide)] at second
  refine ⟨second.settings.trans first.settings, second.pending.trans first.pending, second.nextStart.trans first.nextStart,
    fun id => ?_, ?_, ?_⟩
  · cases id
    · exact (second.other .laneA (by decide)).trans first.own
    · exact second.own
  · exact ((congrArg (fun u : State => { u with lanes := s.lanes, link := s.link }) second.rest).trans
      (congrArg (fun u : State => { u with lanes := s.lanes, link := s.link }) first.rest) :)
  · rw [second.link, first.other .laneB (by decide), first.link]
    simp only [List.filterMap_cons, List.filterMap_nil, LaneSettings.enableOf, laneOf, updLanes_lanes, updLanes_link]
    by_cases sameA : (followEnable a.enableA s.lanes.laneA).state = s.lanes.laneA.state
    · by_cases sameB : (followEnable a.enableB s.lanes.laneB).state = s.lanes.laneB.state <;>
        simp [sameA, sameB, queueAll]
    · by_cases sameB : (followEnable a.enableB s.lanes.laneB).state = s.lanes.laneB.state <;>
        simp [sameA, sameB, queueAll]

/-- The settings a frame start works under. -/
def settingsNow (s : State) : LaneSettings := s.lanes.pending.getD s.lanes.settings

/-- A lane's record after the settings of a frame start are in force. -/
def laneNow (s : State) (id : LaneId) : Lane :=
  if s.lanes.pending = none then laneOf id s.lanes else followEnable ((settingsNow s).enableOf id) (laneOf id s.lanes)

/-- What the first two steps of a frame start leave: the settings in force and the next start scheduled. -/
structure Scheduled (s w : State) : Prop where
  settings : w.lanes.settings = settingsNow s
  pending : w.lanes.pending = none
  nextStart : w.lanes.nextStart = (s.lanes.nextStart + (settingsNow s).period) % 4294967296
  lanes : ∀ id, laneOf id w.lanes = laneNow s id
  rest : { w with lanes := s.lanes, link := s.link } = s
  link : w.link = queueAll ([LaneId.laneA, .laneB].filterMap fun id =>
    if (laneNow s id).state = (laneOf id s.lanes).state then none
    else some (.lane id (laneOf id s.lanes).state (laneNow s id).state .config (laneNow s id).counter (laneNow s id).losses)) s.link

theorem scheduleNext_scheduled (s : State) : Scheduled s (scheduleNext (applyPending s)) := by
  cases pending : s.lanes.pending with
  | none =>
    have applied : applyPending s = s := by
      unfold applyPending
      rw [pending]
    have now : settingsNow s = s.lanes.settings := by rw [settingsNow, pending]; rfl
    have lane (id : LaneId) : laneNow s id = laneOf id s.lanes := if_pos pending
    rw [applied]
    refine ⟨now.symm, pending, by rw [now]; rfl, fun id => ?_, rfl, ?_⟩
    · rw [lane]
      cases id <;> rfl
    · simp [lane, scheduleNext, queueAll]
  | some a =>
    obtain ⟨settings, none, nextStart, lanes, rest, link⟩ := applyPending_some pending
    have now : settingsNow s = a := by rw [settingsNow, pending]; rfl
    have lane (id : LaneId) : laneNow s id = followEnable (a.enableOf id) (laneOf id s.lanes) := by
      rw [laneNow, if_neg (by rw [pending]; simp), now]
    refine ⟨by rw [now]; exact settings, none, ?_, fun id => ?_, rest, ?_⟩
    · show ((applyPending s).lanes.nextStart + (applyPending s).lanes.settings.period) % 4294967296 = _
      rw [nextStart, settings, now]
    · rw [lane, ← lanes]
      cases id <;> rfl
    · simp only [lane]
      exact link

/-! ### The frames (R168, R169) -/

/-- What a frame start puts on a lane, from the state in which its frame is built. -/
def begun (v : State) (id : LaneId) : Lane :=
  if (laneOf id v.lanes).state = .sending then
    { laneOf id v.lanes with inFlight := some (laneFrame v id), counter := ((laneOf id v.lanes).counter + 1) % 65536 }
  else laneOf id v.lanes

/-- What putting the frames in flight leaves. -/
structure Begins (v w : State) : Prop where
  lanes : ∀ id, laneOf id w.lanes = begun v id
  settings : w.lanes.settings = v.lanes.settings
  pending : w.lanes.pending = v.lanes.pending
  nextStart : w.lanes.nextStart = v.lanes.nextStart
  rest : { w with lanes := v.lanes } = v

/-- A frame of one lane reads nothing of the other lane's record. -/
theorem laneFrame_other {id j : LaneId} (ne : j ≠ id) (f : Lane → Lane) (v : State) :
    laneFrame (updLane id f v) j = laneFrame v j :=
  match id, j, ne with
  | .laneA, .laneB, _ => rfl
  | .laneB, .laneA, _ => rfl
  | .laneA, .laneA, ne => absurd rfl ne
  | .laneB, .laneB, ne => absurd rfl ne

theorem beginFrame_cases (id : LaneId) (v : State) : beginFrame id v = updLane id (fun _ => begun v id) v := by
  unfold beginFrame begun
  split
  · cases id <;> rfl
  · cases id <;> rfl

theorem begun_other {id j : LaneId} (ne : j ≠ id) (f : Lane → Lane) (v : State) : begun (updLane id f v) j = begun v j := by
  unfold begun
  rw [laneOf_updLane_of_ne ne, laneFrame_other ne]

theorem beginFrames_begins (v : State) : Begins v (beginFrame .laneB (beginFrame .laneA v)) := by
  rw [beginFrame_cases .laneA, beginFrame_cases .laneB, begun_other (by decide)]
  refine ⟨fun id => ?_, rfl, rfl, rfl, rfl⟩
  cases id <;> rfl

theorem laneNow_eq (s : State) (id : LaneId) : laneNow s id = { laneOf id s.lanes with
    state := if s.lanes.pending = none then (laneOf id s.lanes).state
      else stateUnder ((settingsNow s).enableOf id) (laneOf id s.lanes)
    counter := if s.lanes.pending ≠ none ∧ (settingsNow s).enableOf id = true ∧ (laneOf id s.lanes).state = .disabled
        ∧ (laneOf id s.lanes).ready = true then 0
      else (laneOf id s.lanes).counter } := by
  unfold laneNow
  by_cases none : s.lanes.pending = none
  · simp [none]
  · rw [if_neg none, followEnable_eq]
    simp only [none, if_false, ne_eq, not_false_eq_true, true_and]

/-- The bytes that a frame's checksum covers, in terms of the state before the frame start. -/
theorem frameCovered_scheduled {s v : State} (h : Scheduled s v) (id : LaneId) : frameCovered v id =
    u8 (laneCode id) ++ u16 (laneNow s id).counter ++ u32 s.clock.showTime ++ u8 s.clock.state.code
      ++ flag s.stop.active ++ u8 (channelCount id (settingsNow s)) ++ u8 (firstChannel id (settingsNow s))
      ++ (carriedChans id (settingsNow s)).flatMap fun c => s16 (effectiveLevel s c) ++ u8 (laneFlags s c) := by
  have entries : frameEntry v = fun c => s16 (effectiveLevel s c) ++ u8 (laneFlags s c) :=
    (congrArg (fun u : State => frameEntry u) h.rest :)
  have showTime : v.clock.showTime = s.clock.showTime := (congrArg (fun u : State => u.clock.showTime) h.rest :)
  have state : v.clock.state = s.clock.state := (congrArg (fun u : State => u.clock.state) h.rest :)
  have active : v.stop.active = s.stop.active := (congrArg (fun u : State => u.stop.active) h.rest :)
  unfold frameCovered
  rw [h.lanes, h.settings, showTime, state, active, entries]

/-- Settles O46: due or not, the flag byte, the carried channels, and the frame start in its two halves. -/
theorem frameStart : Obligations.FrameStart := by
  refine ⟨fun l => ⟨rfl, rfl⟩, fun a => ⟨rfl, rfl⟩, frameStartDue_iff, fun s early => ?_, fun s c => ?_,
    carriedChans_iff, fun s due => ?_⟩
  · have waits : takeFrameStart s = s := if_neg (by rw [early]; exact Bool.false_ne_true)
    show execFrameStart s = _
    rw [execFrameStart, waits]
  · have bits := flagBits (composedMute s c) (decide (s.chans[c].atten = -3072)) (ceilingFlag s c) s.chans[c].claim.isSome
      s.chans[c].ownership
    simp only [decide_eq_true_eq] at bits
    exact bits
  · intro now stateOf counterOf
    obtain ⟨-, clearA, clearB⟩ := (frameStartDue_iff s).mp due
    have clear (id : LaneId) : (laneOf id s.lanes).inFlight = none := by
      cases id
      · exact clearA
      · exact clearB
    have lane (id : LaneId) : laneNow s id = { laneOf id s.lanes with state := stateOf id, counter := counterOf id } :=
      laneNow_eq s id
    have scheduled := scheduleNext_scheduled s
    have begins := beginFrames_begins (scheduleNext (applyPending s))
    have starts : takeFrameStart s = beginFrame .laneB (beginFrame .laneA (scheduleNext (applyPending s))) := if_pos due
    have exec : exec .frameStart s = .next (choose (beginFrame .laneB (beginFrame .laneA (scheduleNext (applyPending s))))) := by
      rw [← starts]
      rfl
    generalize beginFrame .laneB (beginFrame .laneA (scheduleNext (applyPending s))) = w at begins exec
    generalize scheduleNext (applyPending s) = v at scheduled begins
    refine ⟨w, exec, begins.settings.trans scheduled.settings, begins.pending.trans scheduled.pending,
      begins.nextStart.trans scheduled.nextStart, fun id => ?_, ?_, ?_⟩
    · have read := begins.lanes id
      rw [begun, scheduled.lanes, lane] at read
      dsimp only at read
      rw [read]
      by_cases sends : stateOf id = .sending
      · rw [if_pos sends, if_pos sends]
        obtain ⟨small, zero⟩ := Laws.checksum_brings_zero (frameCovered v id)
        have covered := frameCovered_scheduled scheduled id
        rw [lane] at covered
        refine ⟨rfl, fun other => absurd sends other, fun _ => ⟨checksum (frameCovered v id), small, ?_, ?_⟩⟩
        · exact (congrArg (fun bytes => (byteSum bytes + checksum (frameCovered v id)) % 65536) covered).symm.trans zero
        · exact congrArg (fun bytes => some ([0x5A] ++ bytes ++ u16 (checksum (frameCovered v id)))) covered
      · rw [if_neg sends, if_neg sends]
        exact ⟨rfl, fun _ => clear id, fun sending => absurd sending sends⟩
    · exact ((congrArg (fun u : State => { u with lanes := s.lanes, link := s.link }) begins.rest).trans scheduled.rest :)
    · rw [show w.link = v.link from (congrArg State.link begins.rest :), scheduled.link]
      simp only [lane]

end Sys2Proof.LanesReset
end

section
/-! Cancelled moves (R69, R70): O23, and the entry into the show stop: O47. -/

namespace Sys2Proof.Cancelling

open Sys2Proof Sys2Proof.Machine Sys2Proof.Codec Sys2Proof.Settings Sys2Proof.Removal Sys2Proof.ClockStop

/-! ## Frozen records -/

/-- The retirement of a slot's move when it is cancelled. -/
def cancelledOf (reason : Reason) (s : State) (j : Slot) : Option Retirement :=
  s.moves[j].map fun mv => ⟨j, mv, reason, s.clock.showTime⟩

/-- What cancelling the moves of the slots of p leaves behind. -/
structure Cancels (p : Slot → Bool) (rs : List Retirement) (s w : State) : Prop where
  chans : ∀ c : Chan, w.chans[c] = frozen s p c
  groups : ∀ g : Grp, w.groups[g] = frozenGroup s p g
  moves : ∀ k : Slot, w.moves[k] = if p k then none else s.moves[k]
  reports : Reports rs s w
  rest : { w with chans := s.chans, groups := s.groups, moves := s.moves, play := s.play, link := s.link } = s

theorem frozen_unclaimed {s : State} {p : Slot → Bool} {c : Chan} (h : s.chans[c].claim = none) : frozen s p c = s.chans[c] := by
  unfold frozen
  rw [h]

theorem frozen_claimed {s : State} {p : Slot → Bool} {c : Chan} {cl : Claim} (h : s.chans[c].claim = some cl) :
    frozen s p c = if p cl.slot then { s.chans[c] with base := liveLevel s c, claim := none } else s.chans[c] := by
  unfold frozen
  rw [h]

theorem frozenGroup_unclaimed {s : State} {p : Slot → Bool} {g : Grp} (h : s.groups[g].claim = none) :
    frozenGroup s p g = s.groups[g] := by
  unfold frozenGroup
  rw [h]

theorem frozenGroup_claimed {s : State} {p : Slot → Bool} {g : Grp} {cl : Claim} (h : s.groups[g].claim = some cl) :
    frozenGroup s p g = if p cl.slot then { s.groups[g] with offset := liveOffset s g, claim := none } else s.groups[g] := by
  unfold frozenGroup
  rw [h]

/-- The records after the claims of one slot are frozen. -/
theorem freezeClaims_frozen (k : Slot) (s : State) :
    (∀ c : Chan, (freezeClaims k s).chans[c] = frozen s (fun j => j == k) c) ∧
    (∀ g : Grp, (freezeClaims k s).groups[g] = frozenGroup s (fun j => j == k) g) ∧
    { freezeClaims k s with chans := s.chans, groups := s.groups } = s := by
  refine ⟨fun c => ?_, fun g => ?_, ?_⟩
  · unfold freezeClaims
    simp only [mapGroups_chans, getChan_mapChans]
    cases claim : s.chans[c].claim with
    | none => rw [frozen_unclaimed claim]; rfl
    | some cl => rw [frozen_claimed claim]; rfl
  · unfold freezeClaims
    simp only [getGroup_mapGroups, mapChans_groups]
    cases claim : s.groups[g].claim with
    | none => rw [frozenGroup_unclaimed claim]; rfl
    | some cl => rw [frozenGroup_claimed claim]; rfl
  · unfold freezeClaims mapGroups mapChans
    rfl

theorem cancelMove_cancels (k : Slot) (reason : Reason) (s : State) :
    Cancels (fun j => j == k) (cancelledOf reason s k).toList s (cancelMove k reason s) := by
  obtain ⟨chans, groups, rest⟩ := freezeClaims_frozen k s
  have moves : (freezeClaims k s).moves = s.moves := (congrArg State.moves rest :)
  have play : (freezeClaims k s).play = s.play := (congrArg State.play rest :)
  have link : (freezeClaims k s).link = s.link := (congrArg State.link rest :)
  unfold cancelMove cancelledOf
  cases occupied : s.moves[k] with
  | none =>
    rw [retire_none (by rw [moves]; exact occupied)]
    refine ⟨chans, groups, fun j => ?_, ⟨play, link⟩,
      (congrArg (fun u : State => { u with moves := s.moves, play := s.play, link := s.link }) rest :)⟩
    rw [moves]
    by_cases e : j = k
    · rw [if_pos (beq_iff_eq.mpr e), e, occupied]
    · rw [if_neg (by simpa using e)]
  | some mv =>
    rw [retire_some (by rw [moves]; exact occupied)]
    refine ⟨chans, groups, fun j => ?_, ⟨by rw [← play]; rfl, by rw [← link]; rfl⟩,
      (congrArg (fun u : State => { u with moves := s.moves, play := s.play, link := s.link }) rest :)⟩
    show (setSlot k none (freezeClaims k s)).moves[j] = _
    rw [getSlot_setSlot, moves]
    by_cases e : j = k
    · rw [if_pos e.symm, if_pos (beq_iff_eq.mpr e)]
    · rw [if_neg (Ne.symm e), if_neg (by simpa using e)]

namespace Cancels

variable {p q : Slot → Bool} {rs rs' : List Retirement} {s t w : State}

theorem clock (h : Cancels p rs s t) : t.clock = s.clock := (congrArg State.clock h.rest :)

theorem sameLanes (h : Cancels p rs s t) : SameLanes s t :=
  ⟨h.clock, (congrArg State.taperA h.rest :), (congrArg State.taperB h.rest :)⟩

/-- A channel whose claim stands reads the same V. -/
theorem liveLevel_kept (h : Cancels p rs s t) {c : Chan} {cl : Claim} (claim : s.chans[c].claim = some cl) (kept : p cl.slot = false) :
    t.chans[c] = s.chans[c] ∧ liveLevel t c = liveLevel s c := by
  have same : t.chans[c] = s.chans[c] := by
    rw [h.chans, frozen_claimed claim, if_neg (by rw [kept]; exact Bool.false_ne_true)]
  refine ⟨same, liveLevel_congr h.sameLanes (by rw [same]) (by rw [same]) (by rw [same]) fun cl' claim' => ?_⟩
  obtain rfl : cl = cl' := Option.some.inj (claim.symm.trans claim')
  rw [h.moves, if_neg (by rw [kept]; exact Bool.false_ne_true)]

theorem liveOffset_kept (h : Cancels p rs s t) {g : Grp} {cl : Claim} (claim : s.groups[g].claim = some cl) (kept : p cl.slot = false) :
    t.groups[g] = s.groups[g] ∧ liveOffset t g = liveOffset s g := by
  have same : t.groups[g] = s.groups[g] := by
    rw [h.groups, frozenGroup_claimed claim, if_neg (by rw [kept]; exact Bool.false_ne_true)]
  refine ⟨same, liveOffset_congr h.sameLanes same fun cl' claim' => ?_⟩
  obtain rfl : cl = cl' := Option.some.inj (claim.symm.trans claim')
  rw [h.moves, if_neg (by rw [kept]; exact Bool.false_ne_true)]

theorem trans (h : Cancels p rs s t) (h' : Cancels q rs' t w) : Cancels (fun j => p j || q j) (rs ++ rs') s w where
  chans c := by
    rw [h'.chans]
    cases claim : s.chans[c].claim with
    | none =>
      have same : t.chans[c] = s.chans[c] := by rw [h.chans, frozen_unclaimed claim]
      rw [frozen_unclaimed (by rw [same, claim]), frozen_unclaimed claim, same]
    | some cl =>
      rw [frozen_claimed claim]
      cases first : p cl.slot with
      | true =>
        have gone : t.chans[c] = { s.chans[c] with base := liveLevel s c, claim := none } := by
          rw [h.chans, frozen_claimed claim, if_pos first]
        rw [frozen_unclaimed (by rw [gone]), gone]
        rfl
      | false =>
        obtain ⟨same, live⟩ := h.liveLevel_kept claim first
        rw [frozen_claimed (by rw [same, claim]), same, live]
        rfl
  groups g := by
    rw [h'.groups]
    cases claim : s.groups[g].claim with
    | none =>
      have same : t.groups[g] = s.groups[g] := by rw [h.groups, frozenGroup_unclaimed claim]
      rw [frozenGroup_unclaimed (by rw [same, claim]), frozenGroup_unclaimed claim, same]
    | some cl =>
      rw [frozenGroup_claimed claim]
      cases first : p cl.slot with
      | true =>
        have gone : t.groups[g] = { s.groups[g] with offset := liveOffset s g, claim := none } := by
          rw [h.groups, frozenGroup_claimed claim, if_pos first]
        rw [frozenGroup_unclaimed (by rw [gone]), gone]
        rfl
      | false =>
        obtain ⟨same, live⟩ := h.liveOffset_kept claim first
        rw [frozenGroup_claimed (by rw [same, claim]), same, live]
        rfl
  moves k := by
    rw [h'.moves, h.moves]
    cases p k <;> cases q k <;> rfl
  reports :=
    ⟨by rw [h'.reports.play, h.reports.play, List.foldl_append], by
      rw [h'.reports.link, h.reports.link, List.map_append, queueAll_append]⟩
  rest := (congrArg (fun u : State =>
    { u with chans := s.chans, groups := s.groups, moves := s.moves, play := s.play, link := s.link }) h'.rest).trans h.rest

theorem congr (h : Cancels p rs s w) (same : ∀ j, p j = q j) : Cancels q rs s w := by
  rwa [← funext same]

end Cancels

/-- Slots cancelled one after another. -/
theorem cancelMoves_cancels (reason : Reason) : ∀ {l : List Slot} (_ : l.Nodup) (s : State),
    Cancels (fun j => decide (j ∈ l)) (l.filterMap (cancelledOf reason s)) s (l.foldl (fun s k => cancelMove k reason s) s)
  | [], _, s =>
    ⟨fun c => by cases h : s.chans[c].claim <;> simp [frozen, h, -Fin.getElem_fin],
      fun g => by cases h : s.groups[g].claim <;> simp [frozenGroup, h, -Fin.getElem_fin], fun _ => rfl, ⟨rfl, rfl⟩, rfl⟩
  | k :: l, nodup, s => by
    obtain ⟨fresh, nodup⟩ := List.nodup_cons.mp nodup
    have first := cancelMove_cancels k reason s
    have others := cancelMoves_cancels reason nodup (cancelMove k reason s)
    have same : l.filterMap (cancelledOf reason (cancelMove k reason s)) = l.filterMap (cancelledOf reason s) :=
      List.filterMap_congr fun j mem => by
        unfold cancelledOf
        rw [first.moves, first.clock, if_neg (by simpa using fun e : j = k => fresh (e ▸ mem))]
    rw [same] at others
    have whole : (k :: l).filterMap (cancelledOf reason s) = (cancelledOf reason s k).toList ++ l.filterMap (cancelledOf reason s) := by
      rw [List.filterMap_cons]
      cases cancelledOf reason s k <;> rfl
    rw [whole]
    refine (first.trans others).congr fun j => ?_
    by_cases e : j = k <;> simp [e]

theorem mem_slotsWhere_holds (q : Move → Bool) (s : State) (k : Slot) : k ∈ slotsWhere q s ↔ holds q s k = true := by
  rw [Laws.mem_slotsWhere]
  unfold holds
  cases s.moves[k] <;> simp

theorem slotsWhere_nodup (q : Move → Bool) (s : State) : (slotsWhere q s).Nodup := (List.nodup_finRange 48).filter _

/-- Every move that satisfies a condition, cancelled in slot order (R70, R71). -/
theorem cancelWhere_cancels (q : Move → Bool) (reason : Reason) (s : State) :
    Cancels (holds q s) ((slotsWhere q s).filterMap (cancelledOf reason s)) s (cancelWhere q reason s) :=
  (cancelMoves_cancels reason (slotsWhere_nodup q s) s).congr fun j => by
    rw [← Bool.coe_iff_coe, decide_eq_true_eq, mem_slotsWhere_holds]

/-- The cancelled moves are those that are gone afterwards, in ascending slot order. -/
theorem goneWith_cancelWhere (q : Move → Bool) (reason : Reason) (s : State) :
    (slotsWhere q s).filterMap (cancelledOf reason s) = goneWith reason s (cancelWhere q reason s) := by
  have cancelled := cancelWhere_cancels q reason s
  unfold slotsWhere goneWith
  rw [List.filterMap_filter]
  refine List.filterMap_congr fun j _ => ?_
  rw [cancelled.moves]
  unfold holds cancelledOf
  cases occupied : s.moves[j] with
  | none => rfl
  | some mv =>
    cases wanted : q mv with
    | false => simp [wanted]
    | true => simp [wanted]

theorem notices_cancelled (q : Move → Bool) (reason : Reason) (s : State) :
    ((slotsWhere q s).filterMap (cancelledOf reason s)).map Retirement.notice =
      (slotsWhere q s).filterMap fun k => s.moves[k].map fun mv => .moveRetired k mv.kind mv.origin reason := by
  rw [List.map_filterMap]
  refine List.filterMap_congr fun j _ => ?_
  unfold cancelledOf
  cases s.moves[j] <;> rfl

/-! ## MOVE CANCEL (R76) -/

/-- MOVE CANCEL of a slot, as it is served. -/
theorem serve_moveCancel (tag : Byte) (k : Slot) (s : State) : serve ⟨0x21, tag, u8 k.val⟩ s =
    if s.moves[k].isNone then refuse .notFound s else accept (u8 1) (settle (cancelMove k .cancelled s)) := by
  have value : (BitVec.ofNat 8 k.val : Byte).toNat = k.val := toNat_ofNat (by omega)
  have small := k.isLt
  show reqMoveCancel [BitVec.ofNat 8 k.val] s = _
  unfold reqMoveCancel
  simp only [value, asSlot_ofNat]
  rw [if_neg (by omega)]

/-- Settles O23: no slot, a FREE slot, a slot's move, and every LIVE move. -/
theorem moveCancel : Obligations.MoveCancel := by
  intro tag s idle
  refine ⟨fun b low high => ?_, fun k free => ?_, fun k mv occupied => ?_, ?_⟩
  · refine exec_idle rfl idle (by simp) ?_
    show reqMoveCancel [b] (received s) = _
    have none : asSlot b = none := dif_neg (by omega)
    unfold reqMoveCancel
    simp only [none]
    rw [if_neg (by omega)]
    rfl
  · refine exec_idle rfl idle (by simp [u8]) ((serve_moveCancel tag k (received s)).trans (if_pos ?_))
    exact Option.isNone_iff_eq_none.mpr free
  · have cancelled := cancelMove_cancels k .cancelled (received s)
    have made : cancelledOf .cancelled (received s) k = some ⟨k, mv, .cancelled, s.clock.showTime⟩ := by
      show s.moves[k].map _ = _
      rw [occupied]
      rfl
    rw [made] at cancelled
    refine ⟨cancelMove k .cancelled (received s), ?_, ?_, cancelled.chans, cancelled.groups, cancelled.reports.link,
      cancelled.reports.play, cancelMove_show _ _ _⟩
    · refine exec_idle rfl idle (by simp [u8]) ((serve_moveCancel tag k (received s)).trans (if_neg ?_))
      show ¬ s.moves[k].isNone = true
      rw [occupied]
      exact Bool.false_ne_true
    · refine Vector.ext fun i h => ?_
      have read := cancelled.moves ⟨i, h⟩
      refine read.trans ?_
      show (if (⟨i, h⟩ : Slot) == k then none else s.moves[i]) = _
      rw [Vector.getElem_set]
      by_cases e : k.val = i
      · rw [if_pos e, if_pos (beq_iff_eq.mpr (Fin.ext e.symm))]
      · rw [if_neg e, if_neg (by simpa [Fin.ext_iff] using Ne.symm e)]
  · have cancelled := cancelWhere_cancels Move.isLive .cancelled (received s)
    refine ⟨cancelWhere Move.isLive .cancelled (received s), exec_idle rfl idle (by simp) rfl, cancelled.moves, cancelled.chans,
      cancelled.groups, ?_, ?_, cancelWhere_show _ _ _⟩
    · rw [cancelled.reports.link, notices_cancelled]
      rfl
    · have reports := cancelled.reports
      rw [goneWith_cancelWhere] at reports
      exact reports

/-! ## The entry into the show stop (R176) -/

/-- A cancelled move that no end watch waits for reports nothing. -/
theorem afterReports_unwatched : ∀ (rs : List Retirement) {p : Playback}, p.endWatch = none → rs.foldl afterReport p = p
  | [], _, _ => rfl
  | r :: rs, p, unwatched => by
    have same : afterReport p r = p := by
      unfold afterReport
      rw [unwatched]
      cases r.move.origin <;> rfl
    rw [List.foldl_cons, same, afterReports_unwatched rs unwatched]

/-- Of the clock, live values read show time and wall time only (R2, R3). -/
theorem liveLevel_clock {s : State} {k : Clock} (instant : k.showTime = s.clock.showTime) (wall : k.wallTime = s.clock.wallTime)
    (c : Chan) : liveLevel { s with clock := k } c = liveLevel s c := by
  unfold liveLevel claimValue moveProgress elapsedSince
  simp only [instant, wall]
  rfl

theorem liveOffset_clock {s : State} {k : Clock} (instant : k.showTime = s.clock.showTime) (wall : k.wallTime = s.clock.wallTime)
    (g : Grp) : liveOffset { s with clock := k } g = liveOffset s g := by
  unfold liveOffset claimValue moveProgress elapsedSince
  simp only [instant, wall]

/-- The clock as the entry of the stop leaves it (R88). -/
def stoppedClock (k : Clock) : Clock :=
  if k.state = .running ∨ k.state = .stepping then { k.exitRunning with state := .held } else k

theorem stoppedClock_times (k : Clock) : (stoppedClock k).showTime = k.showTime ∧ (stoppedClock k).wallTime = k.wallTime := by
  unfold stoppedClock
  split <;> exact ⟨rfl, rfl⟩

/-- The notice of a clock that the entry of the stop holds. -/
def stoppedNotices (k : Clock) : List Notice :=
  if k.state = .running ∨ k.state = .stepping then [.clock .stop .held (stoppedClock k).source k.showTime] else []

theorem holdForStop_eq (s : State) :
    holdForStop s = { s with clock := stoppedClock s.clock, link := queueAll (stoppedNotices s.clock) s.link } := by
  unfold holdForStop stoppedNotices stoppedClock
  split
  · rfl
  · rfl

/-- The first three steps of the entry: the stop is ACTIVE, the clock held, follow and end watch emptied. -/
def stopBegun (s : State) : State := updPlay Playback.dropFollow (holdForStop (activateStop s))

/-- What the state is then, the channels given. -/
def begunWith (chans : Vector Channel 64) (s : State) : State :=
  { s with
    chans := chans
    stop := { s.stop with active := true }
    clock := stoppedClock s.clock
    play := s.play.dropFollow
    link := queueAll (stoppedNotices s.clock) s.link }

theorem stopBegun_eq (s : State) : ∃ chans : Vector Channel 64, stopBegun s = begunWith chans s ∧
    ∀ c : Chan, chans[c] = { s.chans[c] with atten := rampAfter s (stopBegun s) c } := by
  obtain ⟨stop, chans, rest⟩ := resnap_updStop (fun u => { u with active := true }) s
  have activated : activateStop s = { s with chans := (activateStop s).chans, stop := { s.stop with active := true } } :=
    (congrArg (fun u : State => { u with chans := (activateStop s).chans, stop := (activateStop s).stop }) rest :).trans (by
      rw [show (activateStop s).stop = { s.stop with active := true } from stop])
  have begun : stopBegun s = begunWith (activateStop s).chans s := by
    unfold stopBegun
    rw [holdForStop_eq, activated]
    rfl
  refine ⟨(activateStop s).chans, begun, fun c => (chans c).trans ?_⟩
  have same : SameRamp (activateStop s) (stopBegun s) c := by
    rw [begun]
    exact ⟨rfl, rfl, rfl, rfl, fun g => (congrArg (fun u : State => u.groups[g].mute) activated :).symm, stop.symm⟩
  rw [same.after]
  rfl

theorem liveLevel_begun {chans : Vector Channel 64} {b : State} {c : Chan} {m : Int}
    (chan : chans[c] = { b.chans[c] with atten := m }) : liveLevel (begunWith chans b) c = liveLevel b c := by
  have read : (begunWith chans b).chans[c] = { b.chans[c] with atten := m } := chan
  obtain ⟨instant, wall⟩ := stoppedClock_times b.clock
  refine (liveLevel_congr (s := { b with clock := stoppedClock b.clock }) (t := begunWith chans b) ⟨rfl, rfl, rfl⟩ ?_ ?_ ?_ fun _ _ => rfl).trans
    (liveLevel_clock instant wall c)
  · rw [read]
  · rw [read]
  · rw [read]

theorem liveOffset_begun (chans : Vector Channel 64) (b : State) (g : Grp) : liveOffset (begunWith chans b) g = liveOffset b g := by
  obtain ⟨instant, wall⟩ := stoppedClock_times b.clock
  exact (liveOffset_congr (s := { b with clock := stoppedClock b.clock }) ⟨rfl, rfl, rfl⟩ rfl fun _ _ => rfl).trans
    (liveOffset_clock instant wall g)

theorem frozen_begun {chans : Vector Channel 64} {b : State} {c : Chan} {m : Int} (p : Slot → Bool)
    (chan : chans[c] = { b.chans[c] with atten := m }) : frozen (begunWith chans b) p c = { frozen b p c with atten := m } := by
  have read : (begunWith chans b).chans[c] = { b.chans[c] with atten := m } := chan
  cases claim : b.chans[c].claim with
  | none => rw [frozen_unclaimed claim, frozen_unclaimed (by rw [read]; exact claim), read]
  | some cl =>
    rw [frozen_claimed claim, frozen_claimed (by rw [read]; exact claim), read, liveLevel_begun chan]
    split <;> rfl

theorem frozenGroup_begun (chans : Vector Channel 64) (b : State) (p : Slot → Bool) (g : Grp) :
    frozenGroup (begunWith chans b) p g = frozenGroup b p g := by
  have read : (begunWith chans b).groups[g] = b.groups[g] := rfl
  cases claim : b.groups[g].claim with
  | none => rw [frozenGroup_unclaimed claim, frozenGroup_unclaimed (by rw [read]; exact claim), read]
  | some cl => rw [frozenGroup_claimed claim, frozenGroup_claimed (by rw [read]; exact claim), read, liveOffset_begun]

/-- Freezing claims changes nothing that the mute ramps read. -/
theorem Cancels.sameRamp {p : Slot → Bool} {rs : List Retirement} {s w : State} (h : Cancels p rs s w) (c : Chan) : SameRamp s w c := by
  have chan : ∃ base claim, w.chans[c] = { s.chans[c] with base := base, claim := claim } := by
    rw [h.chans]
    cases claim : s.chans[c].claim with
    | none => exact ⟨_, _, frozen_unclaimed claim⟩
    | some cl =>
      rw [frozen_claimed claim]
      split
      · exact ⟨_, _, rfl⟩
      · exact ⟨_, _, rfl⟩
  obtain ⟨base, claim, chan⟩ := chan
  refine ⟨by rw [chan], by rw [chan], by rw [chan], by rw [chan], fun g => ?_, (congrArg State.stop h.rest :)⟩
  rw [h.groups]
  cases claim : s.groups[g].claim with
  | none => rw [frozenGroup_unclaimed claim]
  | some cl =>
    rw [frozenGroup_claimed claim]
    split <;> rfl

theorem enterStop_enters (cause : StopCause) (b : State) : EntersStop cause b (enterStop cause b) := by
  obtain ⟨chans, begun, chan⟩ := stopBegun_eq b
  have cancelled := cancelWhere_cancels Move.heedsStop .stopped (stopBegun b)
  have entered : enterStop cause b = stopNotice cause (slotsWhere Move.heedsStop (stopBegun b)).length
    (cancelWhere Move.heedsStop .stopped (stopBegun b)) := rfl
  rw [entered]
  have notices := notices_cancelled Move.heedsStop .stopped (stopBegun b)
  have link := cancelled.reports.link
  rw [notices] at link
  generalize cancelWhere Move.heedsStop .stopped (stopBegun b) = w at *
  rw [begun] at cancelled link chan ⊢
  have stop : w.stop = { b.stop with active := true } := (congrArg State.stop cancelled.rest :)
  have clock : w.clock = stoppedClock b.clock := cancelled.clock
  obtain ⟨instant, -⟩ := stoppedClock_times b.clock
  refine ⟨stop, clock.trans rfl, ?_, fun k => cancelled.moves k, fun c => ?_, fun g => ?_, ?_, ?_⟩
  · exact cancelled.reports.play.trans (afterReports_unwatched _ rfl)
  · have same : SameRamp (begunWith chans b) (stopNotice cause (slotsWhere Move.heedsStop (begunWith chans b)).length w) c :=
      (cancelled.sameRamp c).trans ⟨rfl, rfl, rfl, rfl, fun _ => rfl, rfl⟩
    rw [same.after]
    exact (cancelled.chans c).trans (frozen_begun _ (chan c))
  · exact (cancelled.groups g).trans (frozenGroup_begun chans b _ g)
  · exact (congrArg (fun u : State => { u with
      stop := b.stop, clock := b.clock, play := b.play, moves := b.moves, chans := b.chans, link := b.link, groups := b.groups })
      cancelled.rest :)
  · show w.link.queue (.stop cause w.stop.active w.stop.line _ w.clock.showTime w.clock.state) =
      queueAll (_ ++ [.stop _ _ _ _ _ w.clock.state]) _
    rw [link, stop, clock, instant, queueAll_append, queueAll_append]
    have held : stoppedNotices b.clock = if b.clock.state = .running ∨ b.clock.state = .stepping then
        [.clock .stop .held w.clock.source b.clock.showTime] else [] := by
      rw [clock]
      rfl
    exact congrArg (fun ns => (queueAll _ (queueAll ns b.link)).queue _) held

/-- Settles O47: what each step of the entry reads stands as it did before it. -/
theorem stopEntry : Obligations.StopEntry := by
  have stays (u : State) (active : u.stop.active = true) : reqStop [] u = (u, [0x00, 0x01] ++ flag u.stop.line) := by
    simp only [reqStop, active, if_true, accept, stopFields]
    rfl
  have enters (u : State) (clear : u.stop.active = false) :
      reqStop [] u = (enterStop .request u, [0x00, 0x01] ++ flag u.stop.line) := by
    simp only [reqStop, clear, Bool.false_eq_true, if_false, accept, stopFields, (enterStop_enters .request u).stop]
    rfl
  refine ⟨fun tag s idle active => exec_idle rfl idle (by simp) (stays (received s) active), fun tag s idle clear => ?_,
    fun s clear => ?_, fun s active => ?_⟩
  · exact ⟨enterStop .request (received s), exec_idle rfl idle (by simp) (enters (received s) clear), enterStop_enters _ _⟩
  · refine ⟨_, ?_, enterStop_enters .line { s with stop := { s.stop with line := true } }⟩
    exact congrArg (fun u : State => Host.Outcome.next (choose u)) (if_neg (by rw [clear]; exact Bool.false_ne_true))
  · refine congrArg (fun u : State => Host.Outcome.next (choose u)) ((if_pos active).trans ?_)
    show { s with
      stop := { s.stop with line := true }
      link := s.link.queue (.stop .lineAsserted s.stop.active true 0 s.clock.showTime s.clock.state) } = _
    rw [active]

end Sys2Proof.Cancelling
end

section
/-! The requests on the cue store (R93 to R98, R106, R114): O31 and O32. -/

namespace Sys2Proof.CueRequests

open Sys2Proof Sys2Proof.Machine Sys2Proof.Codec Sys2Proof.CueStore

/-! ## CUE WRITE -/

theorem clampAction_eq (a : Action) : clampAction a = inRange a := by
  unfold clampAction inRange clampValue clampLevel clampInt
  cases a.mode <;> rfl

theorem clampCue_eq (c : Cue) : clampCue c = { c with wait := min c.wait 600000, actions := c.actions.map inRange } := by
  unfold clampCue
  rw [List.map_congr_left fun a _ => clampAction_eq a]
  rfl

/-- Actions that fit are read back from their records, one after another. -/
theorem parseActions_bytes : ∀ {as : List Action}, (∀ a ∈ as, ActionFits a) →
    parseActions as.length (as.flatMap Action.bytes) = some as
  | [], _ => rfl
  | a :: as, fits => by
    have length := length_bytes a
    have first : ((a :: as).flatMap Action.bytes).take 13 = a.bytes := by
      rw [List.flatMap_cons, ← length, List.take_left]
    have others : ((a :: as).flatMap Action.bytes).drop 13 = as.flatMap Action.bytes := by
      rw [List.flatMap_cons, ← length, List.drop_left]
    rw [List.length_cons, parseActions, first, others, parseAction_bytes (fits a List.mem_cons_self),
      parseActions_bytes fun b mem => fits b (List.mem_cons_of_mem a mem)]

theorem length_flatMap_bytes (as : List Action) : (as.flatMap Action.bytes).length = 13 * as.length := by
  rw [List.length_flatMap, List.map_congr_left fun a _ => length_bytes a, List.map_const', List.sum_replicate, smul_eq_mul,
    Nat.mul_comm]

/-- A cue that fits is read back from its wire (R94, R193). -/
theorem reqCueWrite_wire {c : Cue} (fits : CueFits c) (u : State) : reqCueWrite c.wire u = writeCue c u := by
  obtain ⟨⟨positive, number⟩, wait, ⟨count, counter⟩, ⟨target, loops⟩, ⟨few, actions⟩⟩ := fits
  have places : c.actions.length < 256 := by omega
  show reqCueWrite (BitVec.ofNat 8 c.number :: BitVec.ofNat 8 (c.number / 256) :: BitVec.ofNat 8 c.follow.code
    :: BitVec.ofNat 8 c.wait :: BitVec.ofNat 8 (c.wait / 256) :: BitVec.ofNat 8 (c.wait / 65536)
    :: BitVec.ofNat 8 c.loopTarget :: BitVec.ofNat 8 (c.loopTarget / 256) :: BitVec.ofNat 8 c.loopCount
    :: BitVec.ofNat 8 c.actions.length :: c.actions.flatMap Action.bytes) u = _
  unfold reqCueWrite parseCue
  simp only [toNat_ofNat places, toNat_ofNat count, followOf_ofNat, le16_ofNat number, le24_ofNat wait, le16_ofNat target,
    parseActions_bytes actions]
  have once : ¬ (BitVec.ofNat 8 c.loopCount ≠ (0 : Byte) ∧ c.loopTarget = 0) := by
    rintro ⟨on, zero⟩
    refine loops (fun none => on ?_) zero
    rw [none]
    rfl
  rw [if_neg (by rw [length_flatMap_bytes]; simp), if_neg (by omega), if_neg (by omega), if_neg once]
  exact congrArg (fun d => writeCue d u) (by cases c; simp_all)

/-- Settles O31: the refusal and the stored cue. -/
theorem cueWrite : Obligations.CueWrite := by
  refine ⟨clampCue_eq, fun tag s c idle law fits => ?_⟩
  have small : c.wire.length ≤ 1024 := by
    have few := fits.actions.1
    simp only [Cue.wire, u8, u16, u24, List.length_append, length_flatMap_bytes, List.length_cons, List.length_nil]
    omega
  have absent : (findCue (clampCue c).number s.play.store).isNone = true ↔ ∀ d ∈ s.play.store, d.number ≠ c.number := by
    rw [Option.isNone_iff_eq_none, findCue_none_iff]
    simp [Stored, clampCue]
  have pool : poolAfter (clampCue c) s.play.store =
      poolUsed (s.play.store.filter fun d => d.number != c.number) + c.actions.length := by
    simp [poolAfter, removeCue, clampCue]
  have full : storeFull (clampCue c) s.play.store = true ↔
      ((∀ d ∈ s.play.store, d.number ≠ c.number) ∧ 400 ≤ s.play.store.length)
        ∨ 2048 < poolUsed (s.play.store.filter fun d => d.number != c.number) + c.actions.length := by
    unfold storeFull
    rw [pool, Bool.or_eq_true, Bool.and_eq_true, absent, decide_eq_true_iff, decide_eq_true_iff]
    rfl
  have write (u : State) : writeCue c u = if storeFull (clampCue c) u.play.store then refuse .full u else
      let s1 := updPlay (fun p => { p with store := insertCue (clampCue c) p.store }) u
      accept (flag (decide (clampCue c ≠ c)) ++ u16 c.number ++ flag (findCue (clampCue c).number u.play.store).isNone
        ++ u16 s1.play.store.length ++ u16 (poolUsed s1.play.store)) s1 := rfl
  refine ⟨fun none => ?_, fun room => ⟨insertCue (clampCue c) s.play.store, ?_, ?_, ?_⟩⟩
  · exact exec_idle rfl idle small ((reqCueWrite_wire fits _).trans ((write _).trans (if_pos (full.mpr none))))
  · refine exec_idle rfl idle small ((reqCueWrite_wire fits _).trans ((write _).trans
      ((if_neg fun h => room (full.mp h)).trans ?_)))
    have length : (insertCue (clampCue c) s.play.store).length =
        (s.play.store.filter fun d => d.number != c.number).length + 1 := (insertCue_perm _ law.ascending).length_eq
    have used : poolUsed (insertCue (clampCue c) s.play.store) = _ := (poolUsed_insertCue _ law.ascending).trans pool
    have isNew : (findCue (clampCue c).number s.play.store).isNone = decide (∀ d ∈ s.play.store, d.number ≠ c.number) :=
      Bool.eq_iff_iff.mpr (absent.trans decide_eq_true_iff.symm)
    show accept (_ ++ _ ++ flag (findCue _ s.play.store).isNone ++ u16 (insertCue (clampCue c) s.play.store).length
      ++ u16 (poolUsed (insertCue (clampCue c) s.play.store))) _ = _
    rw [length, used, isNew]
    rfl
  · intro d
    rw [(insertCue_perm _ law.ascending).mem_iff, List.mem_cons]
    rfl
  · exact insertCue_ascending _ law.ascending

/-! ## The next cue in order (R93) -/

/-- In a store in order a number names one cue. -/
theorem eq_of_number {store : List Cue} (order : Ascending store) {c d : Cue} (memC : c ∈ store) (memD : d ∈ store)
    (same : c.number = d.number) : c = d :=
  List.inj_on_of_nodup_map (f := Cue.number) (List.pairwise_map.mpr (order.imp Nat.ne_of_lt)) memC memD same

theorem findCue_stored {store : List Cue} (order : Ascending store) {c : Cue} (mem : c ∈ store) :
    findCue c.number store = some c := by
  obtain ⟨d, found⟩ := Option.isSome_iff_exists.mp (findCue_isSome_iff.mpr ⟨c, mem, rfl⟩)
  have number : d.number = c.number := by simpa using List.find?_some found
  rw [found, eq_of_number order (List.mem_of_find?_eq_some found) mem number]

theorem findCue_absent {store : List Cue} {n : Nat} (absent : ∀ d ∈ store, d.number ≠ n) : findCue n store = none :=
  findCue_none_iff.mpr fun ⟨d, mem, number⟩ => absent d mem number

theorem nextCue_least {store : List Cue} (order : Ascending store) {n : Nat} {d : Cue} (mem : d ∈ store) (above : n < d.number)
    (least : ∀ e ∈ store, n < e.number → d.number ≤ e.number) : nextCue n store = some d := by
  have next := (Laws.nextNumber_eq_some store n d.number order).mpr ⟨⟨d, mem, rfl⟩, above, least⟩
  obtain ⟨e, found, number⟩ := Option.map_eq_some_iff.mp next
  rw [found, eq_of_number order (List.mem_of_find?_eq_some found) mem number]

theorem nextCue_none {store : List Cue} {n : Nat} (below : ∀ d ∈ store, d.number ≤ n) : nextCue n store = none :=
  Option.map_eq_none_iff.mp ((Laws.nextNumber_eq_none store n).mpr below)

/-! ## CUE READ, CUE DELETE, JUMP -/

section

variable {n : Nat} (bound : n < 65536) (u : State)

include bound

theorem reqCueRead_own (positive : n ≠ 0) :
    reqCueRead (u16 n ++ [0]) u = answerCue (findCue n u.play.store) u := by
  show reqCueRead [BitVec.ofNat 8 n, BitVec.ofNat 8 (n / 256), BitVec.ofNat 8 (if false then 1 else 0)] u = _
  unfold reqCueRead
  simp only [asBit_ofNat, le16_ofNat bound, if_neg positive]

theorem reqCueRead_next : reqCueRead (u16 n ++ [1]) u = answerCue (nextCue n u.play.store) u := by
  show reqCueRead [BitVec.ofNat 8 n, BitVec.ofNat 8 (n / 256), 1] u = _
  unfold reqCueRead
  simp only [show asBit 1 = some true from asBit_ofNat true, le16_ofNat bound]

theorem reqCueDelete_eq : reqCueDelete (u16 n) u =
    if n = 0 then refuse .badValue u
    else if (findCue n u.play.store).isNone then refuse .notFound u
    else accept (standbyField (deleteCue n u.play).standby ++ u16 (removeCue n u.play.store).length
      ++ u16 (poolUsed (removeCue n u.play.store))) (updPlay (deleteCue n) u) := by
  show reqCueDelete [BitVec.ofNat 8 n, BitVec.ofNat 8 (n / 256)] u = _
  unfold reqCueDelete
  simp only [le16_ofNat bound]
  rfl

theorem reqJump_eq : reqJump (u16 n) u =
    if n = 0 then refuse .badValue u
    else if (findCue n u.play.store).isNone then refuse .notFound u
    else accept (u16 n) (updPlay (jumpTo n) u) := by
  show reqJump [BitVec.ofNat 8 n, BitVec.ofNat 8 (n / 256)] u = _
  unfold reqJump
  simp only [le16_ofNat bound]
  rfl

end

theorem reqCueRead_zero (u : State) : reqCueRead (u16 0 ++ [0]) u = refuse .badValue u := rfl

/-- Settles O32: the reports, the edits and their refusals. -/
theorem cueEdits : Obligations.CueEdits := by
  refine ⟨fun p n law => ⟨fun k => Laws.nextNumber_eq_some p.store n k law.ascending, Laws.nextNumber_eq_none p.store n⟩,
    fun tag s idle law => ⟨fun c mem positive bound => ?_, fun n bound => ⟨fun d mem least above => ?_, fun below => ?_,
      fun positive absent => ?_, fun zero => ?_⟩, ?_, fun t bound => ?_⟩⟩
  · have found := findCue_stored law.ascending mem
    have stored : ¬ (findCue c.number s.play.store).isNone = true := by rw [found]; exact Bool.false_ne_true
    refine ⟨exec_idle rfl idle (by simp [u16]) ((reqCueRead_own bound _ (by omega)).trans ?_),
      exec_idle rfl idle (by simp [u16]) ((reqCueDelete_eq bound _).trans ((if_neg (by omega)).trans (if_neg stored))),
      exec_idle rfl idle (by simp [u16]) ((reqJump_eq bound _).trans ((if_neg (by omega)).trans (if_neg stored)))⟩
    show answerCue (findCue c.number s.play.store) (received s) = _
    rw [found]
    rfl
  · refine exec_idle rfl idle (by simp [u16]) ((reqCueRead_next bound _).trans ?_)
    show answerCue (nextCue n s.play.store) (received s) = _
    rw [nextCue_least law.ascending mem above least]
    rfl
  · refine exec_idle rfl idle (by simp [u16]) ((reqCueRead_next bound _).trans ?_)
    show answerCue (nextCue n s.play.store) (received s) = _
    rw [nextCue_none below]
    rfl
  · have none := findCue_absent absent
    have missing : (findCue n s.play.store).isNone = true := by rw [none]; rfl
    refine ⟨exec_idle rfl idle (by simp [u16]) ((reqCueRead_own bound _ positive).trans ?_),
      exec_idle rfl idle (by simp [u16]) ((reqCueDelete_eq bound _).trans ((if_neg positive).trans (if_pos missing))),
      exec_idle rfl idle (by simp [u16]) ((reqJump_eq bound _).trans ((if_neg positive).trans (if_pos missing)))⟩
    show answerCue (findCue n s.play.store) (received s) = _
    rw [none]
    rfl
  · subst zero
    exact ⟨exec_idle rfl idle (by simp [u16]) (reqCueRead_zero _),
      exec_idle rfl idle (by simp [u16]) ((reqCueDelete_eq bound _).trans (if_pos rfl)),
      exec_idle rfl idle (by simp [u16]) ((reqJump_eq bound _).trans (if_pos rfl))⟩
  · exact exec_idle rfl idle (by simp) rfl
  · refine exec_idle rfl idle (by simp [u24]) ?_
    show reqPlaybackConfig [BitVec.ofNat 8 t, BitVec.ofNat 8 (t / 256), BitVec.ofNat 8 (t / 65536)] (received s) = _
    unfold reqPlaybackConfig
    simp only [le24_ofNat bound]
    rfl

end Sys2Proof.CueRequests
end

section
/-! The receiver, character by character (R182, R183, R193): O52. -/

namespace Sys2Proof.LinkReceiver

open Sys2Proof Sys2Proof.Machine Sys2Proof.Codec

/-! ## The bytes of a frame -/

/-- The bytes that CHECK covers. -/
def covered (f : Frame) : List Byte := u16 (f.payload.length + 2) ++ [f.type, f.tag] ++ f.payload

/-- The bytes of a frame after SYNC. -/
def afterSync (f : Frame) : List Byte := covered f ++ u16 (checksum (covered f))

theorem wire_eq (f : Frame) : f.wire = 0xA5 :: afterSync f := rfl

theorem length_covered (f : Frame) : (covered f).length = f.payload.length + 4 := by
  simp [covered, u16]

theorem length_afterSync (f : Frame) : (afterSync f).length = f.payload.length + 6 := by
  simp [afterSync, covered, u16]

theorem length_wire (f : Frame) : f.wire.length = f.payload.length + 7 := by
  rw [wire_eq, List.length_cons, length_afterSync]

section

variable {f : Frame} (fits : f.payload.length ≤ 1024)

include fits

theorem lengthOf_covered (rest : List Byte) : lengthOf (covered f ++ rest) = f.payload.length + 2 := by
  show le16 (BitVec.ofNat 8 (f.payload.length + 2)) (BitVec.ofNat 8 ((f.payload.length + 2) / 256)) = _
  exact le16_ofNat (by omega)

theorem lengthOf_take {n : Nat} (two : 2 ≤ n) : lengthOf ((afterSync f).take n) = f.payload.length + 2 := by
  obtain ⟨m, rfl⟩ := Nat.exists_eq_add_of_le' two
  show le16 (BitVec.ofNat 8 (f.payload.length + 2)) (BitVec.ofNat 8 ((f.payload.length + 2) / 256)) = _
  exact le16_ofNat (by omega)

/-- The whole of the covered bytes and two more bytes end a frame. -/
theorem assemble_whole (c0 c1 : Byte) : assemble (covered f ++ [c0, c1]) =
    if (byteSum (covered f) + le16 c0 c1) % 65536 = 0 then .complete f else .checksumError := by
  have length := length_covered f
  have zero : sumsToZero (covered f ++ [c0, c1]) = ((byteSum (covered f) + le16 c0 c1) % 65536 == 0) := by
    unfold sumsToZero
    rw [lengthOf_covered fits, show f.payload.length + 2 + 2 = (covered f).length from length.symm]
    simp only [List.drop_left, List.take_left]
  have frame : frameOf (covered f ++ [c0, c1]) = f := by
    show Frame.mk f.type f.tag ((f.payload ++ [c0, c1]).take ((f.payload ++ [c0, c1]).length - 2)) = f
    rw [List.length_append, show f.payload.length + [c0, c1].length - 2 = f.payload.length from rfl, List.take_left]
  unfold assemble
  rw [lengthOf_covered fits, zero, frame, List.length_append, length]
  rw [if_neg (by simp), if_neg (by omega), if_neg (by simp)]
  simp only [beq_iff_eq]

/-- A frame in progress goes on until its last byte, which completes it. -/
theorem assemble_take {n : Nat} (within : n ≤ (afterSync f).length) : assemble ((afterSync f).take n) =
    if n < (afterSync f).length then .goesOn ((afterSync f).take n) else .complete f := by
  have length := length_afterSync f
  split
  · rename_i more
    unfold assemble
    rw [List.length_take_of_le within]
    split
    · rfl
    · rw [lengthOf_take fits (by omega), if_neg (by omega), if_pos (by omega)]
  · rw [List.take_of_length_le (by omega)]
    refine (assemble_whole fits _ _).trans (if_pos ?_)
    obtain ⟨small, zero⟩ := Laws.checksum_brings_zero (covered f)
    rw [le16_ofNat small]
    exact zero

/-- Two bytes that are not CHECK do not bring the sum to zero. -/
theorem assemble_wrong {c0 c1 : Byte} (wrong : u16 (le16 c0 c1) ≠ u16 (checksum (covered f))) :
    assemble (covered f ++ [c0, c1]) = .checksumError := by
  refine (assemble_whole fits c0 c1).trans (if_neg fun zero => wrong (congrArg u16 ?_))
  have small := le16_lt c0 c1
  have sum : byteSum (covered f) < 65536 := Nat.mod_lt _ (by decide)
  unfold checksum
  omega

end

/-! ## Characters -/

/-- What a character of a frame in progress brings about. -/
def afterTaken (s : State) : Taken → State
  | .goesOn more => setReceiver (.assembling more s.clock.wallTime) s
  | .lengthError => countLink (fun t => { t with length := bump t.length }) (setReceiver .hunting s)
  | .checksumError => countLink (fun t => { t with checksum := bump t.checksum }) (setReceiver .hunting s)
  | .complete f => completeRequest f (setReceiver .hunting s)

section

variable {s : State} (listens : s.link.held = false)

include listens

theorem exec_character (c : Byte) : exec (.characterReceived c true) s = .next (takeCharacter c s) := by
  show Host.Outcome.next (receiveCharacter c true s) = _
  unfold receiveCharacter
  rw [listens]
  rfl

/-- A character of a frame in progress. -/
theorem exec_assembling {taken : List Byte} {since : Nat} (assembling : s.link.receiver = .assembling taken since) (c : Byte) :
    exec (.characterReceived c true) s = .next (afterTaken s (assemble (taken ++ [c]))) := by
  rw [exec_character listens]
  unfold takeCharacter
  rw [assembling]
  dsimp only
  cases assemble (taken ++ [c]) <;> rfl

end

/-- Settles O52: the receiver in each of its three states. -/
theorem receiver : Obligations.Receiver := by
  refine ⟨Laws.byteSum_eq_sum, fun f fits => ?_, fun c f s command => Steps.exec_request command s,
    fun s => ⟨fun held c ok => ?_, fun listens hunting c => ?_, fun listens f n since c fits within byte assembling => ?_,
      fun listens l0 l1 since assembling range => ?_, fun listens f c0 c1 since fits wrong assembling => ?_,
      fun listens whole c => ?_, fun broken c ok => ?_, fun taken since assembling late => ?_, fun early => ?_,
      fun listens whole => ?_, fun deaf => ?_, ?_⟩⟩
  · obtain ⟨small, zero⟩ := Laws.checksum_brings_zero (covered f)
    refine ⟨_, _, _, _, rfl, le16_ofNat (n := f.payload.length + 2) (by omega), ?_⟩
    show (((covered f).map fun b => b.toNat).sum
      + le16 (BitVec.ofNat 8 (checksum (covered f))) (BitVec.ofNat 8 (checksum (covered f) / 256))) % 65536 = 0
    rw [Laws.byteSum_eq_sum, Nat.mod_add_mod] at zero
    rw [le16_ofNat small, zero]
  · exact congrArg Host.Outcome.next (if_pos held)
  · rw [exec_character listens]
    unfold takeCharacter
    rw [hunting]
    dsimp only
    split
    · rfl
    · rw [← hunting]
  · rw [exec_assembling listens assembling]
    have next : (f.wire.drop 1).take n ++ [c] = (afterSync f).take (n + 1) := by
      have here : (afterSync f)[n]? = some c := byte
      rw [List.take_add_one, here]
      rfl
    rw [length_wire] at within
    have length := length_afterSync f
    have part : n + 1 ≤ (afterSync f).length := by omega
    rw [next, assemble_take fits part, length_wire]
    by_cases more : n + 1 < (afterSync f).length
    · rw [if_pos more, if_pos (by omega)]
      rfl
    · rw [if_neg more, if_neg (by omega)]
      unfold submitFrame
      rw [if_neg (by show ¬ s.link.held = true; rw [listens]; exact Bool.false_ne_true), if_neg (by omega)]
      rfl
  · rw [exec_assembling listens assembling]
    have error : assemble ([l0] ++ [l1]) = .lengthError := by
      show (if lengthOf [l0, l1] < 2 ∨ 1026 < lengthOf [l0, l1] then Taken.lengthError else _) = _
      exact if_pos range
    rw [error]
    rfl
  · rw [exec_assembling listens assembling]
    have length := length_covered f
    have taken : (f.wire.drop 1).take (f.wire.length - 3) ++ [c0] ++ [c1] = covered f ++ [c0, c1] := by
      rw [length_wire, show f.payload.length + 7 - 3 = (covered f).length by omega, wire_eq]
      show (covered f ++ _).take _ ++ _ ++ _ = _
      rw [List.take_left, List.append_assoc]
      rfl
    have check : f.wire.drop (f.wire.length - 2) = u16 (checksum (covered f)) := by
      rw [length_wire, show f.payload.length + 7 - 2 = (covered f).length + 1 by omega, wire_eq, List.drop_succ_cons]
      exact List.drop_left
    rw [taken, assemble_wrong fits (by rwa [← check])]
    rfl
  · show Host.Outcome.next (receiveCharacter c false s) = _
    unfold receiveCharacter framingError
    rw [listens]
    cases state : s.link.receiver with
    | broken => exact absurd state whole
    | hunting =>
      show Host.Outcome.next { s with link := { s.link with
        stats := { s.link.stats with framing := min (s.link.stats.framing + 1) 65535 } } } = _
      rw [← state]
    | assembling taken since => rfl
  · show Host.Outcome.next (receiveCharacter c ok s) = _
    unfold receiveCharacter takeCharacter framingError
    rw [broken]
    simp only [ite_self]
  · show Host.Outcome.next (expireGap s) = _
    unfold expireGap
    rw [assembling]
    exact congrArg Host.Outcome.next (if_pos late)
  · show Host.Outcome.next (expireGap s) = _
    unfold expireGap
    cases state : s.link.receiver with
    | hunting => rfl
    | broken => rfl
    | assembling taken since => exact congrArg Host.Outcome.next (if_neg (not_lt.mpr (early taken since state)))
  · show Host.Outcome.next (takeBreak s) = _
    unfold takeBreak
    rw [listens]
    cases state : s.link.receiver with
    | broken => exact absurd state whole
    | hunting => rfl
    | assembling taken since => rfl
  · show Host.Outcome.next (takeBreak s) = _
    unfold takeBreak
    rcases deaf with held | broken
    · rw [if_pos held]
    · rw [broken]
      simp only [ite_self]
  · show Host.Outcome.next (endBreak s) = _
    unfold endBreak
    cases state : s.link.receiver with
    | broken => rfl
    | hunting => rfl
    | assembling taken since => rfl

end Sys2Proof.LinkReceiver
end

section
/-! The transmitter and the notice queue (R184 to R188, R192 to R194): O53. -/

namespace Sys2Proof.LinkTransmitter

open Sys2Proof Sys2Proof.Machine Sys2Proof.Codec Sys2Proof.LinkOrder Sys2Proof.LinkRequests

/-! ## The codes, the forms and the layouts -/

theorem codeTables : CodeTables where
  taper := rfl
  takeover := rfl
  release := rfl
  ownership := rfl
  side := rfl
  kind := rfl
  mode := rfl
  law := rfl
  curve := rfl
  timeBase := rfl
  phase _ := rfl
  reason := rfl
  clockState := rfl
  source := rfl
  edge := rfl
  follow := rfl
  calibration := rfl
  calPhase := rfl
  lane := rfl
  laneState := rfl
  rate := rfl
  fireCause := rfl
  takeoverCause := rfl
  clockCause := rfl
  moduleCause := rfl
  laneCause := rfl
  stopCause := rfl
  status := rfl

theorem fieldForms : FieldForms where
  one _ bound := ⟨_, rfl, toNat_ofNat bound⟩
  two _ bound := ⟨_, _, rfl, le16_ofNat bound⟩
  three _ bound := ⟨_, _, _, rfl, le24_ofNat bound⟩
  four _ bound := ⟨_, _, _, _, rfl, le32_ofNat bound⟩
  signed x low high := by
    refine ⟨_, _, rfl, ?_⟩
    show ((le16 _ _ : Nat) : Int) = _
    rw [le16_ofNat (BitVec.ofInt 16 x).isLt, BitVec.toNat_ofInt]
    split <;> omega
  read _ _ := rfl
  readSigned b0 b1 := by
    have small := le16_lt b0 b1
    unfold les16
    rw [BitVec.toInt_eq_toNat_cond, BitVec.toNat_ofNat, Nat.mod_eq_of_lt small]
    unfold le16 at small ⊢
    split
    · rw [if_pos (by omega)]
    · rw [if_neg (by omega)]
      rfl
  onOff := ⟨rfl, rfl⟩

theorem originLayout : OriginLayout where
  cue _ _ := rfl
  live _ := rfl
  back _ := rfl
  rejoin _ := rfl

theorem noticeLayouts : NoticeLayouts where
  moveRetired _ _ _ _ := ⟨rfl, rfl⟩
  cueFired _ _ _ _ _ _ := ⟨rfl, rfl⟩
  followDropped _ _ _ := ⟨rfl, rfl⟩
  rejoinDropped _ := ⟨rfl, rfl⟩
  takeover _ _ _ _ side _ _ _ := ⟨rfl, by cases side with | none => rfl | some side => cases side <;> rfl⟩
  clock _ _ _ _ := ⟨rfl, rfl⟩
  module _ _ _ _ := ⟨rfl, rfl⟩
  calibrated _ _ := ⟨rfl, rfl⟩
  aborted _ cause _ := ⟨rfl, by cases cause <;> rfl⟩
  lane _ _ _ _ _ _ := ⟨rfl, rfl⟩
  stop _ _ _ _ _ _ := ⟨rfl, rfl⟩
  origin := originLayout
  standby := ⟨rfl, fun _ => rfl⟩

/-! ## The notice queue -/

theorem queue_of_entersAtOnce {k : Link} {n : Notice} (enters : EntersAtOnce k n) : k.queue n = k.post n := by
  rcases enters with none | other
  · exact Link.queue_of_none n none
  · refine Link.queue_of_other k ?_
    cases n with
    | moveRetired slot kind origin reason => exact absurd rfl (other slot kind origin reason)
    | _ => rfl

theorem noticeQueue (k : Link) : NoticeQueue k where
  disabled n enters off := by
    rw [queue_of_entersAtOnce enters]
    exact if_pos (by rw [off]; rfl)
  joins n enters on room := by
    rw [queue_of_entersAtOnce enters]
    exact (if_neg (by rw [on]; exact Bool.false_ne_true)).trans (if_pos room)
  dropped n enters on full := by
    rw [queue_of_entersAtOnce enters]
    exact (if_neg (by rw [on]; exact Bool.false_ne_true)).trans (if_neg (not_lt.mpr full))
  waits r rs waiting := by
    have placed : k.queue r.notice = { k with instant := some (placeRetired r.slot r.notice (rs.map Retirement.notice)) } := by
      unfold Link.queue
      rw [waiting]
      rfl
    rw [placed]
    unfold placeRetired
    rw [List.filter_map, List.filter_map, List.map_append, List.map_cons]
    have before : (fun m : Notice => !m.standsAfter r.slot) ∘ Retirement.notice = fun x => decide (x.slot ≤ r.slot) := by
      funext x
      show (!decide (r.slot < x.slot)) = _
      rw [← decide_not]
      exact decide_eq_decide.mpr not_lt
    rw [before]
    rfl

/-! ## The end of a frame -/

section

variable {s : State} (sends : s.link.tx ≠ none)

include sends

theorem exec_transmitEnd : exec .transmitEnd s = .next (pump (updLink (fun k => { k with tx := none }) s)) :=
  congrArg Host.Outcome.next (if_pos (Option.ne_none_iff_isSome.mp sends))

end

/-- What an IDLE transmitter chooses (R186, R187). -/
theorem choose_reply {s : State} {r : Frame} (released : s.link.held = false) (idle : s.link.tx = none)
    (reply : s.link.reply = some r) : choose s = { s with link := { s.link with reply := none, tx := some r.wire } } := by
  unfold choose Link.choose
  rw [released, idle]
  simp only [updLink, reply]
  rfl

theorem choose_notice {s : State} {n : Notice} {rest : List Notice} (released : s.link.held = false) (idle : s.link.tx = none)
    (reply : s.link.reply = none) (notices : s.link.notices = n :: rest) : choose s = { s with link := { s.link with
      tx := some (Frame.wire ⟨BitVec.ofNat 8 (0xE0 + n.bit), 0, flag s.link.overflow ++ n.fields⟩)
      notices := rest, overflow := false } } := by
  unfold choose Link.choose
  rw [released, idle]
  simp only [updLink, reply, notices]
  rfl

theorem choose_nothing {s : State} (reply : s.link.reply = none) (notices : s.link.notices = []) : choose s = s := by
  unfold choose Link.choose
  simp only [updLink, reply, notices]
  exact ite_self _

/-- Settles O53: the tables, the notice queue and the transmitter's choices. -/
theorem transmitter : Obligations.Transmitter := by
  refine ⟨codeTables, fieldForms, noticeLayouts, noticeQueue, fun s idle => ?_, fun s r held sends reply empty => ?_,
    fun s r f rest held sends reply queue => ?_, fun s n rest held sends reply empty notices => ?_,
    fun s held sends reply empty notices => ?_, fun s idle reply notices => ?_, fun s n rest idle reply notices => ?_⟩
  · exact congrArg Host.Outcome.next (if_neg (by rw [idle]; exact Bool.false_ne_true))
  · rw [exec_transmitEnd sends, pump_of_empty (by exact empty), choose_reply (by exact held) rfl (by exact reply)]
    rfl
  · rw [exec_transmitEnd sends]
    unfold pump
    have waits : (updLink (fun k => { k with tx := none }) s).link.reply.isSome = true := by
      show s.link.reply.isSome = true
      rw [reply]
      rfl
    rw [dispatchHead_of_reply waits, choose_reply (by exact held) rfl (by exact reply)]
    unfold dispatchHead
    simp only [updLink, held, queue]
    rfl
  · rw [exec_transmitEnd sends, pump_of_empty (by exact empty), choose_notice (by exact held) rfl (by exact reply) (by exact notices)]
    rfl
  · rw [exec_transmitEnd sends, pump_of_empty (by exact empty), choose_nothing (by exact reply) (by exact notices)]
    rfl
  · exact congrArg Host.Outcome.next (choose_nothing (by exact reply) (by exact notices))
  · exact congrArg Host.Outcome.next (choose_notice rfl (by exact idle) (by exact reply) (by exact notices))

end Sys2Proof.LinkTransmitter
end

section
/-! The seven queries and the fields they report (R35, R77, R91, R115, R134, R172, R190, R194): O36. -/

namespace Sys2Proof.Queries

open Sys2Proof Sys2Proof.Machine Sys2Proof.Codec

/-! ## The composite fields -/

theorem laneEntries_eq (s : State) (k : Slot) : laneEntries s k =
    (List.finRange 64).flatMap (fun c =>
      (s.chans[c].claim.toList.filter fun cl => cl.slot = k).flatMap fun cl =>
        u8 c.val ++ s16 cl.start ++ s16 cl.target ++ s16 (liveLevel s c))
    ++ (List.finRange 8).flatMap fun g =>
      (s.groups[g].claim.toList.filter fun cl => cl.slot = k).flatMap fun cl =>
        u8 g.val ++ s16 cl.start ++ s16 cl.target ++ s16 (liveOffset s g) := by
  have entry (claim : Option Claim) (bytes : Claim → List Byte) :
      (match claim with
        | some cl => if cl.slot = k then bytes cl else []
        | none => []) = (claim.toList.filter fun cl => cl.slot = k).flatMap bytes := by
    cases claim with
    | none => rfl
    | some cl => by_cases here : cl.slot = k <;> simp [here]
  unfold laneEntries
  refine congrArg₂ (· ++ ·) (congrArg (fun f => (allFin 64).flatMap f) (funext fun c => ?_))
    (congrArg (fun f => (allFin 8).flatMap f) (funext fun g => ?_))
  · exact entry s.chans[c].claim _
  · exact entry s.groups[g].claim _

theorem reportLayouts : ReportLayouts where
  claim := ⟨rfl, fun _ => rfl⟩
  strip := ⟨rfl, fun m j => by
    show flag true ++ u8 ((8 * m.val + j.val) / 8) ++ u8 ((8 * m.val + j.val) % 8) = _
    rw [show (8 * m.val + j.val) / 8 = m.val by omega, show (8 * m.val + j.val) % 8 = j.val by omega]
    rfl⟩
  binding := ⟨rfl, fun _ => rfl⟩
  spec := ⟨rfl, fun _ => rfl, fun _ => rfl, fun _ => rfl, fun _ => rfl⟩
  origin := LinkTransmitter.originLayout
  standby := ⟨rfl, fun _ => rfl⟩
  due t := ⟨fun small => if_pos (Nat.le_pred_of_lt small), by unfold dueField; split <;> rfl⟩
  start := ⟨rfl, fun _ => rfl⟩
  pendingSet := ⟨fun _ => rfl, fun ls => by
    show u8 (ls.map (·.1)).length ++ (ls.map (·.1)).flatMap (fun c => u8 c.val) = _
    rw [List.length_map, List.flatMap_map], fun _ _ => ⟨rfl, rfl⟩⟩
  lanes := laneEntries_eq
  follow := ⟨rfl, fun _ => rfl⟩
  watch := ⟨rfl, fun _ => rfl⟩
  recalls := ⟨rfl, fun _ _ => rfl⟩
  settings _ := rfl
  pendingSettings := ⟨rfl, fun _ => rfl⟩
  lane _ := rfl

/-- The strip of a channel is the first one bound to it (R126). -/
theorem stripOf_eq_some (s : State) (c : Chan) (i : StripId) : stripOf s c = some i ↔
    s.surf.strips[i].binding = some c ∧ ∀ j : StripId, j < i → s.surf.strips[j].binding ≠ some c := by
  unfold stripOf allFin
  rw [List.find?_eq_some_iff_getElem]
  simp only [beq_iff_eq, List.getElem_finRange, List.length_finRange, Bool.not_eq_true', beq_eq_false_iff_ne]
  refine and_congr_right fun _ => ⟨?_, fun first => ⟨i.val, i.isLt, rfl, fun j less => first ⟨j, by omega⟩ less⟩⟩
  rintro ⟨n, bound, rfl, first⟩ j less
  exact first j.val less

theorem unitWords : UnitWords where
  pair _ := ⟨rfl, rfl⟩
  pairOf _ := rfl
  linked _ _ := rfl
  unit := Laws.mem_unitChans
  lower s c := by
    unfold unitLower unitChans
    split
    · refine ⟨List.mem_cons_self, fun d mem => ?_⟩
      simp only [List.mem_cons, List.not_mem_nil, or_false] at mem
      rcases mem with rfl | rfl
      · exact le_rfl
      · exact Fin.mk_le_mk.mpr (Nat.le_succ _)
    · refine ⟨List.mem_cons_self, fun d mem => ?_⟩
      rw [List.mem_singleton.mp mem]
  member _ _ _ := rfl
  members s g := ⟨LanesReset.pairwise_filter_finRange _, fun c =>
    List.mem_filter.trans (and_iff_right (List.mem_finRange c))⟩
  strip s c := ⟨stripOf_eq_some s c, by
    simp only [stripOf, List.find?_eq_none, allFin, List.mem_finRange, true_implies, beq_iff_eq]⟩
  strips m j := ⟨rfl, Fin.ext (show (8 * m.val + j.val) / 8 = m.val by omega), rfl⟩
  pool store := by rw [List.length_flatMap]; rfl

/-! ## The queries -/

theorem sideField_eq (side : Option Side) : sideField side = u8 (if side = some .below then 1 else 0) := by
  cases side with
  | none => rfl
  | some side => cases side <;> rfl

theorem timerField_eq (timer : Option Nat) : timerField timer = flag timer.isSome ++ u32 (timer.getD 0) := by
  cases timer <;> rfl

theorem accept_eq (p : List Byte) (s : State) : accept p s = (s, [0x00] ++ p) := rfl

theorem edgeField_eq (rising : Bool) : u8 (edgeCode rising) = flag (!rising) := by
  cases rising <;> rfl

theorem reqChannelQuery_eq (c : Chan) (u : State) : reqChannelQuery (u8 c.val) u = accept (channelReport u c) u := by
  show reqChannelQuery [BitVec.ofNat 8 c.val] u = _
  unfold reqChannelQuery
  simp only [asChan_ofNat]

theorem reqMoveQuery_free {k : Slot} {u : State} (free : u.moves[k] = none) :
    reqMoveQuery (u8 k.val) u = accept (u8 k.val ++ u8 0) u := by
  show reqMoveQuery [BitVec.ofNat 8 k.val] u = _
  unfold reqMoveQuery
  simp only [asSlot_ofNat, free]

theorem reqMoveQuery_occupied {k : Slot} {mv : Move} {u : State} (occupied : u.moves[k] = some mv) :
    reqMoveQuery (u8 k.val) u = accept (moveReport u k mv) (if mv.isRecorded then tickFree u else u) := by
  show reqMoveQuery [BitVec.ofNat 8 k.val] u = _
  unfold reqMoveQuery
  simp only [asSlot_ofNat, occupied]

theorem channelReport_eq (s : State) (c : Chan) : channelReport s c =
    u8 c.val ++ flag (isLinked s c) ++ s16 s.chans[c].base ++ s16 s.chans[c].trim
      ++ s16 s.chans[c].cueLevel ++ claimField s.chans[c].claim ++ s16 (liveLevel s c)
      ++ s16 (composedLevel s c) ++ s16 (effectiveLevel s c) ++ flag (ceilingFlag s c)
      ++ flag s.chans[c].ownMute ++ flag (composedMute s c) ++ s16 s.chans[c].atten
      ++ u16 (rampInForce s c) ++ u16 s.chans[c].ramp ++ u8 s.chans[c].groups.toNat
      ++ u8 s.chans[c].taper.code ++ u8 s.chans[c].mode.code ++ u8 s.chans[c].policy.code
      ++ flag s.chans[c].safe ++ flag s.chans[c].announce ++ u8 s.chans[c].ownership.code
      ++ u8 (if s.chans[c].side = some .below then 1 else 0) ++ stripField (stripOf s c) := by
  unfold channelReport
  dsimp only
  rw [sideField_eq]

/-- A report of a channel does not read the link. -/
theorem channelReport_received (s : State) (c : Chan) : channelReport (received s) c = channelReport s c := rfl

/-- Mode and value of a move's report (R77; log entry 10). -/
theorem modeValueField_eq (mv : Move) (n : Nat) : ∃ mode value : List Byte, mode.length = 1 ∧ value.length = 2 ∧
    (mv.isRecorded = false → mode = u8 mv.mode.code ∧ value = s16 mv.value) ∧ modeValueField mv n = mode ++ value := by
  unfold modeValueField
  cases mv.isRecorded with
  | true => exact ⟨[Config.recordedMode n], u16 (Config.recordedValue n).toNat, rfl, rfl, Bool.noConfusion, rfl⟩
  | false => exact ⟨u8 mv.mode.code, s16 mv.value, rfl, rfl, fun _ => ⟨rfl, rfl⟩, rfl⟩

/-- Settles O36: the layouts and each report. -/
theorem stateQueries : Obligations.StateQueries := by
  refine ⟨reportLayouts, unitWords, fun tag s idle => ⟨exec_idle rfl idle (by simp) rfl, fun c => ?_, fun k free => ?_,
    fun k mv occupied => ?_, ?_, exec_idle rfl idle (by simp) rfl, exec_idle rfl idle (by simp) rfl,
    exec_idle rfl idle (by simp) rfl⟩⟩
  · have served : serve ⟨0x11, tag, u8 c.val⟩ (received s) = accept (channelReport s c) (received s) :=
      (reqChannelQuery_eq c (received s)).trans (congrArg (fun p => accept p (received s)) (channelReport_received s c))
    rw [← channelReport_eq]
    exact exec_idle rfl idle (by simp [u8]) (served.trans (accept_eq _ _))
  · exact exec_idle rfl idle (by simp [u8]) (reqMoveQuery_free (u := received s) free)
  · obtain ⟨mode, value, one, two, own, field⟩ := modeValueField_eq mv s.freeCount
    refine ⟨mode, value, one, two, own, exec_idle rfl idle (by simp [u8]) ((reqMoveQuery_occupied (u := received s) occupied).trans ?_)⟩
    rw [← field]
    rfl
  · refine exec_idle rfl idle (by simp) ?_
    rw [List.append_assoc _ (flag s.clock.lossTimer.isSome), ← timerField_eq, ← edgeField_eq]
    rfl

end Sys2Proof.Queries
end

section
/-! SUPPORT. The strips and modules of the surface: touches that turn off, strips that are disarmed or bound anew, modules
that go OFFLINE (R120, R123, R125, R127, R163). -/

namespace Sys2Proof.SurfaceLayer

open Sys2Proof Sys2Proof.Machine

/-! ## Changes of the surface alone -/

/-- From s to w nothing but the surface changes. -/
structure OnlySurf (s w : State) : Prop where
  rest : { w with surf := s.surf } = s

namespace OnlySurf

theorem refl (s : State) : OnlySurf s s := ⟨rfl⟩

theorem trans {a b c : State} (h : OnlySurf a b) (h' : OnlySurf b c) : OnlySurf a c :=
  ⟨(congrArg (fun u : State => { u with surf := a.surf }) h'.rest).trans h.rest⟩

theorem updSurf (f : Surface → Surface) (s : State) : OnlySurf s (updSurf f s) := ⟨rfl⟩

theorem foldl {α : Type} {step : State → α → State} (h : ∀ s a, OnlySurf s (step s a)) (l : List α) (s : State) :
    OnlySurf s (l.foldl step s) :=
  List.foldlRecOn (motive := fun t => OnlySurf s t) l _ (.refl s) fun t only a _ => only.trans (h t a)

end OnlySurf

theorem getStrip_updStrip (i j : StripId) (f : Strip → Strip) (s : State) :
    (updStrip i f s).surf.strips[j] = if i = j then f s.surf.strips[i] else s.surf.strips[j] := by
  obtain ⟨i, hi⟩ := i
  obtain ⟨j, hj⟩ := j
  simp only [updStrip, updSurf, Fin.getElem_fin, Vector.getElem_set, Fin.mk.injEq]

theorem getModule_updModule (m n : ModuleId) (f : SurfaceModule → SurfaceModule) (s : State) :
    (updModule m f s).surf.modules[n] = if m = n then f s.surf.modules[m] else s.surf.modules[n] := by
  obtain ⟨m, hm⟩ := m
  obtain ⟨n, hn⟩ := n
  simp only [updModule, updSurf, Fin.getElem_fin, Vector.getElem_set, Fin.mk.injEq]

/-- Two surfaces that differ in their strips only. -/
structure SameButStrips (u u' : Surface) : Prop where
  rest : { u' with strips := u.strips } = u

theorem SameButStrips.trans {a b c : Surface} (h : SameButStrips a b) (h' : SameButStrips b c) : SameButStrips a c :=
  ⟨(congrArg (fun u : Surface => { u with strips := a.strips }) h'.rest).trans h.rest⟩

/-- From u to u' the strips of a list were rewritten, each once, and nothing else of the surface. -/
structure Strips (l : List StripId) (f : StripId → Strip → Strip) (u u' : Surface) : Prop extends SameButStrips u u' where
  strips : ∀ j : StripId, u'.strips[j] = if j ∈ l then f j u.strips[j] else u.strips[j]

theorem Strips.of_foldl {step : State → StripId → State} {f : StripId → Strip → Strip} : ∀ {l : List StripId} (_ : l.Nodup)
    {s : State} (_ : ∀ (t : State) (i : StripId), SameButStrips s.surf t.surf →
      (step t i).surf = (updStrip i (f i) t).surf), Strips l f s.surf (l.foldl step s).surf
  | [], _, s, _ => ⟨⟨rfl⟩, fun _ => rfl⟩
  | i :: l, nodup, s, h => by
    obtain ⟨fresh, nodup⟩ := List.nodup_cons.mp nodup
    have first : (step s i).surf = (updStrip i (f i) s).surf := h s i ⟨rfl⟩
    have settings : SameButStrips s.surf (step s i).surf := ⟨by rw [first]; rfl⟩
    obtain ⟨rest, strips⟩ := Strips.of_foldl nodup (s := step s i) fun t j same => h t j (settings.trans same)
    refine ⟨settings.trans rest, fun j => ?_⟩
    rw [List.foldl_cons, strips, first, getStrip_updStrip]
    by_cases e : i = j
    · rw [if_neg (e ▸ fresh), if_pos e, if_pos (e ▸ List.mem_cons_self), e]
    · rw [if_neg e]
      exact if_congr (by simp [Ne.symm e]) rfl rfl

theorem Strips.trans {l : List StripId} {f g : StripId → Strip → Strip} {a b c : Surface} (h : Strips l f a b)
    (h' : Strips l g b c) : Strips l (fun i t => g i (f i t)) a c where
  strips j := by
    rw [h'.strips, h.strips]
    split <;> rfl
  toSameButStrips := h.toSameButStrips.trans h'.toSameButStrips

/-! ## Touches that turn off (R125) -/

/-- A strip whose qualified touch turned off. -/
def untouched (t : Strip) : Strip := { t with touch := false, counter := 0 }

theorem dropTouch_idle {i : StripId} {s : State} (idle : s.surf.strips[i].touch = false) :
    dropTouch i s = updStrip i untouched s :=
  if_neg (by rw [idle]; exact Bool.false_ne_true)

theorem dropTouch_surf (i : StripId) (s : State) : (dropTouch i s).surf = (updStrip i untouched s).surf := by
  unfold dropTouch
  dsimp only
  split
  · split
    · split
      · rfl
      · exact (deliverRelease_show _ _).surf
    · rfl
  · rfl

theorem dropTouch_drops (i : StripId) (s : State) : DropsTouch i s (dropTouch i s) where
  idle idle := by
    have same : untouched s.surf.strips[i] = { s.surf.strips[i] with counter := 0 } := by
      rw [untouched, ← idle]
    rw [dropTouch_idle idle, ← same]
    rfl
  touched touched := by
    refine ⟨updStrip i untouched s, rfl, fun blank => ?_, fun c bound => ?_⟩
    · unfold dropTouch
      rw [if_pos touched, blank]
      rfl
    · unfold dropTouch
      rw [if_pos touched, bound]
      rfl

theorem dropTouches_drop : ∀ (l : List StripId) (s : State), DropsTouches l s (l.foldl (fun s i => dropTouch i s) s)
  | [], _ => rfl
  | i :: l, s => ⟨dropTouch i s, dropTouch_drops i s, dropTouches_drop l (dropTouch i s)⟩

theorem dropTouches_strips {l : List StripId} (nodup : l.Nodup) (s : State) :
    Strips l (fun _ => untouched) s.surf (l.foldl (fun s i => dropTouch i s) s).surf :=
  .of_foldl nodup fun t i _ => dropTouch_surf i t

/-- Where no strip was touched no release is delivered. -/
theorem dropTouches_untouched : ∀ {l : List StripId} {s : State}, (∀ i ∈ l, s.surf.strips[i].touch = false) →
    OnlySurf s (l.foldl (fun s i => dropTouch i s) s)
  | [], s, _ => .refl s
  | i :: l, s, idle => by
    rw [List.foldl_cons, dropTouch_idle (idle i List.mem_cons_self)]
    refine (OnlySurf.updSurf _ s).trans (dropTouches_untouched fun j mem => ?_)
    show (updStrip i untouched s).surf.strips[j].touch = false
    rw [getStrip_updStrip]
    split
    · rfl
    · exact idle j (List.mem_cons_of_mem i mem)

/-- The touches of a list turn off, and then its strips are rewritten. -/
theorem releasesTouches {step : State → StripId → State} (only : ∀ s i, OnlySurf s (step s i)) (l : List StripId) (s : State) :
    ReleasesTouches l s (l.foldl step (l.foldl (fun s i => dropTouch i s) s)) where
  released := ⟨_, dropTouches_drop l s, (OnlySurf.foldl only l _).rest⟩
  untouched idle := ((dropTouches_untouched idle).trans (.foldl only l _)).rest

theorem ReleasesTouches.then {l : List StripId} {s w w' : State} (h : ReleasesTouches l s w) (only : OnlySurf w w') :
    ReleasesTouches l s w' where
  released := by
    obtain ⟨u, drops, rest⟩ := h.released
    exact ⟨u, drops, (congrArg (fun t : State => { t with surf := u.surf }) only.rest).trans rest⟩
  untouched idle := (congrArg (fun t : State => { t with surf := s.surf }) only.rest).trans (h.untouched idle)

/-! ## A module's strips (R120, R156) -/

theorem mem_stripsOf (m : ModuleId) (i : StripId) : i ∈ stripsOf m ↔ moduleOf i = m := by
  unfold stripsOf allFin
  simp only [List.mem_map, List.mem_finRange, true_and]
  constructor
  · rintro ⟨j, rfl⟩
    exact Fin.ext (show (8 * m.val + j.val) / 8 = m.val by omega)
  · rintro rfl
    exact ⟨⟨i.val % 8, by omega⟩, Fin.ext (show 8 * (i.val / 8) + i.val % 8 = i.val by omega)⟩

theorem stripsOf_nodup (m : ModuleId) : (stripsOf m).Nodup := by
  refine List.Nodup.map (fun a b same => ?_) (List.nodup_finRange 8)
  have : 8 * m.val + a.val = 8 * m.val + b.val := congrArg Fin.val same
  exact Fin.ext (by omega)

theorem disarm_only (s : State) (i : StripId) : OnlySurf s (disarm i s) := ⟨rfl⟩

/-- The strips of a list untouched and disarmed. -/
theorem disarms_strips {l : List StripId} (nodup : l.Nodup) (s : State) :
    Strips l (fun _ => disarmed) s.surf (l.foldl (fun s i => disarm i s) (l.foldl (fun s i => dropTouch i s) s)).surf :=
  (dropTouches_strips nodup s).trans (.of_foldl (f := fun _ => disarmed) nodup fun _ _ _ => rfl)

theorem disarms_releases (l : List StripId) (s : State) :
    ReleasesTouches l s (l.foldl (fun s i => disarm i s) (l.foldl (fun s i => dropTouch i s) s)) :=
  releasesTouches (step := fun s i => disarm i s) disarm_only l s

theorem withdrawStrips_releases (m : ModuleId) (s : State) : ReleasesTouches (stripsOf m) s (withdrawStrips m s) :=
  disarms_releases (stripsOf m) s

theorem withdrawStrips_strips (m : ModuleId) (s : State) : Strips (stripsOf m) (fun _ => disarmed) s.surf (withdrawStrips m s).surf :=
  disarms_strips (stripsOf_nodup m) s

/-- The notices of a module that goes OFFLINE (R120, R163, R164). -/
def offlineNotices (m : ModuleId) (cause : ModuleCause) (r : SurfaceModule) : List Notice :=
  .module m false cause r.totalMisses :: if r.phase = .none then [] else [.calibrationAborted m cause r.phase]

/-- A module that goes OFFLINE, before its strips are withdrawn. -/
def offline (m : ModuleId) (cause : ModuleCause) (s : State) : State :=
  { s with
    surf := { s.surf with modules := s.surf.modules.set m (offlineRecord s.surf.modules[m]) }
    link := queueAll (offlineNotices m cause s.surf.modules[m]) s.link }

theorem goOffline_eq (m : ModuleId) (cause : ModuleCause) (s : State) : goOffline m cause s = withdrawStrips m (offline m cause s) := by
  have before : moduleNotice m cause (updModule m (fun r => { r with online := false, misses := 0 }) s) = { s with
      surf := { s.surf with modules := s.surf.modules.set m { s.surf.modules[m] with online := false, misses := 0 } }
      link := s.link.queue (.module m false cause s.surf.modules[m].totalMisses) } := by
    simp only [moduleNotice, queueNotice, updModule, updSurf, Fin.getElem_fin, Vector.getElem_set_self]
  unfold goOffline
  rw [before]
  refine congrArg (withdrawStrips m) ?_
  unfold abortCalibration isCalibrating offline offlineNotices offlineRecord
  simp only [Fin.getElem_fin, Vector.getElem_set_self, bne_iff_ne, ne_eq]
  by_cases idle : s.surf.modules[m.val].phase = .none
  · rw [if_neg (not_not.mpr idle), if_pos idle, if_pos idle, if_pos idle, if_pos idle, ← idle]
    rfl
  · rw [if_pos idle, if_neg idle, if_neg idle, if_neg idle, if_neg idle]
    simp only [queueNotice, updModule, updSurf, Fin.getElem_fin, Vector.getElem_set_self, Vector.set_set]
    rfl

theorem goOffline_goesOffline (m : ModuleId) (cause : ModuleCause) (s : State) : GoesOffline m cause s (goOffline m cause s) := by
  rw [goOffline_eq]
  have releases := withdrawStrips_releases m (offline m cause s)
  obtain ⟨⟨rest⟩, strips⟩ := withdrawStrips_strips m (offline m cause s)
  generalize withdrawStrips m (offline m cause s) = w at releases rest strips
  have modules : w.surf.modules = s.surf.modules.set m (offlineRecord s.surf.modules[m]) := (congrArg Surface.modules rest :)
  refine ⟨modules, fun i => (strips i).trans (if_congr (mem_stripsOf m i) rfl rfl),
    (congrArg (fun u : Surface => { u with modules := s.surf.modules }) rest :), ?_⟩
  rw [modules]
  exact releases

theorem goOffline_fold (cause : ModuleCause) (l : List ModuleId) (s : State) :
    GoOffline cause l s (l.foldl (fun s m => goOffline m cause s) s) := by
  induction l generalizing s with
  | nil => rfl
  | cons m l ih =>
    rw [List.foldl_cons]
    unfold GoOffline
    exact ⟨goOffline m cause s, goOffline_goesOffline m cause s, ih (goOffline m cause s)⟩

/-! ## Bindings (R126, R127) -/

/-- A strip that is bound anew. -/
def reboundTo (b : Option Chan) (t : Strip) : Strip := { t with binding := b, touch := false, counter := 0, armed := false }

theorem SameButStrips.bindingOf {u u' : Surface} (same : SameButStrips u u') (i : StripId) : Machine.bindingOf u' i = Machine.bindingOf u i := by
  have expected : u'.expected = u.expected := (congrArg Surface.expected same.rest :)
  have offsetA : u'.offsetA = u.offsetA := (congrArg Surface.offsetA same.rest :)
  have offsetB : u'.offsetB = u.offsetB := (congrArg Surface.offsetB same.rest :)
  have split : u'.split = u.split := (congrArg Surface.split same.rest :)
  unfold Machine.bindingOf candidateOf
  simp only [expected, offsetA, offsetB, split]

theorem changedStrips_nodup (s : State) : (changedStrips s).Nodup := (List.nodup_finRange 32).filter _

theorem mem_changedStrips (s : State) (i : StripId) : i ∈ changedStrips s ↔ bindingOf s.surf i ≠ s.surf.strips[i].binding := by
  unfold changedStrips allFin
  simp only [List.mem_filter, List.mem_finRange, true_and, bne_iff_ne]

/-- A strip takes the binding of the settings in force and is disarmed (R127). -/
def rebindStrip (s : State) (i : StripId) : State :=
  disarm i (updStrip i (fun t => { t with binding := bindingOf s.surf i }) s)

theorem rebindStrip_only (s : State) (i : StripId) : OnlySurf s (rebindStrip s i) := ⟨rfl⟩

theorem rebindStrip_surf (i : StripId) (s : State) :
    (rebindStrip s i).surf = (updStrip i (reboundTo (bindingOf s.surf i)) s).surf := by
  unfold rebindStrip disarm updStrip updSurf
  simp only [Fin.getElem_fin, Vector.getElem_set_self, Vector.set_set]
  rfl

theorem rebind_releases (s : State) : ReleasesTouches (changedStrips s) s (rebind s) :=
  releasesTouches (step := rebindStrip) rebindStrip_only (changedStrips s) s

theorem rebind_strips (s : State) :
    Strips (changedStrips s) (fun i => reboundTo (bindingOf s.surf i)) s.surf (rebind s).surf := by
  have dropped := dropTouches_strips (changedStrips_nodup s) s
  refine dropped.trans (g := fun i => reboundTo (bindingOf s.surf i)) (.of_foldl (step := rebindStrip) (changedStrips_nodup s)
    fun t i same => ?_)
  rw [rebindStrip_surf, (dropped.toSameButStrips.trans same).bindingOf]

theorem rebind_binding (s : State) (i : StripId) : (rebind s).surf.strips[i].binding = bindingOf (rebind s).surf i := by
  obtain ⟨rest, strips⟩ := rebind_strips s
  rw [rest.bindingOf, strips]
  split
  · rfl
  · rename_i same
    exact (not_not.mp (mt (mem_changedStrips s i).mpr same)).symm

end Sys2Proof.SurfaceLayer
end

section
/-! The surface's requests and its misses (R119, R120, R126 to R128, R133, R156, R157): O37, O38, O39 and O44. -/

namespace Sys2Proof.SurfaceRequests

open Sys2Proof Sys2Proof.Machine Sys2Proof.Codec Sys2Proof.SurfaceLayer

/-! ## The bindings (R126) -/

/-- The candidate as R126 writes it, from a strip's module and its place there. -/
theorem candidateOf_eq (u : Surface) (j : StripId) : candidateOf u j =
    if j.val / 8 < u.split then u.offsetA + 8 * (j.val / 8) + j.val % 8
    else u.offsetB + 8 * (j.val / 8 - u.split) + j.val % 8 := by
  unfold candidateOf
  dsimp only
  split
  · omega
  · rfl

theorem bindingRule (u : Surface) : BindingRule u where
  bound i := by
    simp only [← candidateOf_eq]
    cases bound : bindingOf u i with
    | some c =>
      obtain ⟨expected, candidate, lowest⟩ := (Laws.bindingOf_eq_some u i c).mp bound
      rw [if_pos ⟨expected, candidate ▸ c.isLt, lowest⟩, candidate]
      rfl
    | none =>
      refine (if_neg fun ⟨expected, small, lowest⟩ => ?_).symm
      have some := (Laws.bindingOf_eq_some u i ⟨candidateOf u i, small⟩).mpr ⟨expected, rfl, lowest⟩
      rw [bound] at some
      cases some
  once i j c atI atJ := by
    obtain ⟨-, candidateI, lowestI⟩ := (Laws.bindingOf_eq_some u i c).mp atI
    obtain ⟨-, candidateJ, lowestJ⟩ := (Laws.bindingOf_eq_some u j c).mp atJ
    have same : candidateOf u i = candidateOf u j := candidateI.trans candidateJ.symm
    rcases lt_trichotomy i j with less | rfl | more
    · exact absurd same (lowestJ i less)
    · rfl
    · exact absurd same.symm (lowestI j more)

/-- A strip after a rebinding, by the binding it then has. -/
theorem rebind_strip (s : State) (i : StripId) : (rebind s).surf.strips[i] =
    if (rebind s).surf.strips[i].binding = s.surf.strips[i].binding then s.surf.strips[i]
    else reboundTo (rebind s).surf.strips[i].binding s.surf.strips[i] := by
  have own : (rebind s).surf.strips[i].binding = bindingOf s.surf i :=
    (rebind_binding s i).trans ((rebind_strips s).bindingOf i)
  rw [own]
  refine ((rebind_strips s).strips i).trans ?_
  by_cases same : bindingOf s.surf i = s.surf.strips[i].binding
  · rw [if_neg fun mem => (mem_changedStrips s i).mp mem same, if_pos same]
  · rw [if_pos ((mem_changedStrips s i).mpr same), if_neg same]

/-- The strips that a rebinding changed, read from its outcome. -/
theorem changedStrips_rebind (s : State) : ((allFin 32).filter fun i =>
    (rebind s).surf.strips[i].binding != s.surf.strips[i].binding) = changedStrips s := by
  refine List.filter_congr fun i _ => ?_
  rw [rebind_binding, (rebind_strips s).bindingOf]

/-! ## BANK SET (R128) -/

/-- The bank settings written, the bindings not yet recomputed. -/
def withBanks (a b sp : Nat) (u : State) : State := updSurf (fun v => { v with offsetA := a, offsetB := b, split := sp }) u

theorem reqBankSet_eq {a b sp : Nat} (ha : a < 256) (hb : b < 256) (hsp : sp < 256) (u : State) :
    reqBankSet (u8 a ++ u8 b ++ u8 sp) u = if 63 < a ∨ 63 < b ∨ 4 < sp then refuse .badValue u else
      accept (banksField (rebind (withBanks a b sp u)).surf ++ u8 (boundCount (rebind (withBanks a b sp u)))
        ++ u8 (changedStrips (withBanks a b sp u)).length) (settle (rebind (withBanks a b sp u))) := by
  show reqBankSet [BitVec.ofNat 8 a, BitVec.ofNat 8 b, BitVec.ofNat 8 sp] u = _
  unfold reqBankSet
  simp only [toNat_ofNat ha, toNat_ofNat hb, toNat_ofNat hsp]
  rfl

/-- Settles O38: the rule of the bindings, the refusal and the rebinding. -/
theorem bankSet : Obligations.BankSet := by
  refine ⟨bindingRule, fun tag s a b sp idle ha hb hsp => ⟨fun wrong => ?_, fun lowA lowB lowSp => ?_⟩⟩
  · exact exec_idle rfl idle (by simp [u8]) ((reqBankSet_eq ha hb hsp _).trans (if_pos wrong))
  · have served := (reqBankSet_eq ha hb hsp (received s)).trans (if_neg (by omega))
    have keeps := setBanks_keepsClock a b sp (received s)
    have changed := changedStrips_rebind (withBanks a b sp (received s))
    have releases := rebind_releases (withBanks a b sp (received s))
    have binding := rebind_binding (withBanks a b sp (received s))
    have strips := rebind_strip (withBanks a b sp (received s))
    have rest := (rebind_strips (withBanks a b sp (received s))).rest
    rw [← changed] at releases served
    change KeepsClock _ (rebind (withBanks a b sp (received s))) at keeps
    generalize rebind (withBanks a b sp (received s)) = w at *
    have fields : banksField w.surf = u8 a ++ u8 b ++ u8 sp := (congrArg banksField rest :)
    refine ⟨w, exec_idle rfl idle (by simp [u8]) (served.trans ?_), rest, binding, strips, releases, keeps⟩
    rw [fields]
    rfl

/-! ## CALIBRATE and the drive timer (R156, R157) -/

theorem reqCalibrate_unexpected {b : Byte} {u : State} (wrong : u.surf.expected ≤ b.toNat ∨ 4 ≤ b.toNat) :
    reqCalibrate [b] u = refuse .badValue u := by
  have none : asExpected b u = .none := by
    unfold asExpected
    split
    · exact if_neg (by omega)
    · rfl
  unfold reqCalibrate
  simp only [none]

theorem reqCalibrate_expected {m : ModuleId} {u : State} (expected : m.val < u.surf.expected) : reqCalibrate (u8 m.val) u =
    if u.surf.modules[m].online = false then refuse .state u
    else if u.surf.modules[m].phase ≠ .none then refuse .busy u
    else (settle (startCalibration m u), [0x01] ++ u8 m.val) := by
  have value : (BitVec.ofNat 8 m.val : Byte).toNat = m.val := toNat_ofNat (by omega)
  have some : asExpected (BitVec.ofNat 8 m.val) u = .some m := by
    unfold asExpected
    simp only [value, m.isLt, dif_pos, if_pos expected]
  show reqCalibrate [BitVec.ofNat 8 m.val] u = _
  unfold reqCalibrate isCalibrating
  simp only [some, Bool.not_eq_true', bne_iff_ne]
  rfl

/-- The end of a DRIVE phase. -/
def endsPhase (m : ModuleId) (s : State) : CalPhase → State
  | .driveLow => updModule m (fun r => { r with phase := .sampleLow, driveTimer := none }) s
  | .driveHigh => updModule m (fun r => { r with phase := .sampleHigh, driveTimer := none }) s
  | .none => s
  | .sampleLow => s
  | .sampleHigh => s

theorem endDrive_reached {m : ModuleId} {s : State} {t : Nat} (timer : s.surf.modules[m].driveTimer = some t)
    (late : 400 ≤ wallSince s.clock.wallTime t) : endDrive m s = endsPhase m s s.surf.modules[m].phase := by
  unfold endDrive
  dsimp only
  rw [timer]
  dsimp only
  rw [if_pos (show Config.driveTime ≤ _ from late)]
  cases s.surf.modules[m].phase <;> rfl

theorem endDrive_early {m : ModuleId} {s : State}
    (early : ¬ ∃ t, s.surf.modules[m].driveTimer = some t ∧ 400 ≤ wallSince s.clock.wallTime t) : endDrive m s = s := by
  unfold endDrive
  dsimp only
  cases timer : s.surf.modules[m].driveTimer with
  | none => rfl
  | some t => exact if_neg fun late => early ⟨t, timer, late⟩

/-- Settles O39: the refusals, the start and the drive timer. -/
theorem calibrateAndDrive : Obligations.CalibrateAndDrive := by
  refine ⟨fun tag s b idle wrong => exec_idle rfl idle (by simp) (reqCalibrate_unexpected (u := received s) wrong),
    fun tag s m idle expected => ⟨fun offline => ?_, fun online busy => ?_, fun online free => ?_⟩, fun s m => ?_⟩
  · exact exec_idle rfl idle (by simp [u8]) ((reqCalibrate_expected (u := received s) expected).trans (if_pos offline))
  · exact exec_idle rfl idle (by simp [u8]) ((reqCalibrate_expected (u := received s) expected).trans
      ((if_neg (by show ¬ s.surf.modules[m].online = false; rw [online]; exact Bool.noConfusion)).trans (if_pos busy)))
  · have served := (reqCalibrate_expected (u := received s) expected).trans
      ((if_neg (by show ¬ s.surf.modules[m].online = false; rw [online]; exact Bool.noConfusion)).trans (if_neg (not_not.mpr free)))
    have keeps := startCalibration_keepsClock m (received s)
    have started : startCalibration m (received s) = withdrawStrips m { received s with
        surf := { s.surf with
          modules := s.surf.modules.set m { s.surf.modules[m] with phase := .driveLow, driveTimer := some s.clock.wallTime } } } :=
      rfl
    rw [started] at served keeps
    have releases := withdrawStrips_releases m { received s with
      surf := { s.surf with
        modules := s.surf.modules.set m { s.surf.modules[m] with phase := .driveLow, driveTimer := some s.clock.wallTime } } }
    obtain ⟨⟨rest⟩, strips⟩ := withdrawStrips_strips m { received s with
      surf := { s.surf with
        modules := s.surf.modules.set m { s.surf.modules[m] with phase := .driveLow, driveTimer := some s.clock.wallTime } } }
    generalize withdrawStrips m _ = w at *
    exact ⟨w, exec_idle rfl idle (by simp [u8]) served, (congrArg (fun u : Surface => { u with strips := w.surf.strips }) rest :),
      fun i => (strips i).trans (if_congr (mem_stripsOf m i) rfl rfl), releases, keeps⟩
  · have ends (t : Nat) (timer : s.surf.modules[m].driveTimer = some t) (late : 400 ≤ wallSince s.clock.wallTime t) :
        exec (.driveTimerExpiry m) s = .next (endsPhase m s s.surf.modules[m].phase) :=
      congrArg Host.Outcome.next (endDrive_reached timer late)
    refine ⟨fun low ⟨t, timer, late⟩ => ?_, fun high ⟨t, timer, late⟩ => ?_, fun other => ?_⟩
    · rw [ends t timer late, low]
      rfl
    · rw [ends t timer late, high]
      rfl
    · by_cases reached : ∃ t, s.surf.modules[m].driveTimer = some t ∧ 400 ≤ wallSince s.clock.wallTime t
      · obtain ⟨t, timer, late⟩ := reached
        obtain ⟨notLow, notHigh⟩ := other.resolve_right (not_not.mpr ⟨t, timer, late⟩)
        rw [ends t timer late]
        cases phase : s.surf.modules[m].phase with
        | driveLow => exact absurd phase notLow
        | driveHigh => exact absurd phase notHigh
        | _ => rfl
      · exact congrArg Host.Outcome.next (endDrive_early reached)

/-! ## Misses (R118, R119, R120) -/

/-- The exchange over and the miss counted (R119). -/
def missCounted (x : Exchange) (s : State) : State := { s with
  surf := { s.surf with
    exchange := none
    modules := s.surf.modules.set x.module
      { s.surf.modules[x.module] with totalMisses := min (s.surf.modules[x.module].totalMisses + 1) 65535 } } }

theorem exec_window {x : Exchange} {s : State} (polling : s.surf.exchange = some x) :
    exec .replyWindowExpiry s = .next (choose (settle (takeMiss x.module (endExchange s)))) := by
  refine congrArg (fun u : State => Host.Outcome.next (choose u)) ?_
  unfold closeWindow
  rw [polling]

theorem takeMiss_third {x : Exchange} {s : State} (online : s.surf.modules[x.module].online = true)
    (third : 2 ≤ s.surf.modules[x.module].misses) :
    takeMiss x.module (endExchange s) = goOffline x.module .misses (missCounted x s) := by
  unfold takeMiss
  exact (if_pos online).trans (if_neg (not_lt.mpr third))

theorem takeMiss_counted {x : Exchange} {s : State}
    (stays : s.surf.modules[x.module].online = false ∨ s.surf.modules[x.module].misses < 2) :
    takeMiss x.module (endExchange s) = { s with
      surf := { s.surf with
        exchange := none
        modules := s.surf.modules.set x.module { s.surf.modules[x.module] with
          totalMisses := min (s.surf.modules[x.module].totalMisses + 1) 65535
          misses := if s.surf.modules[x.module].online then s.surf.modules[x.module].misses + 1
            else s.surf.modules[x.module].misses } } } := by
  unfold takeMiss
  cases online : s.surf.modules[x.module].online with
  | false =>
    refine (if_neg (by show ¬ s.surf.modules[x.module].online = true; rw [online]; exact Bool.false_ne_true)).trans ?_
    simp only [Bool.false_eq_true, if_false]
    rfl
  | true =>
    have few : s.surf.modules[x.module].misses < 2 := stays.resolve_left (by rw [online]; exact Bool.noConfusion)
    refine (if_pos online).trans ((if_pos few).trans ?_)
    simp only [endExchange, updModule, updSurf, Fin.getElem_fin, Vector.getElem_set_self, Vector.set_set, if_true]
    rfl

/-- Settles O44: no exchange, a bad reply, a counted miss and the third miss in a row. -/
theorem replyMiss : Obligations.ReplyMiss := by
  refine ⟨fun s idle => ?_, fun s x bytes polling bad => ?_, fun s x polling => ⟨fun stays => ?_, fun online third => ?_⟩⟩
  · refine congrArg (fun u : State => Host.Outcome.next (choose u)) ?_
    unfold closeWindow
    rw [idle]
  · refine congrArg (fun u : State => Host.Outcome.next (choose u)) ?_
    unfold takeReply
    rw [polling]
    simp only [bad, ite_self]
  · rw [exec_window polling, takeMiss_counted stays]
  · have offline := goOffline_goesOffline x.module .misses (missCounted x s)
    have keeps : KeepsClock s (goOffline x.module .misses (missCounted x s)) :=
      (updSurf_keepsClock (fun _ => (missCounted x s).surf) s).trans (goOffline_keepsClock _ _ _)
    refine ⟨goOffline x.module .misses (missCounted x s), ?_, ?_, offline.strips, offline, keeps⟩
    · rw [exec_window polling, takeMiss_third online third]
    · generalize goOffline x.module .misses (missCounted x s) = w at offline
      have modules := offline.modules
      simp only [missCounted, offlineRecord, Fin.getElem_fin, Vector.getElem_set_self, Vector.set_set] at modules
      have surf : { w.surf with modules := w.surf.modules, strips := w.surf.strips } =
          { (missCounted x s).surf with modules := w.surf.modules, strips := w.surf.strips } :=
        (congrArg (fun u : Surface => { u with modules := w.surf.modules, strips := w.surf.strips }) offline.surf :)
      refine surf.trans ?_
      rw [modules]
      rfl

end Sys2Proof.SurfaceRequests
end

section
/-! The start of an exchange (R116, R117, R129, R130, R132, R158): O42. -/

namespace Sys2Proof.PollFrame

open Sys2Proof Sys2Proof.Machine Sys2Proof.SurfaceLayer

/-- The strips of the module polled keep what is sent to them. -/
theorem startExchange_strips (m : ModuleId) (s : State) :
    Strips (stripsOf m) (recordSent s) s.surf ((stripsOf m).foldl (fun s' i => updStrip i (recordSent s i) s') s).surf :=
  .of_foldl (stripsOf_nodup m) fun _ _ _ => rfl

theorem startExchange_only (m : ModuleId) (s : State) : OnlySurf s (startExchange m s) :=
  (OnlySurf.foldl (step := fun s' i => updStrip i (recordSent s i) s') (fun _ _ => ⟨rfl⟩) (stripsOf m) s).trans ⟨rfl⟩

/-- What a poll brings about. -/
structure Polls (m : ModuleId) (s w : State) : Prop where
  only : OnlySurf s w
  surf : w.surf = { s.surf with
    exchange := some ⟨m, s.surf.modules[m].phase, pollFrame s m⟩
    begun := true
    nextPoll := (m.val + 1) % s.surf.expected
    strips := w.surf.strips }
  strips : ∀ i : StripId, w.surf.strips[i] = if moduleOf i = m then recordSent s i s.surf.strips[i] else s.surf.strips[i]

theorem startExchange_polls (m : ModuleId) (s : State) : Polls m s (startExchange m s) := by
  have only := startExchange_only m s
  obtain ⟨⟨rest⟩, strips⟩ := startExchange_strips m s
  have begun : (startExchange m s).surf = { ((stripsOf m).foldl (fun s' i => updStrip i (recordSent s i) s') s).surf with
    exchange := some ⟨m, s.surf.modules[m].phase, pollFrame s m⟩
    begun := true
    nextPoll := (m.val + 1) % s.surf.expected } := rfl
  generalize (stripsOf m).foldl _ s = t at rest strips begun
  refine ⟨only, begun.trans ?_, fun i => ?_⟩
  · rw [begun]
    exact (congrArg (fun u : Surface => { u with
      exchange := some ⟨m, s.surf.modules[m].phase, pollFrame s m⟩
      begun := true
      nextPoll := (m.val + 1) % s.surf.expected
      strips := t.surf.strips }) rest :)
  · rw [begun]
    exact (strips i).trans (if_congr (mem_stripsOf m i) rfl rfl)

/-- The dead band, as distance and as two sides (R130). -/
theorem beyond_iff (d a b : Nat) : d < distance a b ↔ a + d < b ∨ b + d < a := by
  unfold distance
  omega

/-- What is sent to a strip (R129, R130, R132, R158). -/
theorem recordSent_eq {m : ModuleId} {i : StripId} (own : moduleOf i = m) (s : State) : recordSent s i s.surf.strips[i] =
    { s.surf.strips[i] with
      motorTarget :=
        if s.surf.modules[m].phase = .none then s.surf.strips[i].cal.min
          + (targetPosition s i * (s.surf.strips[i].cal.max - s.surf.strips[i].cal.min) + 512) / 1024
        else if s.surf.modules[m].phase = .driveLow ∨ s.surf.modules[m].phase = .sampleLow then 0 else 1023
      drive := decide (s.surf.modules[m].online = true ∧ (s.surf.modules[m].phase ≠ .none ∨
        (s.surf.strips[i].cal.state ≠ .failed ∧ s.surf.strips[i].touch = false ∧ s.surf.strips[i].reported = false
          ∧ (targetPosition s i + s.surf.deadBand < s.surf.strips[i].lastPos
            ∨ s.surf.strips[i].lastPos + s.surf.deadBand < targetPosition s i))))
      led := ledState s i } := by
  subst own
  have motor : motorTarget s i = if s.surf.modules[moduleOf i].phase = .none then s.surf.strips[i].cal.min
          + (targetPosition s i * (s.surf.strips[i].cal.max - s.surf.strips[i].cal.min) + 512) / 1024
        else if s.surf.modules[moduleOf i].phase = .driveLow ∨ s.surf.modules[moduleOf i].phase = .sampleLow then 0 else 1023 := by
    unfold motorTarget
    cases s.surf.modules[moduleOf i].phase <;> rfl
  have drive : driveFlag s i = decide (s.surf.modules[moduleOf i].online = true ∧ (s.surf.modules[moduleOf i].phase ≠ .none ∨
        (s.surf.strips[i].cal.state ≠ .failed ∧ s.surf.strips[i].touch = false ∧ s.surf.strips[i].reported = false
          ∧ (targetPosition s i + s.surf.deadBand < s.surf.strips[i].lastPos
            ∨ s.surf.strips[i].lastPos + s.surf.deadBand < targetPosition s i)))) := by
    rw [Bool.eq_iff_iff, decide_eq_true_iff, ← beyond_iff]
    unfold driveFlag
    simp only [Bool.and_eq_true, Bool.or_eq_true, bne_iff_ne, Bool.not_eq_true', decide_eq_true_iff, and_assoc]
  unfold recordSent
  rw [motor, drive]

theorem polledModule_of_none {s : State} (none : s.surf.expected = 0) : polledModule s = .none := if_pos none

theorem polledModule_eq {s : State} {m : ModuleId} (expects : 0 < s.surf.expected)
    (next : m.val = if s.surf.nextPoll < s.surf.expected then s.surf.nextPoll else 0) : polledModule s = some m := by
  unfold polledModule
  rw [if_neg (Nat.ne_of_gt expects)]
  simp only [← next, m.isLt, dif_pos]

/-- Settles O42: no poll, and the poll frame. -/
theorem exchangeStart : Obligations.ExchangeStart := by
  refine ⟨fun s idle => congrArg Host.Outcome.next ?_, fun s m exchange even fresh listens expects few next => ?_⟩
  · show beginExchange s = s
    unfold beginExchange
    by_cases busy : s.link.held = true ∨ s.surf.exchange.isSome ∨ s.surf.begun = true ∨ s.clock.wallTime % 2 ≠ 0
    · exact if_pos busy
    · have none : s.surf.expected = 0 := by
        simp only [not_or] at busy
        obtain ⟨listens, waits, fresh, even⟩ := busy
        rcases idle with polling | odd | none | begun | held
        · exact absurd polling waits
        · omega
        · exact none
        · exact absurd begun fresh
        · exact absurd held listens
      rw [if_neg busy, polledModule_of_none none]
  · have polls := startExchange_polls m s
    have starts : exec .exchangeStart s = .next (startExchange m s) := by
      refine congrArg Host.Outcome.next ?_
      show beginExchange s = _
      unfold beginExchange
      rw [if_neg (by simp [exchange, even, fresh, listens]), polledModule_eq expects next]
    obtain ⟨small, zero⟩ := Laws.checksum_brings_zero (u8 (m.val + 1) ++ (stripsOf m).flatMap (pollEntry s))
    refine ⟨startExchange m s, (stripsOf m).flatMap (pollEntry s), _, starts, polls.surf, polls.only.rest, small, zero, ?_,
      fun i other => (polls.strips i).trans (if_neg other), fun i own => ?_⟩
    · refine List.flatMap_congr fun i mem => ?_
      rw [polls.strips i, if_pos ((mem_stripsOf m i).mp mem)]
      rfl
    · exact (polls.strips i).trans ((if_pos own).trans (recordSent_eq own s))

end Sys2Proof.PollFrame
end

section
/-! The start of LEVEL and GROUP moves (R53 to R60, R66, R71): what the lanes take, what the sweep over the slots retires. -/

namespace Sys2Proof.MoveStarts

open Sys2Proof Sys2Proof.Machine Sys2Proof.Removal Sys2Proof.GroupRequests

/-! ## The lanes of a LEVEL move (R57) -/

/-- No claim names a slot. -/
structure Unnamed (k : Slot) (s : State) : Prop where
  chans : ∀ c : Chan, claimIs k s.chans[c].claim = false
  groups : ∀ g : Grp, claimIs k s.groups[g].claim = false

/-- Whether the start of a move claims a channel. -/
def claims (s : State) (mv : Move) (c : Chan) : Bool := !(mv.origin.heedsSafe && s.chans[c].safe) && !isHeld s c

theorem claimedBy_eq (s : State) (mv : Move) (cs : List Chan) : claimedBy s mv cs = cs.filter (claims s mv) := rfl

/-- What the lanes of the start leave in a channel, before a move that is over at once completes. -/
def takenLane (s : State) (k : Slot) (mv : Move) (target : Int) (c : Chan) : Channel :=
  if mv.origin.heedsSafe && s.chans[c].safe then s.chans[c]
  else if isHeld s c then { s.chans[c] with cueLevel := target }
  else { s.chans[c] with base := liveLevel s c, cueLevel := target, claim := some ⟨k, liveLevel s c, target⟩ }

/-- From s to t the channels of a list took the lanes of a move in slot k. -/
structure Takes (k : Slot) (mv : Move) (goal : Chan → Int) (cs : List Chan) (s t : State) : Prop where
  chans : ∀ c : Chan, t.chans[c] = if c ∈ cs then takenLane s k mv (goal c) c else s.chans[c]
  own : t.moves[k] = s.moves[k].map fun m => { m with claims := m.claims + (claimedBy s mv cs).length }
  others : ∀ j : Slot, j ≠ k → t.moves[j] = s.moves[j].map fun m => { m with claims := m.claims - claimsIn s (claimedBy s mv cs) j }
  rest : { t with chans := s.chans, moves := s.moves } = s

theorem isHeld_eq (s : State) (c : Chan) :
    isHeld s c = decide (s.chans[c].ownership = .touched ∨ s.chans[c].ownership = .latched) := by
  unfold isHeld
  rw [← Bool.coe_iff_coe]
  simp

/-- One channel. -/
theorem startLane_takes {k : Slot} {mv : Move} {c : Chan} {recorded : Option Int} {goal : Chan → Int} {s : State}
    (unnamed : claimIs k s.chans[c].claim = false) (target : laneTarget mv recorded (liveLevel s c) = goal c) :
    Takes k mv goal [c] s (startLane k mv c recorded s) := by
  have mapped (m : Option Move) : m = m.map fun m => { m with claims := m.claims + 0 } := by cases m <;> rfl
  have dropped (m : Option Move) : m = m.map fun m => { m with claims := m.claims - 0 } := by cases m <;> rfl
  by_cases safe : (mv.origin.heedsSafe && s.chans[c].safe) = true
  · have none : claimedBy s mv [c] = [] := List.filter_cons_of_neg (by rw [safe]; exact Bool.false_ne_true)
    rw [show startLane k mv c recorded s = s from if_pos safe]
    refine ⟨fun d => ?_, by rw [none]; exact mapped _, fun j _ => by rw [none]; exact dropped _, rfl⟩
    by_cases e : d = c
    · rw [if_pos (List.mem_singleton.mpr e), e, takenLane, if_pos safe]
    · rw [if_neg (by simpa using e)]
  · by_cases held : isHeld s c = true
    · have none : claimedBy s mv [c] = [] := List.filter_cons_of_neg (by rw [held, Bool.not_true, Bool.and_false]; exact Bool.false_ne_true)
      have lane : startLane k mv c recorded s = updChan c (fun ch => { ch with cueLevel := goal c }) s := by
        rw [isHeld_eq, decide_eq_true_iff] at held
        unfold startLane
        rw [if_neg safe]
        dsimp only
        rw [if_pos held, target]
      rw [lane]
      refine ⟨fun d => ?_, by rw [none]; exact mapped _, fun j _ => by rw [none]; exact dropped _, rfl⟩
      rw [getChan_updChan]
      by_cases e : d = c
      · rw [if_pos e.symm, if_pos (List.mem_singleton.mpr e), e, takenLane, if_neg safe, if_pos held]
      · rw [if_neg (Ne.symm e), if_neg (by simpa using e)]
    · have all : claimedBy s mv [c] = [c] := List.filter_cons_of_pos (by rw [Bool.not_eq_true] at safe held; rw [safe, held]; rfl)
      have dropped := unclaimChan_unclaims c s
      have lane : startLane k mv c recorded s = takeClaim k c (liveLevel s c) (goal c) (unclaimChan c s) := by
        rw [isHeld_eq, decide_eq_true_iff] at held
        unfold startLane
        rw [if_neg safe]
        dsimp only
        rw [if_neg held, target]
      have count : claimsIn s [c] k = 0 := by simp [claimsIn, -Fin.getElem_fin, unnamed]
      have rest := updMove_rest k (fun mv => { mv with claims := mv.claims + 1 })
        (updChan c (fun ch => { ch with claim := some ⟨k, liveLevel s c, goal c⟩, cueLevel := goal c }) (unclaimChan c s))
      rw [lane]
      unfold takeClaim
      refine ⟨fun d => ?_, ?_, fun j other => ?_, ?_⟩
      · have chans := (congrArg State.chans rest :)
        show (updMove k _ _).chans[d] = _
        rw [chans, getChan_updChan, dropped.chans]
        by_cases e : d = c
        · subst e
          rw [if_pos rfl, if_pos List.mem_cons_self, if_pos List.mem_cons_self, takenLane, if_neg safe, if_neg held]
        · rw [if_neg (Ne.symm e), if_neg (by simpa using e), if_neg (by simpa using e)]
      · rw [getSlot_updMove, if_pos rfl, all]
        show (unclaimChan c s).moves[k].map _ = _
        rw [dropped.moves, count]
        cases s.moves[k] <;> rfl
      · rw [getSlot_updMove, if_neg (Ne.symm other), all]
        exact dropped.moves j
      · exact (congrArg (fun u : State => { u with chans := s.chans, moves := s.moves }) rest).trans dropped.rest

namespace Takes

variable {k : Slot} {mv : Move} {goal : Chan → Int} {cs : List Chan} {s t u : State}

theorem sameLanes (h : Takes k mv goal cs s t) : SameLanes s t :=
  ⟨(congrArg State.clock h.rest :), (congrArg State.taperA h.rest :), (congrArg State.taperB h.rest :)⟩

theorem timings (h : Takes k mv goal cs s t) (j : Slot) : t.moves[j].map timing = s.moves[j].map timing := by
  by_cases e : j = k
  · subst e
    rw [h.own]
    cases s.moves[j] <;> rfl
  · rw [h.others j e]
    cases s.moves[j] <;> rfl

theorem unnamed (h : Takes k mv goal cs s t) {d : Chan} (other : d ∉ cs) : t.chans[d] = s.chans[d] := by
  rw [h.chans, if_neg other]

theorem live (h : Takes k mv goal cs s t) {d : Chan} (other : d ∉ cs) : liveLevel t d = liveLevel s d :=
  liveLevel_congr h.sameLanes (by rw [h.unnamed other]) (by rw [h.unnamed other]) (by rw [h.unnamed other])
    fun cl _ => h.timings cl.slot

theorem isHeld (h : Takes k mv goal cs s t) {d : Chan} (other : d ∉ cs) : Machine.isHeld t d = Machine.isHeld s d := by
  unfold Machine.isHeld
  rw [h.unnamed other]

theorem nil : Takes k mv goal [] s s :=
  ⟨fun _ => rfl, show s.moves[k] = _ by cases s.moves[k] <;> rfl, fun j _ => show s.moves[j] = _ by cases s.moves[j] <;> rfl, rfl⟩

/-- Lane after lane. -/
theorem append {c : Chan} (h : Takes k mv goal [c] s t) (fresh : c ∉ cs) (h' : Takes k mv goal cs t u) :
    Takes k mv goal (c :: cs) s u := by
  have apart {d : Chan} (mem : d ∈ cs) : d ∉ [c] := fun named => fresh (List.mem_singleton.mp named ▸ mem)
  have later : claimedBy t mv cs = claimedBy s mv cs := List.filter_congr fun d mem => by
    rw [h.unnamed (apart mem), h.isHeld (apart mem)]
  have whole : claimedBy s mv (c :: cs) = claimedBy s mv [c] ++ claimedBy s mv cs := by
    unfold claimedBy
    rw [← List.filter_append]
    rfl
  refine ⟨fun d => ?_, ?_, fun j other => ?_, (congrArg (fun v : State => { v with chans := s.chans, moves := s.moves }) h'.rest).trans h.rest⟩
  · rw [h'.chans]
    by_cases e : d = c
    · subst e
      rw [if_neg fresh, h.chans, if_pos List.mem_cons_self, if_pos List.mem_cons_self]
    · have other : d ∉ [c] := by simpa using e
      have same : takenLane t k mv (goal d) d = takenLane s k mv (goal d) d := by
        unfold takenLane
        rw [h.unnamed other, h.isHeld other, h.live other]
      rw [same, h.unnamed other]
      exact if_congr (by simp [e]) rfl rfl
  · rw [h'.own, h.own, later, whole, Option.map_map]
    refine congrArg (Option.map · s.moves[k]) (funext fun m => ?_)
    simp [Nat.add_assoc]
  · have count : claimsIn t (claimedBy s mv cs) j = claimsIn s (claimedBy s mv cs) j := by
      unfold claimsIn
      refine congrArg List.length (List.filter_congr fun d mem => ?_)
      rw [h.unnamed (apart (List.mem_of_mem_filter mem))]
    have sum : claimsIn s (claimedBy s mv (c :: cs)) j =
        claimsIn s (claimedBy s mv [c]) j + claimsIn s (claimedBy s mv cs) j := by
      unfold claimsIn
      rw [whole, List.filter_append, List.length_append]
    rw [h'.others j other, h.others j other, later, count, sum, Option.map_map]
    refine congrArg (Option.map · s.moves[j]) (funext fun m => ?_)
    simp [Nat.sub_sub]

end Takes

/-- The lanes of a list, each toward its goal. -/
theorem startLanes_take {k : Slot} {mv : Move} {goal : Chan → Int} {ls : List (Chan × Option Int)} (nodup : (ls.map (·.1)).Nodup)
    {s : State} (unnamed : ∀ l ∈ ls, claimIs k s.chans[l.1].claim = false)
    (targets : ∀ l ∈ ls, laneTarget mv l.2 (liveLevel s l.1) = goal l.1) :
    Takes k mv goal (ls.map (·.1)) s (ls.foldl (fun s l => startLane k mv l.1 l.2 s) s) := by
  induction ls generalizing s with
  | nil => exact .nil
  | cons l ls ih =>
    obtain ⟨fresh, nodup⟩ := List.nodup_cons.mp nodup
    have first := startLane_takes (unnamed l List.mem_cons_self) (targets l List.mem_cons_self)
    have apart {m : Chan × Option Int} (mem : m ∈ ls) : m.1 ∉ [l.1] := fun named =>
      fresh (List.mem_map.mpr ⟨m, mem, List.mem_singleton.mp named⟩)
    refine first.append fresh (ih nodup (fun m mem => ?_) fun m mem => ?_)
    · rw [first.unnamed (apart mem)]
      exact unnamed m (List.mem_cons_of_mem l mem)
    · rw [first.live (apart mem)]
      exact targets m (List.mem_cons_of_mem l mem)

/-! ## The sweep of a start over the slots (R48, R60, R66, R71) -/

/-- The retirement that the sweep of a start makes of a slot: of the started move, EMPTY or over at once, and of a move
that lost its last claim. -/
def sweptOf (k : Slot) (stolen : List Slot) (m : Move) (v : State) (j : Slot) : Option Retirement :=
  if j = k then
    if m.claims = 0 then some ⟨k, m, .empty, v.clock.showTime⟩
    else if m.duration = 0 ∧ m.cycle = false then some ⟨k, m, .completed, endInstant m v⟩
    else none
  else emptiedOf stolen v j

theorem slot_of_sweptOf {k : Slot} {stolen : List Slot} {m : Move} {v : State} {j : Slot} {r : Retirement}
    (h : r ∈ sweptOf k stolen m v j) : r.slot = j := by
  unfold sweptOf emptiedOf at h
  split at h
  · rename_i own
    split at h
    · cases h
      exact own.symm
    · split at h
      · cases h
        exact own.symm
      · cases h
  · split at h
    · obtain ⟨mv, -, rfl⟩ := Option.map_eq_some_iff.mp h
      rfl
    · cases h

/-- The slots that a sweep frees are those that it makes a retirement of. -/
theorem mem_slots_iff {made : Slot → Option Retirement} (own : ∀ j, ∀ r ∈ made j, r.slot = j) (j : Slot) :
    j ∈ ((allFin 48).filterMap made).map Retirement.slot ↔ (made j).isSome = true := by
  rw [List.mem_map]
  constructor
  · rintro ⟨r, mem, rfl⟩
    obtain ⟨i, -, hi⟩ := List.mem_filterMap.mp mem
    rw [own i r hi, hi]
    rfl
  · intro some
    obtain ⟨r, hr⟩ := Option.isSome_iff_exists.mp some
    exact ⟨r, List.mem_filterMap.mpr ⟨j, List.mem_finRange j, hr⟩, own j r hr⟩

theorem Retires.of_same {rs : List Retirement} {s t w : State} (h : Retires rs t w) (play : t.play = s.play) (link : t.link = s.link)
    (moves : t.moves = s.moves) (clock : t.clock = s.clock) : Retires rs s w :=
  ⟨⟨by rw [h.play, play], by rw [h.link, link]⟩, fun j => by rw [h.moves, moves], h.clock.trans clock⟩

theorem completeClaims_rest (k : Slot) (s : State) : { completeClaims k s with chans := s.chans, groups := s.groups } = s := by
  unfold completeClaims mapGroups mapChans
  rfl

theorem finishStart_retires {k : Slot} {stolen : List Slot} {m : Move} {v t : State} (own : t.moves[k] = some m)
    (clock : t.clock = v.clock) : Retires (sweptOf k stolen m v k).toList t (finishStart k t) := by
  unfold finishStart sweptOf
  rw [own, if_pos rfl]
  dsimp only
  by_cases empty : m.claims = 0
  · rw [if_pos empty, if_pos empty, ← clock]
    exact .of_retire own _ _
  · rw [if_neg empty, if_neg empty]
    by_cases atOnce : m.duration = 0 ∧ m.cycle = false
    · rw [if_pos atOnce, if_pos atOnce]
      have rest := completeClaims_rest k t
      have instant : endInstant m v = endInstant m t := by
        unfold endInstant
        rw [clock]
      have there : (completeClaims k t).moves[k] = some m :=
        (congrArg (fun u : State => u.moves[k]) rest :).trans own
      unfold completeMove
      rw [own, instant]
      exact Retires.of_same (.of_retire there _ _) (congrArg State.play rest :) (congrArg State.link rest :)
        (congrArg State.moves rest :) (congrArg State.clock rest :)
    · rw [if_neg atOnce, if_neg atOnce]
      exact .refl t

/-- One step of the sweep. -/
def sweepSlot (k : Slot) (stolen : List Slot) (s : State) (j : Slot) : State :=
  if j = k then finishStart k s
  else if j ∈ stolen ∧ isEmptied j s then retire j .superseded s.clock.showTime s
  else s

theorem sweepSlot_retires {k : Slot} {stolen : List Slot} {m : Move} {v t : State} (own : v.moves[k] = some m) {j : Slot}
    (move : t.moves[j] = v.moves[j]) (clock : t.clock = v.clock) :
    Retires (sweptOf k stolen m v j).toList t (sweepSlot k stolen t j) := by
  unfold sweepSlot
  by_cases e : j = k
  · subst e
    rw [if_pos rfl]
    exact finishStart_retires (move.trans own) clock
  · rw [if_neg e, sweptOf, if_neg e]
    have emptied : isEmptied j t = isEmptied j v := by unfold isEmptied; rw [move]
    unfold emptiedOf
    rw [emptied, clock, ← move]
    split
    · cases occupied : t.moves[j] with
      | none =>
        rw [retire_none occupied]
        exact .refl t
      | some mv => exact .of_retire occupied _ _
    · exact .refl t

theorem retire_records (k : Slot) (reason : Reason) (r : Nat) (s : State) :
    (retire k reason r s).chans = s.chans ∧ (retire k reason r s).groups = s.groups := by
  cases occupied : s.moves[k] with
  | none => rw [retire_none occupied]; exact ⟨rfl, rfl⟩
  | some mv => rw [retire_some occupied]; exact ⟨rfl, rfl⟩

theorem sweepSlot_records {k : Slot} {stolen : List Slot} {j : Slot} (other : j ≠ k) (s : State) :
    (sweepSlot k stolen s j).chans = s.chans ∧ (sweepSlot k stolen s j).groups = s.groups := by
  unfold sweepSlot
  rw [if_neg other]
  split
  · exact retire_records _ _ _ _
  · exact ⟨rfl, rfl⟩

theorem sweepSlots_records {k : Slot} {stolen : List Slot} {l : List Slot} (others : k ∉ l) (s : State) :
    (l.foldl (sweepSlot k stolen) s).chans = s.chans ∧ (l.foldl (sweepSlot k stolen) s).groups = s.groups :=
  List.foldlRecOn (motive := fun t : State => t.chans = s.chans ∧ t.groups = s.groups) l _ ⟨rfl, rfl⟩ fun t ht j mem => by
    obtain ⟨chans, groups⟩ := sweepSlot_records (k := k) (stolen := stolen) (j := j) (fun e => others (e ▸ mem)) t
    exact ⟨chans.trans ht.1, groups.trans ht.2⟩

/-- A channel or a group whose claim names a slot takes its lane target (R64). -/
def doneChan (k : Slot) (ch : Channel) : Channel :=
  match ch.claim with
  | some cl => if cl.slot = k then { ch with base := cl.target, claim := none } else ch
  | none => ch

def doneGroup (k : Slot) (gr : Group) : Group :=
  match gr.claim with
  | some cl => if cl.slot = k then { gr with offset := cl.target, claim := none } else gr
  | none => gr

theorem getChan_completeClaims (k : Slot) (s : State) (c : Chan) : (completeClaims k s).chans[c] = doneChan k s.chans[c] := by
  unfold completeClaims
  simp only [mapGroups_chans, getChan_mapChans]
  rfl

theorem getGroup_completeClaims (k : Slot) (s : State) (g : Grp) : (completeClaims k s).groups[g] = doneGroup k s.groups[g] := by
  unfold completeClaims
  simp only [getGroup_mapGroups, mapChans_groups]
  rfl

/-- What the sweep of the start of the move m in slot k leaves behind. -/
structure Sweeps (k : Slot) (stolen : List Slot) (m : Move) (v w : State) : Prop where
  retires : Retires ((allFin 48).filterMap (sweptOf k stolen m v)) v w
  chans : ∀ c : Chan, w.chans[c] =
    if m.claims ≠ 0 ∧ m.duration = 0 ∧ m.cycle = false then doneChan k v.chans[c] else v.chans[c]
  groups : ∀ g : Grp, w.groups[g] =
    if m.claims ≠ 0 ∧ m.duration = 0 ∧ m.cycle = false then doneGroup k v.groups[g] else v.groups[g]

theorem finishStart_records {k : Slot} {m : Move} {t : State} (own : t.moves[k] = some m) :
    (∀ c : Chan, (finishStart k t).chans[c] =
      if m.claims ≠ 0 ∧ m.duration = 0 ∧ m.cycle = false then doneChan k t.chans[c] else t.chans[c]) ∧
    ∀ g : Grp, (finishStart k t).groups[g] =
      if m.claims ≠ 0 ∧ m.duration = 0 ∧ m.cycle = false then doneGroup k t.groups[g] else t.groups[g] := by
  unfold finishStart
  rw [own]
  dsimp only
  by_cases empty : m.claims = 0
  · obtain ⟨chans, groups⟩ := retire_records k .empty t.clock.showTime t
    rw [if_pos empty, chans, groups]
    exact ⟨fun _ => (if_neg fun h => h.1 empty).symm, fun _ => (if_neg fun h => h.1 empty).symm⟩
  · rw [if_neg empty]
    by_cases atOnce : m.duration = 0 ∧ m.cycle = false
    · rw [if_pos atOnce]
      unfold completeMove
      rw [own]
      dsimp only
      obtain ⟨chans, groups⟩ := retire_records k .completed (endInstant m t) (completeClaims k t)
      rw [chans, groups]
      exact ⟨fun c => (getChan_completeClaims k t c).trans (if_pos ⟨empty, atOnce⟩).symm,
        fun g => (getGroup_completeClaims k t g).trans (if_pos ⟨empty, atOnce⟩).symm⟩
    · rw [if_neg atOnce]
      exact ⟨fun _ => (if_neg fun h => atOnce h.2).symm, fun _ => (if_neg fun h => atOnce h.2).symm⟩

theorem sweepStart_sweeps {k : Slot} {m : Move} {v : State} (own : v.moves[k] = some m) (stolen : List Slot) :
    Sweeps k stolen m v (sweepStart k stolen v) := by
  obtain ⟨before, after, split⟩ := List.append_of_mem (List.mem_finRange k)
  have nodup : (before ++ k :: after).Nodup := split ▸ List.nodup_finRange 48
  obtain ⟨beforeNodup, -, apart⟩ := List.nodup_append.mp nodup
  obtain ⟨later, -⟩ := List.nodup_cons.mp (List.Nodup.of_append_right nodup)
  have notBefore : k ∉ before := fun mem => apart k mem k List.mem_cons_self rfl
  have folded : sweepStart k stolen v = after.foldl (sweepSlot k stolen) (finishStart k (before.foldl (sweepSlot k stolen) v)) := by
    show (List.finRange 48).foldl (sweepSlot k stolen) v = _
    rw [split, List.foldl_append, List.foldl_cons]
    exact congrArg (after.foldl (sweepSlot k stolen)) (if_pos rfl)
  have first := Retires.sweep (step := sweepSlot k stolen) (fun j r => slot_of_sweptOf (stolen := stolen) (m := m) (v := v))
    (fun t j move clock => sweepSlot_retires own move clock) beforeNodup (fun _ _ => rfl) rfl
  have stands : (before.foldl (sweepSlot k stolen) v).moves[k] = some m := by
    rw [first.moves, if_neg, own]
    intro named
    obtain ⟨r, mem, slot⟩ := List.mem_map.mp named
    obtain ⟨i, hi, made⟩ := List.mem_filterMap.mp mem
    exact notBefore ((slot_of_sweptOf made).symm.trans slot ▸ hi)
  obtain ⟨chansBefore, groupsBefore⟩ := sweepSlots_records (stolen := stolen) notBefore v
  obtain ⟨chansAfter, groupsAfter⟩ := sweepSlots_records (stolen := stolen) later (finishStart k (before.foldl (sweepSlot k stolen) v))
  obtain ⟨chans, groups⟩ := finishStart_records stands
  refine ⟨Retires.sweep (step := sweepSlot k stolen) (fun j r => slot_of_sweptOf)
    (fun t j move clock => sweepSlot_retires own move clock) (List.nodup_finRange 48) (fun _ _ => rfl) rfl, fun c => ?_, fun g => ?_⟩
  · rw [folded, chansAfter, chans, chansBefore]
  · rw [folded, groupsAfter, groups, groupsBefore]

namespace Sweeps

variable {k : Slot} {stolen : List Slot} {m : Move} {v w : State}

theorem move (h : Sweeps k stolen m v w) (j : Slot) :
    w.moves[j] = if (sweptOf k stolen m v j).isSome then none else v.moves[j] := by
  rw [h.retires.moves]
  exact if_congr (mem_slots_iff (fun j r => slot_of_sweptOf) j) rfl rfl

theorem own (h : Sweeps k stolen m v w) (there : v.moves[k] = some m) :
    w.moves[k] = if m.claims = 0 ∨ (m.duration = 0 ∧ m.cycle = false) then none else some m := by
  rw [h.move, sweptOf, if_pos rfl, there]
  by_cases empty : m.claims = 0
  · rw [if_pos empty]
    exact (if_pos (.inl empty)).symm
  · rw [if_neg empty]
    by_cases atOnce : m.duration = 0 ∧ m.cycle = false
    · rw [if_pos atOnce]
      exact (if_pos (.inr atOnce)).symm
    · rw [if_neg atOnce]
      exact (if_neg (not_or.mpr ⟨empty, atOnce⟩)).symm

theorem other (h : Sweeps k stolen m v w) {j : Slot} (other : j ≠ k) :
    w.moves[j] = if j ∈ stolen ∧ isEmptied j v = true then none else v.moves[j] := by
  rw [h.move, sweptOf, if_neg other, emptiedOf]
  by_cases cond : j ∈ stolen ∧ isEmptied j v = true
  · rw [if_pos cond, if_pos cond]
    obtain ⟨mv, occupied, -⟩ := (isEmptied_iff j v).mp cond.2
    rw [occupied]
    rfl
  · rw [if_neg cond, if_neg cond]
    rfl

/-- The retirements of the sweep, told from the state before the start. -/
theorem reports (h : Sweeps k stolen m v w) {s : State} {mv : Move} {start : Nat} {tookNone : Bool} (there : v.moves[k] = some m)
    (play : v.play = s.play) (link : v.link = s.link) (clock : v.clock = s.clock)
    (dropped : ∀ j : Slot, j ≠ k → ∃ n, v.moves[j] = s.moves[j].map fun old => { old with claims := old.claims - n })
    (record : ∃ p n, m = { mv with
      phase := p, remaining := n, due := addTime mv.timeBase start mv.duration, claims := m.claims })
    (took : m.claims = 0 ↔ tookNone = true) : Reports (startRetirements k mv start tookNone s w) s w := by
  have own := h.own there
  have all := h.retires.toReports
  refine Reports.of_said (rs := (allFin 48).filterMap (sweptOf k stolen m v)) ⟨by rw [all.play, play], by rw [all.link, link]⟩
    (map_said_filterMap fun j => ?_)
  by_cases e : j = k
  · subst e
    obtain ⟨p, n, record⟩ := record
    rw [sweptOf, if_pos rfl]
    by_cases empty : m.claims = 0
    · have gone : w.moves[j] = none := own.trans (if_pos (.inl empty))
      simp only [if_pos empty, gone, Option.isSome_none, Bool.false_eq_true, if_false, if_true, if_pos (took.mp empty)]
      rw [clock, record]
      rfl
    · rw [if_neg empty]
      by_cases atOnce : m.duration = 0 ∧ m.cycle = false
      · have gone : w.moves[j] = none := own.trans (if_pos (.inr atOnce))
        have instant : endInstant m v = match mv.timeBase with
            | .showTime => start
            | .wallTime => s.clock.showTime := by
          have zero : mv.duration = 0 := by
            rw [record] at atOnce
            exact atOnce.1
          unfold endInstant
          rw [record, clock]
          cases base : mv.timeBase with
          | showTime => simp only [addTime, zero, Nat.add_zero]
          | wallTime => rfl
        simp only [if_pos atOnce, gone, Option.isSome_none, Bool.false_eq_true, if_false, if_true, if_neg (mt took.mpr empty)]
        rw [instant, record]
        rfl
      · have stays : w.moves[j] = some m := own.trans (if_neg (not_or.mpr ⟨empty, atOnce⟩))
        rw [if_neg atOnce, stays]
        rfl
  · obtain ⟨n, drop⟩ := dropped j e
    rw [h.other e, sweptOf, if_neg e, if_neg e, emptiedOf]
    by_cases cond : j ∈ stolen ∧ isEmptied j v = true
    · rw [if_pos cond, if_pos cond, drop, clock]
      cases s.moves[j] <;> rfl
    · rw [if_neg cond, if_neg cond, drop]
      cases s.moves[j] <;> rfl

end Sweeps

/-! ## A move in its slot that is about to start (R53, R56) -/

/-- A record that differs from a move in its phase, due time, traversals left and sequence number, and that claims nothing yet. -/
def Fresh (mv r : Move) : Prop :=
  ∃ p d n, r = { mv with phase := p, due := d, remaining := n, claims := 0 }

/-- A state in which a slot holds a record and every other slot what it held. -/
structure Seated (k : Slot) (r : Move) (s v : State) : Prop where
  own : v.moves[k] = some r
  others : ∀ j : Slot, j ≠ k → v.moves[j] = s.moves[j]
  rest : { v with moves := s.moves, moveSeq := s.moveSeq } = s

/-- A started record: RUNNING, with its traversals and its due time (R56). -/
def runningMove (mv : Move) (start : Nat) (n : Nat) : Move :=
  { mv with
    phase := .running start
    remaining := if mv.cycle then mv.count else 1
    due := addTime mv.timeBase start mv.duration
    claims := n }

namespace Unnamed

variable {k : Slot} {s : State}

theorem slot_chan (h : Unnamed k s) {c : Chan} {cl : Claim} (claim : s.chans[c].claim = some cl) : cl.slot ≠ k := fun e => by
  have none := h.chans c
  rw [claim, claimIs, e, beq_self_eq_true] at none
  cases none

theorem slot_group (h : Unnamed k s) {g : Grp} {cl : Claim} (claim : s.groups[g].claim = some cl) : cl.slot ≠ k := fun e => by
  have none := h.groups g
  rw [claim, claimIs, e, beq_self_eq_true] at none
  cases none

theorem doneChan (h : Unnamed k s) (c : Chan) : doneChan k s.chans[c] = s.chans[c] := by
  unfold MoveStarts.doneChan
  split
  · rename_i cl claim
    exact if_neg (h.slot_chan claim)
  · rfl

theorem doneGroup (h : Unnamed k s) (g : Grp) : doneGroup k s.groups[g] = s.groups[g] := by
  unfold MoveStarts.doneGroup
  split
  · rename_i cl claim
    exact if_neg (h.slot_group claim)
  · rfl

theorem of_slotAt (h : ∀ r, ClaimCount.slotAt s r ≠ some k) : Unnamed k s :=
  ⟨fun c => by rw [← Bool.not_eq_true, ClaimCount.claimIs_iff]; exact h (.inl c),
    fun g => by rw [← Bool.not_eq_true, ClaimCount.claimIs_iff]; exact h (.inr g)⟩

/-- No claim names a FREE slot (R47). -/
theorem of_free (occupied : ClaimsOccupied s) (free : s.moves[k] = none) : Unnamed k s := by
  refine of_slotAt fun r hr => ?_
  have absurd {cl : Claim} (slot : cl.slot = k) (some : s.moves[cl.slot].isSome = true) : False := by
    subst slot
    rw [free] at some
    cases some
  rcases r with c | g
  · obtain ⟨cl, claim, slot⟩ := Option.map_eq_some_iff.mp hr
    exact absurd slot (occupied.1 c cl claim)
  · obtain ⟨cl, claim, slot⟩ := Option.map_eq_some_iff.mp hr
    exact absurd slot (occupied.2 g cl claim)

end Unnamed

theorem occupied_of_law {s : State} (law : ClaimLaw s) : ClaimsOccupied s := by
  refine ⟨fun c cl claim => ?_, fun g cl claim => ?_⟩
  · obtain ⟨mv, there, -⟩ := law.chans c cl claim
    rw [there]
    rfl
  · obtain ⟨mv, there, -⟩ := law.groups g cl claim
    rw [there]
    rfl

namespace Seated

variable {k : Slot} {r : Move} {s v : State}

theorem getChan (h : Seated k r s v) (c : Chan) : v.chans[c] = s.chans[c] := by
  rw [(congrArg State.chans h.rest :)]

theorem getGroup (h : Seated k r s v) (g : Grp) : v.groups[g] = s.groups[g] := by
  rw [(congrArg State.groups h.rest :)]

theorem sameLanes (h : Seated k r s v) : SameLanes s v :=
  ⟨(congrArg State.clock h.rest :), (congrArg State.taperA h.rest :), (congrArg State.taperB h.rest :)⟩

theorem live (h : Seated k r s v) (unnamed : Unnamed k s) (c : Chan) : liveLevel v c = liveLevel s c :=
  liveLevel_congr h.sameLanes (by rw [h.getChan]) (by rw [h.getChan]) (by rw [h.getChan])
    fun cl claim => by rw [h.others cl.slot (unnamed.slot_chan claim)]

theorem liveOffset (h : Seated k r s v) (unnamed : Unnamed k s) (g : Grp) : Machine.liveOffset v g = Machine.liveOffset s g :=
  liveOffset_congr h.sameLanes (h.getGroup g) fun cl claim => by rw [h.others cl.slot (unnamed.slot_group claim)]

theorem claimsIn_eq (h : Seated k r s v) (cs : List Chan) (j : Slot) : claimsIn v cs j = claimsIn s cs j := by
  unfold claimsIn
  rw [(congrArg State.chans h.rest :)]

theorem claimedBy_eq (h : Seated k r s v) {mv m : Move} (fresh : Fresh mv m) (cs : List Chan) : claimedBy v m cs = claimedBy s mv cs := by
  obtain ⟨p, d, n, rfl⟩ := fresh
  unfold claimedBy isHeld
  rw [(congrArg State.chans h.rest :)]

theorem takenLane_eq (h : Seated k r s v) (unnamed : Unnamed k s) {mv m : Move} (fresh : Fresh mv m) (goal : Int) (c : Chan) :
    takenLane v k m goal c = takenLane s k mv goal c := by
  obtain ⟨p, d, n, rfl⟩ := fresh
  unfold takenLane isHeld
  rw [h.live unnamed, (congrArg State.chans h.rest :)]

/-- The slot's record is replaced. -/
theorem setSlot (h : Seated k r s v) (m : Move) : Seated k m s (setSlot k (some m) v) :=
  ⟨by rw [getSlot_setSlot, if_pos rfl], fun j other => by rw [getSlot_setSlot, if_neg (Ne.symm other), h.others j other], h.rest⟩

end Seated

theorem seated_self {s : State} {k : Slot} {r : Move} (there : s.moves[k] = some r) : Seated k r s s := ⟨there, fun _ _ => rfl, rfl⟩

/-- A claim of the law is counted. -/
theorem claims_ne_zero {s : State} (law : ClaimLaw s) {cs : List Chan} {j : Slot} {mv : Move} (there : s.moves[j] = some mv)
    (claimed : claimsIn s cs j ≠ 0) : mv.claims ≠ 0 := by
  rw [((ClaimCount.claimLaw_iff s).mp law).2 j mv there, Ne, ClaimCount.named_eq_zero]
  intro none
  obtain ⟨c, mem⟩ := List.length_pos_iff_exists_mem.mp (Nat.pos_of_ne_zero claimed)
  exact none (.inl c) ((ClaimCount.claimIs_iff j _).mp (List.mem_filter.mp mem).2)

theorem claimsIn_claimedBy_le (s : State) (mv : Move) (cs : List Chan) (j : Slot) :
    claimsIn s (claimedBy s mv cs) j ≤ claimsIn s cs j :=
  (List.filter_sublist.filter _).length_le

/-! ## The start of a LEVEL move (R57, R60, R66) -/

/-- What the sweep leaves in a channel whose lane the start took (R57, R66). -/
theorem doneChan_takenLane {s : State} {k : Slot} (unnamed : Unnamed k s) {mv : Move} {cs : List Chan} {c : Chan} (mem : c ∈ cs)
    (goal : Int) :
    (if (claimedBy s mv cs).length ≠ 0 ∧ mv.duration = 0 ∧ mv.cycle = false then doneChan k (takenLane s k mv goal c)
      else takenLane s k mv goal c) = startedLane s k mv goal c := by
  unfold takenLane startedLane
  by_cases safe : (mv.origin.heedsSafe && s.chans[c].safe) = true
  · simp only [if_pos safe, unnamed.doneChan, ite_self]
  · by_cases held : isHeld s c = true
    · have done : doneChan k { s.chans[c] with cueLevel := goal } = { s.chans[c] with cueLevel := goal } := by
        unfold doneChan
        split
        · rename_i cl claim
          exact if_neg (unnamed.slot_chan claim)
        · rfl
      simp only [if_neg safe, if_pos held, done, ite_self]
    · have counted : (claimedBy s mv cs).length ≠ 0 := by
        rw [Ne, List.length_eq_zero_iff]
        refine List.ne_nil_of_mem (a := c) (List.mem_filter.mpr ⟨mem, ?_⟩)
        rw [Bool.not_eq_true] at safe held
        rw [safe, held]
        rfl
      simp only [if_neg safe, if_neg held, counted, ne_eq, not_false_eq_true, true_and]
      split
      · exact if_pos rfl
      · rfl

/-- The start of a LEVEL move whose record is seated: the lanes one after another, then the sweep. -/
theorem lanes_startLevel {s v : State} {k : Slot} {mv r : Move} {start : Nat} {ls : List (Chan × Option Int)} {goal : Chan → Int}
    (fresh : Fresh mv r) (seated : Seated k (runningMove r start 0) s v) (law : ClaimLaw s) (unnamed : Unnamed k s)
    (nodup : (ls.map (·.1)).Nodup) (targets : ∀ l ∈ ls, laneTarget mv l.2 (liveLevel s l.1) = goal l.1) {w : State}
    (swept : w = sweepStart k (claimants v (ls.map (·.1))) (ls.foldl (fun t l => startLane k r l.1 l.2 t) v))
    (frame : KeepsShow s w) : StartsLevel s w k mv goal start (ls.map (·.1)) := by
  obtain ⟨p, d, n, rfl⟩ := fresh
  set r : Move := { mv with phase := p, due := d, remaining := n, claims := 0 } with hr
  have fresh : Fresh mv r := ⟨_, _, _, rfl⟩
  have took : Takes k r goal (ls.map (·.1)) v _ :=
    startLanes_take nodup (fun l _ => by rw [seated.getChan]; exact unnamed.chans l.1)
      (fun l mem => by rw [seated.live unnamed]; exact targets l mem)
  generalize ls.map (·.1) = cs at *
  generalize ls.foldl (fun t l => startLane k r l.1 l.2 t) v = u at *
  have claimed := seated.claimedBy_eq fresh cs
  have own : u.moves[k] = some (runningMove mv start (claimedBy s mv cs).length) := by
    rw [took.own, seated.own, claimed]
    simp only [Option.map_some, runningMove, hr, Nat.zero_add]
  have other (j : Slot) (e : j ≠ k) :
      u.moves[j] = s.moves[j].map fun m => { m with claims := m.claims - claimsIn s (claimedBy s mv cs) j } := by
    rw [took.others j e, seated.others j e, claimed, seated.claimsIn_eq]
  have sweeps := sweepStart_sweeps own (claimants v cs)
  rw [← swept] at sweeps
  have kept {α : Type} {f : State → α} (same : f { u with chans := v.chans, moves := v.moves } = f u)
      (seatless : f { v with moves := s.moves, moveSeq := s.moveSeq } = f v) : f u = f s := by
    rw [← same, took.rest, ← seatless, seated.rest]
  have lane (c : Chan) : u.chans[c] = if c ∈ cs then takenLane s k mv (goal c) c else s.chans[c] := by
    rw [took.chans, seated.takenLane_eq unnamed fresh, seated.getChan]
  refine ⟨?_, fun j e => ?_, fun c mem => ?_, fun c other => ?_, ?_, ?_, frame⟩
  · rw [sweeps.own own, startedMove]
    exact if_congr (or_congr_left List.length_eq_zero_iff) rfl rfl
  · rw [sweeps.other e, if_congr (and_congr_left' ((mem_claimants v cs j).trans (by rw [seated.claimsIn_eq]))) rfl rfl]
    unfold afterRemoval isEmptied
    rw [other j e, ← claimsIn]
    cases there : s.moves[j] with
    | none => exact if_neg (by simp)
    | some old =>
      have counted := claimsIn_claimedBy_le s mv cs j
      have law' : claimsIn s cs j ≠ 0 → old.claims ≠ 0 := claims_ne_zero law there
      by_cases zero : claimsIn s (claimedBy s mv cs) j = 0
      · rw [zero]
        simpa using law'
      · have stolen : claimsIn s cs j ≠ 0 := by omega
        simp only [Option.map_some, stolen, zero, ne_eq, not_false_eq_true, true_and, if_false, beq_iff_eq, Nat.sub_eq_zero_iff_le]
  · rw [sweeps.chans, lane, if_pos mem]
    exact doneChan_takenLane unnamed mem (goal c)
  · rw [sweeps.chans, lane, if_neg other, unnamed.doneChan, ite_self]
  · have groups : u.groups = s.groups := kept rfl rfl
    exact Vector.ext fun i hi => by
      have h := sweeps.groups ⟨i, hi⟩
      rw [groups, unnamed.doneGroup, ite_self] at h
      exact h
  · exact sweeps.reports own (kept rfl rfl) (kept rfl rfl) (kept rfl rfl) (fun j e => ⟨_, other j e⟩) ⟨_, _, rfl⟩
      (List.length_eq_zero_iff.trans List.isEmpty_iff.symm)

/-! ## The start of a GROUP move (R59, R66) -/

theorem group_startGroup {s v : State} {k : Slot} {mv r : Move} {start : Nat} {g : Grp} {recorded : Option Int} {target : Int}
    (fresh : Fresh mv r) (seated : Seated k (runningMove r start 0) s v) (unnamed : Unnamed k s)
    (goal : laneTarget mv recorded (liveOffset s g) = target) {w : State}
    (swept : w = sweepStart k (v.groups[g].claim.map (·.slot)).toList (startGroup k r g recorded v))
    (frame : KeepsShow s w) : StartsGroup s w k mv start g target := by
  obtain ⟨p, d, n, rfl⟩ := fresh
  set r : Move := { mv with phase := p, due := d, remaining := n, claims := 0 } with hr
  have dropped := unclaimGroup_unclaims g v
  have live := seated.liveOffset unnamed g
  have aim : laneTarget r recorded (liveOffset v g) = target := by rw [live]; exact goal
  unfold startGroup at swept
  dsimp only at swept
  rw [aim, live] at swept
  generalize taken : updMove k (fun mv => { mv with claims := mv.claims + 1 })
    (updGroup g (fun gr => { gr with claim := some ⟨k, liveOffset s g, target⟩ }) (unclaimGroup g v)) = u at swept
  have restMove := updMove_rest k (fun mv => { mv with claims := mv.claims + 1 })
    (updGroup g (fun gr => { gr with claim := some ⟨k, liveOffset s g, target⟩ }) (unclaimGroup g v))
  rw [taken] at restMove
  have groupsMid : u.groups = (updGroup g (fun gr => { gr with claim := some ⟨k, liveOffset s g, target⟩ }) (unclaimGroup g v)).groups :=
    (congrArg State.groups restMove :)
  have rest : { u with groups := v.groups, moves := v.moves } = v :=
    (congrArg (fun x : State => { x with groups := v.groups, moves := v.moves }) restMove).trans dropped.rest
  have kept {α : Type} {f : State → α} (same : f { u with groups := v.groups, moves := v.moves } = f u)
      (seatless : f { v with moves := s.moves, moveSeq := s.moveSeq } = f v) : f u = f s := by
    rw [← same, rest, ← seatless, seated.rest]
  have notOwn : claimIs k v.groups[g].claim = false := by rw [seated.getGroup]; exact unnamed.groups g
  have own : u.moves[k] = some (runningMove mv start 1) := by
    rw [← taken, getSlot_updMove, if_pos rfl]
    show (unclaimGroup g v).moves[k].map _ = _
    rw [dropped.moves, seated.own, notOwn]
    rfl
  have other (j : Slot) (e : j ≠ k) :
      u.moves[j] = s.moves[j].map fun m => { m with claims := m.claims - if claimIs j s.groups[g].claim then 1 else 0 } := by
    rw [← taken, getSlot_updMove, if_neg (Ne.symm e)]
    show (unclaimGroup g v).moves[j] = _
    rw [dropped.moves, seated.others j e, seated.getGroup]
  have group : u.groups[g] = { s.groups[g] with offset := liveOffset s g, claim := some ⟨k, liveOffset s g, target⟩ } := by
    rw [groupsMid, getGroup_updGroup, if_pos rfl, dropped.own, live, seated.getGroup]
  have sweeps := sweepStart_sweeps own (v.groups[g].claim.map (·.slot)).toList
  rw [← swept] at sweeps
  have counted : (runningMove mv start 1).claims ≠ 0 := Nat.one_ne_zero
  have atOnce : ((runningMove mv start 1).claims ≠ 0 ∧ (runningMove mv start 1).duration = 0 ∧ (runningMove mv start 1).cycle = false) ↔
      (mv.duration = 0 ∧ mv.cycle = false) := and_iff_right counted
  refine ⟨?_, fun h e => ?_, ?_, fun j e => ?_, ?_, ?_, frame⟩
  · rw [sweeps.groups, group, if_congr atOnce rfl rfl]
    refine if_congr Iff.rfl ?_ rfl
    exact if_pos rfl
  · rw [sweeps.groups, groupsMid, getGroup_updGroup, if_neg (Ne.symm e), dropped.others h e, seated.getGroup, unnamed.doneGroup, ite_self]
  · rw [sweeps.own own]
    exact if_congr (or_iff_right counted) rfl rfl
  · have named : j ∈ (v.groups[g].claim.map (·.slot)).toList ↔ claimIs j s.groups[g].claim = true := by
      rw [seated.getGroup, ClaimCount.claimIs_iff, Option.mem_toList]
    rw [sweeps.other e, if_congr (and_congr_left' named) rfl rfl]
    unfold isEmptied
    rw [other j e]
    by_cases claimed : claimIs j s.groups[g].claim = true
    · simp only [claimed, true_and, if_true]
      cases s.moves[j] with
      | none => rfl
      | some old => simp only [Option.map_some, beq_iff_eq, Nat.sub_eq_zero_iff_le]
    · simp only [claimed, Bool.false_eq_true, false_and, if_false]
      cases s.moves[j] <;> rfl
  · have chans : u.chans = s.chans := kept rfl rfl
    exact Vector.ext fun i hi => by
      have h := sweeps.chans ⟨i, hi⟩
      rw [chans, unnamed.doneChan, ite_self] at h
      exact h
  · exact sweeps.reports own (kept rfl rfl) (kept rfl rfl) (kept rfl rfl) (fun j e => ⟨_, other j e⟩) ⟨_, _, rfl⟩
      (iff_of_false counted Bool.false_ne_true)

/-! ## The start of a seated move (R56, R57, R59) -/

/-- The lanes of a pending set, with their recorded targets where it carries them. -/
def lanesOf : Pending → List (Chan × Option Int)
  | .chans cs => cs.map fun c => (c, none)
  | .lanes ls => ls.map fun l => (l.1, some l.2)
  | .group _ => []
  | .groupTo _ _ => []

theorem lanesOf_chans (cs : List Chan) : (lanesOf (.chans cs)).map (·.1) = cs :=
  List.map_map.trans cs.map_id

theorem lanesOf_lanes (ls : List (Chan × Int)) : (lanesOf (.lanes ls)).map (·.1) = ls.map (·.1) :=
  List.map_map

theorem startPending_lanes {mv : Move} (ofChans : mv.pending.groupOf = none) (k : Slot) (s : State) :
    startPending k mv s = (lanesOf mv.pending).foldl (fun t l => startLane k mv l.1 l.2 t) s := by
  unfold startPending
  cases pending : mv.pending with
  | chans cs => exact (List.foldl_map (f := fun c => (c, none)) (g := fun t l => startLane k mv l.1 l.2 t)).symm
  | lanes ls => exact (List.foldl_map (f := fun l : Chan × Int => (l.1, some l.2)) (g := fun t l => startLane k mv l.1 l.2 t)).symm
  | group g => rw [pending] at ofChans; cases ofChans
  | groupTo g target => rw [pending] at ofChans; cases ofChans

theorem pendingClaimants_lanes {p : Pending} (ofChans : p.groupOf = none) (s : State) :
    pendingClaimants s p = claimants s ((lanesOf p).map (·.1)) := by
  cases p with
  | chans cs => rw [lanesOf_chans]; rfl
  | lanes ls => rw [lanesOf_lanes]; rfl
  | group g => cases ofChans
  | groupTo g target => cases ofChans

/-- The pending set of a group, with its recorded target where there is one. -/
def groupPending (g : Grp) : Option Int → Pending
  | none => .group g
  | some target => .groupTo g target

theorem startPending_group {mv : Move} {g : Grp} {recorded : Option Int} (pending : mv.pending = groupPending g recorded)
    (k : Slot) (s : State) : startPending k mv s = startGroup k mv g recorded s := by
  unfold startPending
  rw [pending]
  cases recorded <;> rfl

theorem pendingClaimants_group (g : Grp) (recorded : Option Int) (s : State) :
    pendingClaimants s (groupPending g recorded) = (s.groups[g].claim.map (·.slot)).toList := by
  cases recorded <;> rfl

/-- The steps of a start whose record is seated. -/
theorem startFading_seated {k : Slot} {r : Move} {t : State} (there : t.moves[k] = some r) (start : Nat) :
    startFading k start t = sweepStart k (pendingClaimants (setSlot k (some (runningMove r start r.claims)) t) r.pending)
      (startPending k r (setSlot k (some (runningMove r start r.claims)) t)) := by
  unfold startFading
  rw [there]
  rfl

section
variable {s t : State} {k : Slot} {mv r : Move} {start : Nat}

theorem startFading_level {goal : Chan → Int} (fresh : Fresh mv r) (seated : Seated k r s t) (law : ClaimLaw s) (unnamed : Unnamed k s)
    (ofChans : mv.pending.groupOf = none) (nodup : ((lanesOf mv.pending).map (·.1)).Nodup)
    (targets : ∀ l ∈ lanesOf mv.pending, laneTarget mv l.2 (liveLevel s l.1) = goal l.1) (frame : KeepsShow s t) :
    StartsLevel s (startFading k start t) k mv goal start ((lanesOf mv.pending).map (·.1)) := by
  have zero : r.claims = 0 := by obtain ⟨p, d, n, rfl⟩ := fresh; rfl
  have pending : r.pending = mv.pending := by obtain ⟨p, d, n, rfl⟩ := fresh; rfl
  have running := startFading_seated seated.own start
  rw [startPending_lanes (by rw [pending]; exact ofChans), pendingClaimants_lanes (by rw [pending]; exact ofChans), pending, zero] at running
  exact lanes_startLevel fresh (seated.setSlot _) law unnamed nodup targets running (frame.trans (startFading_show _ _ _))

theorem startFading_group {g : Grp} {recorded : Option Int} {target : Int} (fresh : Fresh mv r) (seated : Seated k r s t)
    (unnamed : Unnamed k s) (pending : mv.pending = groupPending g recorded)
    (goal : laneTarget mv recorded (liveOffset s g) = target) (frame : KeepsShow s t) :
    StartsGroup s (startFading k start t) k mv start g target := by
  have zero : r.claims = 0 := by obtain ⟨p, d, n, rfl⟩ := fresh; rfl
  have same : r.pending = groupPending g recorded := by obtain ⟨p, d, n, rfl⟩ := fresh; exact pending
  have running := startFading_seated seated.own start
  rw [startPending_group same, same, pendingClaimants_group, zero] at running
  exact group_startGroup fresh (seated.setSlot _) unnamed goal running (frame.trans (startFading_show _ _ _))

end

/-! ## A created move in its slot (R53 to R56) -/

/-- The lowest FREE slot (R53). -/
theorem freeSlot_eq_some {s : State} {k : Slot} (free : s.moves[k] = none) (lowest : ∀ j : Slot, j < k → s.moves[j] ≠ none) :
    freeSlot s = some k := by
  unfold freeSlot allFin
  rw [List.find?_eq_some_iff_getElem]
  refine ⟨by simp [free], k.val, by simp, by simp, fun j lt => ?_⟩
  simpa [Option.isSome_iff_ne_none] using lowest ⟨j, lt.trans k.isLt⟩ lt

theorem freeSlot_eq_none {s : State} (full : ∀ k : Slot, s.moves[k] ≠ none) : freeSlot s = none := by
  unfold freeSlot
  rw [List.find?_eq_none]
  intro k _
  simpa using full k

theorem placeMove_seated (k : Slot) (mv : Move) (created : Nat) (s : State) :
    ∃ r, Fresh { mv with seq := s.moveSeq } r ∧ Seated k r s (placeMove k mv created s) :=
  ⟨_, ⟨_, _, _, rfl⟩, getSlot_setSlot .. |>.trans (if_pos rfl), fun _ other => (getSlot_setSlot ..).trans (if_neg (Ne.symm other)), rfl⟩

theorem placedOutcome_eq (k : Slot) (s : State) :
    placedOutcome k s = if s.moves[k] = none then .retiredAtCreation k else .placed k :=
  if_congr Option.isNone_iff_eq_none rfl rfl

theorem placedOutcome_ne_noSlot (k : Slot) (s : State) : placedOutcome k s ≠ .noSlot := by
  unfold placedOutcome
  split <;> exact Creation.noConfusion

theorem createRecorded_full {s : State} (mv : Move) (full : ∀ k : Slot, s.moves[k] ≠ none) : createRecorded mv s = (s, .noSlot) := by
  unfold createRecorded
  rw [freeSlot_eq_none full]

theorem createRecorded_placed {s : State} {k : Slot} (mv : Move) (free : s.moves[k] = none)
    (lowest : ∀ j : Slot, j < k → s.moves[j] ≠ none) :
    createRecorded mv s = (startFading k (nowIn mv.timeBase s) (placeMove k mv (nowIn mv.timeBase s) s),
      placedOutcome k (startFading k (nowIn mv.timeBase s) (placeMove k mv (nowIn mv.timeBase s) s))) := by
  unfold createRecorded
  rw [freeSlot_eq_some free lowest]

theorem goalIn_of_mem {ls : List (Chan × Int)} (nodup : (ls.map (·.1)).Nodup) {l : Chan × Int} (mem : l ∈ ls) : goalIn ls l.1 = l.2 := by
  unfold goalIn
  induction ls with
  | nil => cases mem
  | cons m ls ih =>
    obtain ⟨fresh, nodup⟩ := List.nodup_cons.mp nodup
    rcases List.mem_cons.mp mem with rfl | later
    · rw [List.find?_cons_of_pos (by simp)]
      rfl
    · rw [List.find?_cons_of_neg]
      · exact ih nodup later
      · rw [beq_iff_eq]
        exact fun e => fresh (List.mem_map.mpr ⟨l, later, e.symm⟩)

theorem laneTarget_none (mv : Move) (v : Int) : laneTarget mv none v = targetFrom mv v := rfl

/-- A LEVEL move with recorded targets is created (R53, R111, R146). -/
theorem createRecorded_level {s : State} {k : Slot} {mv : Move} {ls : List (Chan × Int)} (pending : mv.pending = .lanes ls)
    (nodup : (ls.map (·.1)).Nodup) (law : ClaimLaw s) (free : s.moves[k] = none) (lowest : ∀ j : Slot, j < k → s.moves[j] ≠ none) :
    StartsLevel s (createRecorded mv s).1 k { mv with seq := s.moveSeq } (goalIn ls) (nowIn mv.timeBase s) (ls.map (·.1)) := by
  obtain ⟨r, fresh, seated⟩ := placeMove_seated k mv (nowIn mv.timeBase s) s
  have lanes : (lanesOf mv.pending).map (·.1) = ls.map (·.1) := by rw [pending, lanesOf_lanes]
  rw [createRecorded_placed mv free lowest, ← lanes]
  refine startFading_level fresh seated law (.of_free (occupied_of_law law) free) (by rw [pending]; rfl)
    (by rw [lanes]; exact nodup) (fun l mem => ?_) (placeMove_show _ _ _ _)
  rw [show ({ mv with seq := s.moveSeq } : Move).pending = .lanes ls from pending] at mem
  obtain ⟨m, listed, rfl⟩ := List.mem_map.mp mem
  exact (goalIn_of_mem nodup listed).symm

/-- A GROUP move with a recorded target is created (R53, R111). -/
theorem createRecorded_group {s : State} {k : Slot} {mv : Move} {g : Grp} {target : Int} (pending : mv.pending = .groupTo g target)
    (occupied : ClaimsOccupied s) (free : s.moves[k] = none) (lowest : ∀ j : Slot, j < k → s.moves[j] ≠ none) :
    StartsGroup s (createRecorded mv s).1 k { mv with seq := s.moveSeq } (nowIn mv.timeBase s) g target := by
  obtain ⟨r, fresh, seated⟩ := placeMove_seated k mv (nowIn mv.timeBase s) s
  rw [createRecorded_placed mv free lowest]
  exact startFading_group (recorded := some target) fresh seated (.of_free occupied free) pending rfl (placeMove_show _ _ _ _)

/-! ## The creation of a move from an action (R49 to R56) -/

theorem pending_eq (s : State) (o : Origin) (a : Action) : (moveOf s o a).pending = resolvePending s o a.spec := rfl

theorem moveOf_eq (s : State) (o : Origin) (a : Action) : moveOf s o a = actionMove s o a := by
  unfold moveOf actionMove resolvePending
  cases a.spec <;> rfl

theorem resolveChans_nodup (s : State) (o : Origin) (t : TargetSpec) : (resolveChans s o t).Nodup :=
  ((List.nodup_finRange 64).filter _).filter _

theorem isEmpty_pending (s : State) (o : Origin) (a : Action) :
    (moveOf s o a).pending.isEmpty = true ↔ (moveOf s o a).pending = .chans [] := by
  rw [pending_eq]
  unfold resolvePending
  cases a.spec <;> simp [Pending.isEmpty]

section
variable {o : Origin} {a : Action} {fireTime : Nat} {s : State}

/-- The creation time of an action's move (R49). -/
def createdAt (base : TimeBase) (fireTime : Nat) (s : State) : Nat :=
  match base with
  | .showTime => fireTime
  | .wallTime => s.clock.wallTime

theorem createMove_empty (empty : (moveOf s o a).pending = .chans []) : createMove o a fireTime s = (s, .empty) :=
  if_pos ((isEmpty_pending s o a).mpr empty)

theorem createMove_acts (filled : (moveOf s o a).pending ≠ .chans []) (instant : a.kind.isInstant = true) (now : a.delay = 0) :
    createMove o a fireTime s = (actInstant (moveOf s o a) s, .acted) := by
  have cond : ((moveOf s o a).kind.isInstant && (moveOf s o a).delay == 0) = true := by
    show (a.kind.isInstant && a.delay == 0) = true
    rw [instant, now]
    rfl
  unfold createMove
  dsimp only
  rw [if_neg (mt (isEmpty_pending s o a).mp filled), if_pos cond]

/-- A move that needs a slot. -/
theorem createMove_needs (filled : (moveOf s o a).pending ≠ .chans []) (needs : ¬ (a.kind.isInstant = true ∧ a.delay = 0)) :
    createMove o a fireTime s = match freeSlot s with
      | none => (s, .noSlot)
      | some k =>
        let s1 := placeMove k (moveOf s o a) (createdAt a.timeBase fireTime s) s
        if 0 < a.delay then (s1, .placed k)
        else
          let s2 := startFading k (createdAt a.timeBase fireTime s) s1
          (s2, placedOutcome k s2) := by
  have cond : ¬ ((moveOf s o a).kind.isInstant && (moveOf s o a).delay == 0) = true := by
    show ¬ (a.kind.isInstant && a.delay == 0) = true
    simpa using needs
  unfold createMove
  dsimp only
  rw [if_neg (mt (isEmpty_pending s o a).mp filled), if_neg cond]
  cases freeSlot s <;> rfl

theorem createMove_full (filled : (moveOf s o a).pending ≠ .chans []) (needs : ¬ (a.kind.isInstant = true ∧ a.delay = 0))
    (full : ∀ k : Slot, s.moves[k] ≠ none) : createMove o a fireTime s = (s, .noSlot) := by
  rw [createMove_needs filled needs, freeSlot_eq_none full]

variable {k : Slot}

theorem createMove_delayed (filled : (moveOf s o a).pending ≠ .chans []) (delayed : 0 < a.delay) (free : s.moves[k] = none)
    (lowest : ∀ j : Slot, j < k → s.moves[j] ≠ none) :
    createMove o a fireTime s = (placeMove k (moveOf s o a) (createdAt a.timeBase fireTime s) s, .placed k) := by
  rw [createMove_needs filled (fun h => delayed.ne' h.2), freeSlot_eq_some free lowest]
  exact if_pos delayed

theorem createMove_starts (filled : (moveOf s o a).pending ≠ .chans []) (fading : a.kind.isInstant = false) (now : a.delay = 0)
    (free : s.moves[k] = none) (lowest : ∀ j : Slot, j < k → s.moves[j] ≠ none) :
    let w := startFading k (createdAt a.timeBase fireTime s) (placeMove k (moveOf s o a) (createdAt a.timeBase fireTime s) s)
    createMove o a fireTime s = (w, placedOutcome k w) := by
  rw [createMove_needs filled (fun h => Bool.false_ne_true (fading.symm.trans h.1)), freeSlot_eq_some free lowest]
  exact if_neg (by omega)

theorem createMove_level {cs : List Chan} (pending : (moveOf s o a).pending = .chans cs) (filled : cs ≠ []) (level : a.kind = .level)
    (now : a.delay = 0) (free : s.moves[k] = none) (lowest : ∀ j : Slot, j < k → s.moves[j] ≠ none) (law : ClaimLaw s) :
    let mv : Move := { moveOf s o a with seq := s.moveSeq }
    StartsLevel s (createMove o a fireTime s).1 k mv (goalFrom mv s) (createdAt a.timeBase fireTime s) cs ∧
      (createMove o a fireTime s).2 = placedOutcome k (createMove o a fireTime s).1 := by
  intro mv
  have notEmpty : (moveOf s o a).pending ≠ .chans [] := by
    rw [pending]
    exact fun h => filled (Pending.chans.inj h)
  obtain ⟨r, fresh, seated⟩ := placeMove_seated k (moveOf s o a) (createdAt a.timeBase fireTime s) s
  have lanes : (lanesOf mv.pending).map (·.1) = cs := by
    show (lanesOf (moveOf s o a).pending).map (·.1) = cs
    rw [pending, lanesOf_chans]
  have nodup : cs.Nodup := by
    rw [pending_eq] at pending
    unfold resolvePending at pending
    cases spec : a.spec <;> rw [spec] at pending <;> cases pending <;> exact resolveChans_nodup _ _ _
  rw [createMove_starts notEmpty (by rw [level]; rfl) now free lowest]
  refine ⟨?_, rfl⟩
  have started := startFading_level (start := createdAt a.timeBase fireTime s) (goal := goalFrom mv s) (mv := mv) fresh seated law
    (.of_free (occupied_of_law law) free)
    (by rw [show mv.pending = .chans cs from pending]; rfl) (by rw [lanes]; exact nodup)
    (fun l mem => by
      rw [show mv.pending = .chans cs from pending] at mem
      obtain ⟨c, -, rfl⟩ := List.mem_map.mp mem
      rfl)
    (placeMove_show _ _ _ _)
  rw [lanes] at started
  exact started

theorem createMove_group {g : Grp} (pending : (moveOf s o a).pending = .group g) (kind : a.kind = .group) (now : a.delay = 0)
    (free : s.moves[k] = none) (lowest : ∀ j : Slot, j < k → s.moves[j] ≠ none) (occupied : ClaimsOccupied s) :
    let mv : Move := { moveOf s o a with seq := s.moveSeq }
    StartsGroup s (createMove o a fireTime s).1 k mv (createdAt a.timeBase fireTime s) g (targetFrom mv (liveOffset s g)) ∧
      (createMove o a fireTime s).2 = placedOutcome k (createMove o a fireTime s).1 := by
  intro mv
  have notEmpty : (moveOf s o a).pending ≠ .chans [] := by
    rw [pending]
    exact Pending.noConfusion
  obtain ⟨r, fresh, seated⟩ := placeMove_seated k (moveOf s o a) (createdAt a.timeBase fireTime s) s
  rw [createMove_starts notEmpty (by rw [kind]; rfl) now free lowest]
  exact ⟨startFading_group (recorded := none) fresh seated (.of_free occupied free) pending rfl (placeMove_show _ _ _ _), rfl⟩

end

end Sys2Proof.MoveStarts
end

section
/-! MOVE START of a LEVEL and of a GROUP move with delay 0: O21 and O22. -/

namespace Sys2Proof.MoveStarts

open Sys2Proof Sys2Proof.Machine Sys2Proof.Codec Sys2Proof.Removal

/-! ## The request (R74, R75) -/

/-- MOVE START of an action that fits, whose bytes are read back as it. -/
theorem serve_moveStart (tag host : Byte) {a : Action} (fits : ActionFits a) (u : State) :
    serve ⟨0x20, tag, host :: a.bytes⟩ u =
      if u.stop.active then refuse .locked u
      else answerMoveStart (decide (clampAction a ≠ a)) host u (createMove (.live host) (clampAction a) u.clock.showTime u) := by
  show reqMoveStart (host :: a.bytes) u = _
  unfold reqMoveStart
  simp only [length_bytes, parseAction_bytes fits, ne_eq, not_true_eq_false, if_false]

/-- The answer to a move that took a slot. -/
theorem answerMoveStart_placed (clamped : Bool) (host : Byte) (s : State) {made : State × Creation} {k : Slot}
    (outcome : made.2 = placedOutcome k made.1) :
    answerMoveStart clamped host s made = accept (flag clamped ++ u8 k.val ++ [host]) (settle made.1) := by
  obtain ⟨w, o⟩ := made
  dsimp only at outcome ⊢
  subst outcome
  unfold placedOutcome
  split <;> rfl

/-- The pending set of a target spec that resolves to channels. -/
theorem resolvePending_chans {s : State} {o : Origin} {t : TargetSpec} (filled : resolveChans s o t ≠ []) :
    resolvePending s o t = .chans (resolveChans s o t) := by
  cases t with
  | channel c => rfl
  | set e => rfl
  | members g => rfl
  | group g =>
    refine absurd (List.filter_eq_nil_iff.mpr fun c mem => ?_) filled
    have named := (List.mem_filter.mp mem).2
    simp [resolveSpec] at named

theorem nowIn_createdAt (base : TimeBase) (s : State) : nowIn base s = createdAt base s.clock.showTime s := by
  cases base <;> rfl

theorem length_host_bytes (host : Byte) (a : Action) : (host :: a.bytes).length ≤ 1024 := by
  rw [List.length_cons, length_bytes]
  omega

theorem law_received {s : State} (law : ClaimLaw s) : ClaimLaw (received s) := ⟨law.chans, law.groups, law.count⟩

theorem not_active {s : State} (running : s.stop.active = false) : ¬ (received s).stop.active = true := by
  show ¬ s.stop.active = true
  rw [running]
  exact Bool.false_ne_true

theorem createRecorded_made {s : State} {k : Slot} (mv : Move) (free : s.moves[k] = none)
    (lowest : ∀ j : Slot, j < k → s.moves[j] ≠ none) : (createRecorded mv s).2 ≠ .noSlot := by
  rw [createRecorded_placed mv free lowest]
  exact placedOutcome_ne_noSlot _ _

/-- Settles O21: the creation takes the lowest free slot and starts there. -/
theorem levelMoveStart : Obligations.LevelMoveStart := by
  refine ⟨fun tag host s a k idle fits level now running filled free lowest law => ?_, fun s mv ls pending nodup law =>
    ⟨createRecorded_full mv, fun k free lowest => ⟨_, _, rfl, createRecorded_made mv free lowest, createRecorded_level pending nodup law free lowest⟩⟩⟩
  intro p b mv
  have none : b.delay = 0 := by
    show min a.delay Config.timeMax = 0
    rw [now, Nat.zero_min]
  obtain ⟨starts, outcome⟩ := createMove_level (o := .live host) (a := b) (fireTime := s.clock.showTime) (s := received s)
    (resolvePending_chans filled) filled level none free lowest (law_received law)
  refine ⟨(createMove (.live host) b s.clock.showTime (received s)).1, ?_, nowIn_createdAt b.timeBase s ▸ starts⟩
  refine exec_idle rfl idle (length_host_bytes host a) ((serve_moveStart tag host fits (received s)).trans ?_)
  refine (if_neg (not_active running)).trans ?_
  exact answerMoveStart_placed _ _ _ outcome

/-- Settles O22: the same for a GROUP move. -/
theorem groupMoveStart : Obligations.GroupMoveStart := by
  refine ⟨fun tag host s a g k idle fits kind spec now running free lowest occupied => ?_, fun s mv g target pending occupied =>
    ⟨createRecorded_full mv, fun k free lowest => ⟨_, _, rfl, createRecorded_made mv free lowest, createRecorded_group pending occupied free lowest⟩⟩⟩
  intro p b mv
  have none : b.delay = 0 := by
    show min a.delay Config.timeMax = 0
    rw [now, Nat.zero_min]
  have pending : (moveOf (received s) (.live host) b).pending = .group g := by
    rw [pending_eq, show b.spec = .group g from spec]
    rfl
  obtain ⟨starts, outcome⟩ := createMove_group (o := .live host) (a := b) (fireTime := s.clock.showTime) (s := received s)
    pending kind none free lowest occupied
  refine ⟨(createMove (.live host) b s.clock.showTime (received s)).1, ?_, nowIn_createdAt b.timeBase s ▸ starts⟩
  refine exec_idle rfl idle (length_host_bytes host a) ((serve_moveStart tag host fits (received s)).trans ?_)
  refine (if_neg (not_active running)).trans ?_
  exact answerMoveStart_placed _ _ _ outcome

end Sys2Proof.MoveStarts
end

section
/-! The instant kinds (R52), hand-backs' ownership, creations (R49 to R56), and MOVE START: O20. -/

namespace Sys2Proof.MoveStarts

open Sys2Proof Sys2Proof.Machine Sys2Proof.Codec Sys2Proof.Removal Sys2Proof.Settings Sys2Proof.GroupRequests Sys2Proof.WholeUnits

/-! ## Own mutes, one unit after another (R10, R52) -/

/-- Two responses of a ramp in a row are one, where at most one of the two changes moves its goal. -/
theorem rampAfter_twice {s t w : State} {d : Chan} (force : rampInForce t d = rampInForce s d) (force' : rampInForce w d = rampInForce s d)
    (settles : rampGoal t d = rampGoal s d ∨ rampGoal w d = rampGoal t d) (atten : t.chans[d].atten = rampAfter s t d) :
    rampAfter t w d = rampAfter s w d := by
  unfold rampAfter at atten ⊢
  rw [force] at atten ⊢
  rw [force', atten]
  simp only [ne_eq, not_true_eq_false, or_false]
  rcases settles with same | same
  · simp only [same, not_true_eq_false, false_and, if_false]
  · simp only [same, not_true_eq_false, false_and, if_false]

/-- The ramps' response to own mutes of a list of channels. -/
theorem setOwnMutes_become (on : Bool) : ∀ (cs : List Chan) (s : State),
    OwnMutesBecome cs on s (cs.foldl (fun s c => setOwnMute c on s) s) ∧ OnlyChans s (cs.foldl (fun s c => setOwnMute c on s) s)
  | [], s => by
    refine ⟨fun d => ?_, ⟨rfl⟩⟩
    show s.chans[d] = { s.chans[d] with ownMute := s.chans[d].ownMute, atten := rampAfter s s d }
    rw [SameRamp.unmoved ⟨rfl, rfl, rfl, rfl, fun _ => rfl, rfl⟩]
  | c :: cs, s => by
    obtain ⟨later, only⟩ := setOwnMutes_become on cs (setOwnMute c on s)
    have first := setOwnMute_only c on s
    rw [List.foldl_cons]
    refine ⟨fun d => ?_, first.trans only⟩
    have here := getChan_setOwnMute c on s d
    have there := later d
    generalize cs.foldl (fun s c => setOwnMute c on s) (setOwnMute c on s) = w at there only ⊢
    generalize setOwnMute c on s = t at here first there only ⊢
    have units : unitChans t = unitChans s := funext fun e => by
      unfold unitChans isLinked
      rw [(congrArg State.pairLinked first.rest :)]
    rw [units] at there
    have ownT : t.chans[d].ownMute = if d ∈ unitChans s c then on else s.chans[d].ownMute := by rw [here]
    have ownW : w.chans[d].ownMute = if d ∈ cs.flatMap (unitChans s) then on else t.chans[d].ownMute := by rw [there]
    have ramp (u : State) (v : State) (x : OnlyChans v u) (eq : ∃ o a, u.chans[d] = { v.chans[d] with ownMute := o, atten := a })
        (own : u.chans[d].ownMute = v.chans[d].ownMute) : SameRamp v u d := by
      obtain ⟨o, a, eq⟩ := eq
      exact ⟨own, by rw [eq], by rw [eq], by rw [eq], fun g => by rw [x.groups], x.stop⟩
    have force : rampInForce t d = rampInForce s d := by
      unfold rampInForce underStop
      rw [here, first.stop]
    have force' : rampInForce w d = rampInForce t d := by
      unfold rampInForce underStop
      rw [there, only.stop]
    have settles : rampGoal t d = rampGoal s d ∨ rampGoal w d = rampGoal t d := by
      by_cases mem : d ∈ unitChans s c
      · rw [if_pos mem] at ownT
        exact .inr (ramp w t only ⟨_, _, there⟩ (by rw [ownW, ownT, ite_self])).goal
      · exact .inl (ramp t s first ⟨_, _, here⟩ (by rw [ownT, if_neg mem])).goal
    have named : (if d ∈ (c :: cs).flatMap (unitChans s) then on else s.chans[d].ownMute) =
        if d ∈ cs.flatMap (unitChans s) then on else t.chans[d].ownMute := by
      simp only [ownT, List.flatMap_cons, List.mem_append, ite_or]
      split <;> simp
    rw [there, rampAfter_twice force (force'.trans force) settles (by rw [here]), ← named, here]

/-- A group's mute and its members' ramps (R10, R27). -/
theorem setGroupMute_becomes (g : Grp) (on : Bool) (s : State) :
    GroupMuteBecomes g on s (setGroupMute g on s) ∧ { setGroupMute g on s with chans := s.chans, groups := s.groups } = s := by
  have sets := groupMute_sets true g on s
  simp only [if_true] at sets
  refine ⟨⟨Vector.ext fun i h => ?_, sets.chans⟩, sets.rest⟩
  by_cases e : i = g.val
  · subst e
    simpa using sets.own
  · have other := sets.others ⟨i, h⟩ (fun same => e (congrArg Fin.val same))
    simpa [Vector.getElem_set, Ne.symm e] using other

/-! ## What creations change in the records (R48, R57, R59, R64) -/

/-- From s to t a channel changed in its base, claim and cue level alone, a group in its offset and claim alone. -/
structure Leads (s t : State) : Prop where
  chans : ∀ c : Chan, { t.chans[c] with base := s.chans[c].base, claim := s.chans[c].claim, cueLevel := s.chans[c].cueLevel } = s.chans[c]
  groups : ∀ g : Grp, { t.groups[g] with offset := s.groups[g].offset, claim := s.groups[g].claim } = s.groups[g]

namespace Leads

theorem of_records {s t : State} (same : t.chans = s.chans ∧ t.groups = s.groups) : Leads s t :=
  ⟨fun c => by rw [same.1], fun g => by rw [same.2]⟩

theorem refl (s : State) : Leads s s := of_records ⟨rfl, rfl⟩

theorem trans {a b c : State} (h : Leads a b) (h' : Leads b c) : Leads a c where
  chans d := (congrArg (fun ch : Channel =>
    { ch with base := a.chans[d].base, claim := a.chans[d].claim, cueLevel := a.chans[d].cueLevel }) (h'.chans d)).trans (h.chans d)
  groups g := (congrArg (fun gr : Group => { gr with offset := a.groups[g].offset, claim := a.groups[g].claim }) (h'.groups g)).trans
    (h.groups g)

theorem foldl {α : Type} {f : State → α → State} (h : ∀ s a, Leads s (f s a)) (l : List α) (s : State) : Leads s (l.foldl f s) :=
  List.foldlRecOn (motive := Leads s) l f (.refl s) fun t ht a _ => ht.trans (h t a)

theorem updChan {f : Channel → Channel} (c : Chan)
    (keeps : ∀ ch : Channel, { f ch with base := ch.base, claim := ch.claim, cueLevel := ch.cueLevel } = ch) (s : State) :
    Leads s (updChan c f s) := by
  refine ⟨fun d => ?_, fun _ => rfl⟩
  rw [getChan_updChan]
  split
  · rename_i same
    exact same ▸ keeps _
  · rfl

theorem updGroup {f : Group → Group} (g : Grp) (keeps : ∀ gr : Group, { f gr with offset := gr.offset, claim := gr.claim } = gr)
    (s : State) : Leads s (updGroup g f s) := by
  refine ⟨fun _ => rfl, fun h => ?_⟩
  rw [getGroup_updGroup]
  split
  · rename_i same
    exact same ▸ keeps _
  · rfl

theorem updMove (k : Slot) (f : Move → Move) (s : State) : Leads s (updMove k f s) :=
  of_records ⟨(congrArg State.chans (updMove_rest k f s) :), (congrArg State.groups (updMove_rest k f s) :)⟩

theorem unclaimChan (c : Chan) (s : State) : Leads s (unclaimChan c s) := by
  unfold Machine.unclaimChan
  split
  · exact .refl s
  · exact (updChan c (by intro _; rfl) s).trans (.updMove _ _ _)

theorem unclaimGroup (g : Grp) (s : State) : Leads s (unclaimGroup g s) := by
  unfold Machine.unclaimGroup
  split
  · exact .refl s
  · exact (updGroup g (by intro _; rfl) s).trans (.updMove _ _ _)

theorem startLane (k : Slot) (mv : Move) (c : Chan) (recorded : Option Int) (s : State) : Leads s (startLane k mv c recorded s) := by
  unfold Machine.startLane
  split
  · exact .refl s
  · dsimp only
    split
    · exact .updChan c (by intro _; rfl) s
    · exact ((unclaimChan c s).trans (.updChan c (by intro _; rfl) _)).trans (.updMove _ _ _)

theorem startGroup (k : Slot) (mv : Move) (g : Grp) (recorded : Option Int) (s : State) : Leads s (startGroup k mv g recorded s) :=
  ((unclaimGroup g s).trans (.updGroup g (by intro _; rfl) _)).trans (.updMove _ _ _)

theorem startPending (k : Slot) (mv : Move) (s : State) : Leads s (startPending k mv s) := by
  unfold Machine.startPending
  split
  · exact .foldl (fun t c => .startLane k mv c none t) _ s
  · exact .foldl (fun t (l : Chan × Int) => .startLane k mv l.1 (some l.2) t) _ s
  · exact .startGroup ..
  · exact .startGroup ..

theorem retire (k : Slot) (reason : Reason) (r : Nat) (s : State) : Leads s (retire k reason r s) := of_records (retire_records ..)

theorem completeClaims (k : Slot) (s : State) : Leads s (completeClaims k s) := by
  unfold Machine.completeClaims
  refine ⟨fun c => ?_, fun g => ?_⟩
  · simp only [mapGroups_chans, getChan_mapChans]
    split
    · split <;> rfl
    · rfl
  · simp only [getGroup_mapGroups, mapChans_groups]
    split
    · split <;> rfl
    · rfl

theorem finishStart (k : Slot) (s : State) : Leads s (finishStart k s) := by
  unfold Machine.finishStart completeMove
  split
  · exact .refl s
  · split
    · exact .retire ..
    · split
      · split
        · exact .refl s
        · exact (completeClaims k s).trans (.retire ..)
      · exact .refl s

theorem sweepStart (k : Slot) (stolen : List Slot) (s : State) : Leads s (sweepStart k stolen s) := by
  refine .foldl (fun t j => ?_) _ s
  split
  · exact .finishStart k t
  · split
    · exact .retire ..
    · exact .refl t

theorem startFading (k : Slot) (start : Nat) (s : State) : Leads s (startFading k start s) := by
  unfold Machine.startFading
  split
  · exact .refl s
  · exact .trans (b := Machine.startPending k _ (setSlot k _ s)) (.trans (b := setSlot k _ s) (.of_records ⟨rfl, rfl⟩) (.startPending ..))
      (.sweepStart ..)

theorem createRecorded (mv : Move) (s : State) : Leads s (createRecorded mv s).1 := by
  unfold Machine.createRecorded
  split
  · exact .refl s
  · exact .trans (b := placeMove _ mv _ s) (.of_records ⟨rfl, rfl⟩) (.startFading ..)

theorem askGlide (c : Chan) (s : State) : Leads s (askGlide c s).1 := by
  unfold Machine.askGlide
  split
  · exact .refl s
  · have made := Leads.createRecorded (glideMove s c) s
    split
    · rename_i eq
      rw [eq] at made
      exact made.trans (.of_records ⟨rfl, rfl⟩)
    · rename_i eq
      rw [eq] at made
      exact made

/-- No ownership changed. -/
theorem owner {s t : State} (h : Leads s t) (c : Chan) : t.chans[c].ownership = s.chans[c].ownership :=
  (congrArg Channel.ownership (h.chans c) :)

end Leads

/-! ## Whose unit it is (R137, R145) -/

/-- A channel after its unit's ownership is written. -/
theorem getChan_setOwnership (c : Chan) (o : Ownership) (s : State) (d : Chan) : (setOwnership c o s).chans[d] =
    if d ∈ unitChans s c then { s.chans[d] with ownership := o, side := none, pickupStrip := none, balance := none }
    else s.chans[d] :=
  getChan_updChans _ d (unitChans_nodup s c) s

/-- A hand-back puts the unit in AUTO and no other (R145). -/
theorem handBackGlide_owners (c : Chan) (cause : TakeoverCause) (s : State) (d : Chan) :
    (handBackGlide c cause s).1.chans[d].ownership = if d ∈ unitChans s c then .auto else s.chans[d].ownership := by
  have written : (setOwnership c .auto s).chans[d].ownership = if d ∈ unitChans s c then .auto else s.chans[d].ownership := by
    rw [getChan_setOwnership]
    split <;> rfl
  unfold handBackGlide
  dsimp only
  split
  · exact written
  · exact ((Leads.askGlide c _).owner d).trans written

theorem unitChans_show {s t : State} (h : KeepsShow s t) : unitChans t = unitChans s := funext fun c => by
  unfold unitChans isLinked
  rw [h.pairLinked]

/-- The LATCHED units that a RELEASE names go to AUTO, and no other ownership changes (R52, R147). -/
theorem releaseAll_owners : ∀ (cs : List Chan) {s : State}, UnitLaw s → ∀ d : Chan, (releaseAll cs s).chans[d].ownership =
    if s.chans[d].ownership = .latched ∧ ∃ c ∈ cs, d ∈ unitChans s c then .auto else s.chans[d].ownership
  | [], s, _, d => by simp [releaseAll]
  | c :: cs, s, law, d => by
    by_cases latched : s.chans[c].ownership = .latched
    · have kept := law_core.handBackGlide c .releaseAction law
      have here := handBackGlide_owners c .releaseAction s d
      have unit : d ∈ unitChans s c → s.chans[d].ownership = .latched := fun mem =>
        (ownership_of_shared (shared_of_unit mem law)).trans latched
      rw [releaseAll, if_pos latched, releaseAll_owners cs kept d, unitChans_show (handBackGlide_show c .releaseAction s), here]
      by_cases mem : d ∈ unitChans s c
      · simp [mem, unit mem, -Fin.getElem_fin]
      · simp [mem, -Fin.getElem_fin]
    · have unit : d ∈ unitChans s c → s.chans[d].ownership ≠ .latched := fun mem same =>
        latched ((ownership_of_shared (shared_of_unit mem law)).symm.trans same)
      rw [releaseAll, if_neg latched, releaseAll_owners cs law d]
      by_cases mem : d ∈ unitChans s c
      · simp [unit mem, -Fin.getElem_fin]
      · simp [mem, -Fin.getElem_fin]

/-- The act of a RELEASE is its hand-backs in order. -/
theorem releaseAll_eq : ∀ (cs : List Chan) (s : State), cs.foldl (fun s c => releaseLatched c s) s = releaseAll cs s
  | [], _ => rfl
  | c :: cs, s => releaseAll_eq cs (releaseLatched c s)

/-! ## The acts of the instant kinds (R52) -/

theorem actInstant_mutes {mv : Move} {on : Bool} (kind : mv.kind = if on then .mute else .unmute) (s : State) :
    actInstant mv s = (actedOn s mv).foldl (fun s c => setOwnMute c on s) s := by
  unfold actInstant
  cases on <;> (rw [kind]; rfl)

theorem actInstant_groupMutes {mv : Move} {on : Bool} (kind : mv.kind = if on then .groupMute else .groupUnmute) (s : State) :
    actInstant mv s = actGroup mv on s := by
  unfold actInstant
  cases on <;> (rw [kind]; rfl)

theorem actInstant_release {mv : Move} (kind : mv.kind = .release) (s : State) :
    actInstant mv s = releaseAll (actedOn s mv) s := by
  unfold actInstant
  rw [kind]
  exact releaseAll_eq _ s

theorem actGroup_group {mv : Move} {g : Grp} (pending : mv.pending = .group g) (on : Bool) (s : State) :
    actGroup mv on s = setGroupMute g on s := by
  unfold actGroup
  rw [pending]
  rfl

/-- A resolved pending set holds no channel that its move passes over (R29, R50). -/
theorem actedOn_resolved {s : State} {o : Origin} {a : Action} {cs : List Chan} (pending : (moveOf s o a).pending = .chans cs) :
    actedOn s (moveOf s o a) = cs := by
  have resolved : ∃ t, cs = resolveChans s o t := by
    rw [pending_eq] at pending
    unfold resolvePending at pending
    cases spec : a.spec <;> rw [spec] at pending <;> cases pending <;> exact ⟨_, rfl⟩
  obtain ⟨t, rfl⟩ := resolved
  unfold actedOn
  rw [pending]
  exact List.filter_eq_self.mpr fun c mem => (List.mem_filter.mp mem).2

/-! ## A creation of any origin and fire time (R49 to R56) -/

theorem createMove_creates (o : Origin) (a : Action) (fireTime : Nat) (s : State) :
    Creates o a fireTime s (createMove o a fireTime s).1 (createMove o a fireTime s).2 := by
  refine ⟨fun empty => ?_, fun filled instant now => ?_, fun filled needs full => ?_, fun k filled delayed free lowest => ?_,
    fun k cs pending filled level now free lowest law => ?_, fun k g pending kind now free lowest occupied => ?_⟩
  · rw [← moveOf_eq] at empty
    rw [createMove_empty empty]
    exact ⟨rfl, rfl⟩
  · rw [← moveOf_eq] at filled ⊢
    have show_ := actInstant_show (moveOf s o a) s
    rw [createMove_acts filled instant now]
    refine ⟨rfl, show_, fun cs on kind pending => ?_, fun g on kind pending => ?_, fun cs kind pending => ?_⟩
    · rw [actInstant_mutes (mv := moveOf s o a) kind, actedOn_resolved pending]
      obtain ⟨become, only⟩ := setOwnMutes_become on cs s
      exact ⟨become, only.rest⟩
    · rw [actInstant_groupMutes (mv := moveOf s o a) kind, actGroup_group pending]
      exact setGroupMute_becomes g on s
    · rw [actInstant_release (mv := moveOf s o a) kind, actedOn_resolved pending]
  · rw [← moveOf_eq] at filled
    rw [createMove_full filled needs full]
    exact ⟨rfl, rfl⟩
  · rw [← moveOf_eq] at filled ⊢
    rw [createMove_delayed filled delayed free lowest]
    refine ⟨rfl, ?_⟩
    unfold placeMove setSlot traversals
    cases base : a.timeBase <;> simp only [moveOf, base] <;> rfl
  · intro mv
    rw [← moveOf_eq] at pending
    obtain ⟨starts, outcome⟩ := createMove_level (fireTime := fireTime) pending filled level now free lowest law
    rw [moveOf_eq] at starts
    exact ⟨starts, outcome.trans (placedOutcome_eq _ _)⟩
  · intro mv
    rw [← moveOf_eq] at pending
    obtain ⟨starts, outcome⟩ := createMove_group (fireTime := fireTime) pending kind now free lowest occupied
    rw [moveOf_eq] at starts
    exact ⟨starts, outcome.trans (placedOutcome_eq _ _)⟩

/-! ## The words of the moves, and the resolution of a target spec -/

theorem slotsWhere_ascending (p : Move → Bool) (s : State) : (slotsWhere p s).Pairwise (· < ·) :=
  (List.pairwise_lt_finRange 48).filter _

theorem moveWords : MoveWords where
  now _ := ⟨rfl, rfl⟩
  since _ _ := rfl
  add _ _ := ⟨rfl, rfl⟩
  instant kind := by cases kind <;> simp [MoveKind.isInstant]
  finite mv := by simp [Move.isFinite, or_assoc]
  safe o := by cases o <;> simp [Origin.heedsSafe]
  stopped mv := by
    unfold Move.heedsStop
    cases mv.origin <;> simp
  live mv := by
    unfold Move.isLive
    cases mv.origin <;> simp
  firing f mv := by
    unfold Move.ofFiring
    cases mv.origin with
    | cue g n => exact beq_iff_eq.trans ⟨fun e => ⟨n, by rw [e]⟩, fun ⟨m, e⟩ => by cases e; rfl⟩
    | live t => simp
    | rejoin c => simp
    | back g => simp
  recorded mv := by
    unfold Move.isRecorded
    cases mv.pending <;> simp
  slots p s := ⟨slotsWhere_ascending p s, Laws.mem_slotsWhere p s⟩

theorem mem_resolveSpec (s : State) (spec : TargetSpec) (d : Chan) : d ∈ resolveSpec s spec ↔ Names s spec d := by
  cases spec with
  | channel c => exact List.mem_singleton
  | set e => exact Iff.rfl
  | members g => exact List.mem_filter.trans (and_iff_right (List.mem_finRange d))
  | group g => exact List.mem_nil_iff _

theorem mem_unit_iff (s : State) (c d : Chan) :
    (d == c || (unitChans s d).contains c) = true ↔ c = d ∨ (s.pairLinked[pairOf d] = true ∧ pairOf c = pairOf d) := by
  rw [Bool.or_eq_true, beq_iff_eq, List.contains_iff_mem, Laws.mem_unitChans]
  unfold pairOf
  simp only [Fin.ext_iff]
  tauto

/-- The channels a target spec resolves to (R29, R50). -/
theorem resolveChans_resolves (s : State) (o : Origin) (spec : TargetSpec) : Resolves s o spec (resolveChans s o spec) := by
  refine ⟨((List.pairwise_lt_finRange 64).filter _).filter _, fun c => ?_⟩
  unfold resolveChans withPartners
  rw [List.mem_filter, List.mem_filter, and_iff_right (show c ∈ allFin 64 from List.mem_finRange c), List.any_eq_true]
  simp only [mem_resolveSpec, mem_unit_iff, Bool.not_eq_true', ← moveWords.safe, ← Bool.not_eq_true, Bool.and_eq_true, and_comm (a := o.heedsSafe = true)]

/-! ## MOVE START without a start at once (R74, R75) -/

/-- What the act of a kind of mutes leaves. -/
structure Mutes (mv : Move) (s w : State) : Prop where
  rest : { w with chans := s.chans, groups := s.groups } = s
  chans : ∀ d : Chan, w.chans[d] = { s.chans[d] with
    ownMute := if (mv.kind = .mute ∨ mv.kind = .unmute) ∧ d ∈ (actedOn s mv).flatMap (unitChans s)
      then decide (mv.kind = .mute) else s.chans[d].ownMute
    atten := rampAfter s w d }
  groups : ∀ g : Grp, w.groups[g] = { s.groups[g] with
    mute := if (mv.kind = .groupMute ∨ mv.kind = .groupUnmute) ∧ mv.pending.groupOf = some g
      then decide (mv.kind = .groupMute) else s.groups[g].mute }

theorem mutes_of_ownMutes {mv : Move} {on : Bool} (kind : mv.kind = if on then .mute else .unmute) (s : State) :
    Mutes mv s (actInstant mv s) := by
  rw [actInstant_mutes kind]
  obtain ⟨become, only⟩ := setOwnMutes_become on (actedOn s mv) s
  refine ⟨(congrArg (fun u : State => { u with groups := s.groups }) only.rest :), fun d => ?_, fun g => ?_⟩
  · rw [become d]
    cases on <;> (rw [kind]; simp)
  · rw [only.groups]
    cases on <;> (rw [kind]; simp)

theorem mutes_of_groupMutes {mv : Move} {on : Bool} (kind : mv.kind = if on then .groupMute else .groupUnmute) (s : State) :
    Mutes mv s (actInstant mv s) := by
  rw [actInstant_groupMutes kind]
  have still : ∀ d : Chan, (if (mv.kind = .mute ∨ mv.kind = .unmute) ∧ d ∈ (actedOn s mv).flatMap (unitChans s)
      then decide (mv.kind = .mute) else s.chans[d].ownMute) = s.chans[d].ownMute := fun d => by
    cases on <;> (rw [kind]; simp)
  unfold actGroup
  cases group : mv.pending.groupOf with
  | none =>
    refine ⟨rfl, fun d => ?_, fun g => ?_⟩
    · rw [still, SameRamp.unmoved ⟨rfl, rfl, rfl, rfl, fun _ => rfl, rfl⟩]
    · rw [group]
      simp
  | some g =>
    have sets := groupMute_sets true g on s
    simp only [if_true] at sets
    refine ⟨sets.rest, fun d => ?_, fun h => ?_⟩
    · rw [still]
      exact sets.chans d
    · rw [group]
      by_cases e : h = g
      · subst e
        refine sets.own.trans ?_
        cases on <;> (rw [kind]; simp)
      · refine (sets.others h e).trans ?_
        simp [Ne.symm e]

theorem actInstant_mutings {mv : Move} (instant : mv.kind.isInstant = true) (other : mv.kind ≠ .release) (s : State) :
    Mutes mv s (actInstant mv s) := by
  cases kind : mv.kind with
  | mute => exact mutes_of_ownMutes (on := true) kind s
  | unmute => exact mutes_of_ownMutes (on := false) kind s
  | groupMute => exact mutes_of_groupMutes (on := true) kind s
  | groupUnmute => exact mutes_of_groupMutes (on := false) kind s
  | release => exact absurd kind other
  | level => rw [kind] at instant; cases instant
  | group => rw [kind] at instant; cases instant

/-- A LIVE move passes over no channel (R29). -/
theorem actedOn_live (s : State) (host : Byte) (a : Action) :
    actedOn s (moveOf s (.live host) a) = (moveOf s (.live host) a).pending.channels :=
  List.filter_eq_self.mpr fun _ _ => rfl

theorem groupOf_iff (s : State) (o : Origin) (a : Action) (g : Grp) :
    (moveOf s o a).pending.groupOf = some g ↔ (moveOf s o a).pending = .group g := by
  rw [pending_eq]
  unfold resolvePending
  cases a.spec <;> simp [Pending.groupOf]

/-- Settles O20: the refusals in R75's order, the DELAYED record, and the acts. -/
theorem moveStart : Obligations.MoveStart := by
  refine ⟨moveWords, CueRequests.clampAction_eq, resolveChans_resolves, moveOf_eq, fun tag host s a idle fits => ?_⟩
  intro p f b mv noSlotNeeded
  have asked {w : State} {reply : List Byte} (running : s.stop.active = false)
      (made : answerMoveStart (decide (b ≠ a)) host (received s) (createMove (.live host) b s.clock.showTime (received s)) = (w, reply)) :
      exec (.moveStart tag p) s = .next (sending f reply w) :=
    exec_idle rfl idle (length_host_bytes host a)
      (((serve_moveStart tag host fits (received s)).trans (if_neg (not_active running))).trans made)
  refine ⟨fun active => ?_, fun running empty => ?_, fun running filled needs full => ?_,
    fun k running filled delayed free lowest => ?_, fun running filled now => ?_⟩
  · exact exec_idle rfl idle (length_host_bytes host a) ((serve_moveStart tag host fits (received s)).trans (if_pos active))
  · refine asked running ?_
    rw [createMove_empty (s := received s) (o := .live host) (a := b) empty]
    rfl
  · refine asked running ?_
    rw [createMove_full (s := received s) (o := .live host) (a := b) filled needs full]
    rfl
  · refine asked running ?_
    rw [createMove_delayed (s := received s) (o := .live host) (a := b) filled delayed free lowest,
      show createdAt b.timeBase s.clock.showTime (received s) = nowIn b.timeBase s from (nowIn_createdAt b.timeBase s).symm]
    rfl
  · refine ⟨actInstant mv (received s), asked running ?_, actInstant_show _ _, fun other => ?_, fun release => ⟨?_, fun law d => ?_⟩⟩
    · rw [createMove_acts (s := received s) (o := .live host) (a := b) filled now.1 now.2]
      rfl
    · have mutes := actInstant_mutings (mv := mv) now.1 other (received s)
      refine ⟨mutes.rest, fun d => (mutes.chans d).trans ?_, fun g => (mutes.groups g).trans ?_⟩
      · rw [show actedOn (received s) mv = mv.pending.channels from actedOn_live s host b]
        rfl
      · rw [if_congr (and_congr_right' (groupOf_iff s (.live host) b g)) rfl rfl]
        rfl
    · exact (actInstant_release (mv := mv) release (received s)).trans
        (congrArg (releaseAll · (received s)) (actedOn_live s host b))
    · rw [actInstant_release (mv := mv) release (received s), show actedOn (received s) mv = mv.pending.channels from actedOn_live s host b]
      exact releaseAll_owners mv.pending.channels (s := received s) ⟨law.pairs, law.held⟩ d

end Sys2Proof.MoveStarts
end

section
/-! The order of due items of one instant (R61, R71; log entry 12), and the end of a traversal: O25. -/

namespace Sys2Proof.DueOrder

open Sys2Proof Sys2Proof.Machine Sys2Proof.Removal Sys2Proof.MoveStarts

/-! ## The due moves of a time base -/

theorem mem_dueMoves {base : TimeBase} {s : State} {x : Nat × DueItem} : x ∈ dueMoves base s ↔
    ∃ (k : Slot) (mv : Move), s.moves[k] = some mv ∧ mv.timeBase = base ∧ isDue mv s = true ∧
      x = (Config.wallMod - lateness mv s, itemOf k mv) := by
  unfold dueMoves
  rw [List.mem_flatMap]
  constructor
  · rintro ⟨k, -, mem⟩
    split at mem
    · rename_i mv there
      split at mem
      · rename_i due
        exact ⟨k, mv, there, due.1, due.2, List.mem_singleton.mp mem⟩
      · cases mem
    · cases mem
  · rintro ⟨k, mv, there, same, due, rfl⟩
    refine ⟨k, List.mem_finRange k, ?_⟩
    rw [there]
    dsimp only
    rw [if_pos ⟨same, due⟩]
    exact List.mem_singleton.mpr rfl

/-- The items due at one instant. -/
def dueAt (d : Nat) (items : List (Nat × DueItem)) : List DueItem := (items.filter fun i => i.1 == d).map (·.2)

theorem mem_dueAt {d : Nat} {items : List (Nat × DueItem)} {x : DueItem} : x ∈ dueAt d items ↔ (d, x) ∈ items := by
  unfold dueAt
  constructor
  · intro mem
    obtain ⟨⟨e, y⟩, filtered, rfl⟩ := List.mem_map.mp mem
    obtain ⟨listed, same⟩ := List.mem_filter.mp filtered
    obtain rfl : e = d := beq_iff_eq.mp same
    exact listed
  · exact fun mem => List.mem_map.mpr ⟨(d, x), List.mem_filter.mpr ⟨mem, beq_self_eq_true d⟩, rfl⟩

theorem candidates_eq (s : State) (d : Nat) (items : List (Nat × DueItem)) :
    candidates s d items = if unpreceded (comesBefore s) (dueAt d items) = [] then unpreceded (startsBefore s) (dueAt d items)
      else unpreceded (comesBefore s) (dueAt d items) := by
  unfold candidates dueAt
  dsimp only
  split
  · rename_i none
    rw [if_pos none]
  · rename_i x xs some
    rw [if_neg (by rw [some]; exact List.cons_ne_nil x xs), some]

/-- Where something may come first, nothing comes before a candidate (R71). -/
theorem candidate_unpreceded {s : State} {d : Nat} {items : List (Nat × DueItem)} {x z : DueItem} (h : x ∈ candidates s d items)
    (mem : (d, z) ∈ items) (first : ∀ y, (d, y) ∈ items → comesBefore s y z = false) :
    ∀ y, (d, y) ∈ items → comesBefore s y x = false := by
  rw [candidates_eq, if_neg (List.ne_nil_of_mem ((mem_unpreceded _ _ _).mpr ⟨mem_dueAt.mpr mem, fun y hy => first y (mem_dueAt.mp hy)⟩))] at h
  exact fun y hy => ((mem_unpreceded _ _ _).mp h).2 y (mem_dueAt.mpr hy)

theorem comesBefore_self (s : State) (x : DueItem) : comesBefore s x x = false := by
  have starts : startsBefore s x x = false := by
    unfold startsBefore earlierOfFiring
    cases x with
    | start k =>
      dsimp only
      cases s.moves[k] with
      | none => rfl
      | some mv => cases origin : mv.origin <;> simp [origin]
    | finish k => rfl
    | follow => rfl
  unfold comesBefore retiresBefore
  rw [starts]
  cases firstRetired s x <;> simp

theorem earliest_isSome {l : List (Nat × DueItem)} {x : Nat × DueItem} (mem : x ∈ l) : ∃ d, earliest l = some d := by
  cases l with
  | nil => cases mem
  | cons y l =>
    unfold earliest
    split <;> exact ⟨_, rfl⟩

/-- The only due move of its time base is in its turn. -/
theorem mayTake_sole {s : State} {k : Slot} {mv : Move} (there : s.moves[k] = some mv) (due : isDue mv s = true)
    (sole : ∀ (j : Slot) (other : Move), j ≠ k → s.moves[j] = some other → other.timeBase = mv.timeBase → isDue other s = false) :
    mayTake mv.timeBase (itemOf k mv) s = true := by
  have mem : (Config.wallMod - lateness mv s, itemOf k mv) ∈ dueMoves mv.timeBase s := mem_dueMoves.mpr ⟨k, mv, there, rfl, due, rfl⟩
  have all (x : Nat × DueItem) (hx : x ∈ dueMoves mv.timeBase s) : x = (Config.wallMod - lateness mv s, itemOf k mv) := by
    obtain ⟨j, other, occupied, base, isDue, rfl⟩ := mem_dueMoves.mp hx
    by_cases e : j = k
    · subst e
      cases there.symm.trans occupied
      rfl
    · rw [sole j other e occupied base] at isDue
      cases isDue
  obtain ⟨d, first⟩ := earliest_isSome mem
  obtain ⟨x, hx, rfl⟩ := Closure.earliest_mem first
  cases all x hx
  have free : itemOf k mv ∈ unpreceded (comesBefore s) (dueAt (Config.wallMod - lateness mv s) (dueMoves mv.timeBase s)) :=
    (mem_unpreceded _ _ _).mpr ⟨mem_dueAt.mpr mem, fun y hy => by
      rw [(Prod.mk.inj (all _ (mem_dueAt.mp hy))).2]
      exact comesBefore_self s _⟩
  unfold mayTake
  rw [first]
  dsimp only
  rw [List.contains_iff_mem, candidates_eq, if_neg (List.ne_nil_of_mem free)]
  exact free

/-- An item that another of its instant starts before is not in its turn (R61). -/
theorem mayTake_preceded {s : State} {base : TimeBase} {x y : DueItem} (before : startsBefore s y x = true)
    (together : ∀ d, (d, x) ∈ dueMoves base s → (d, y) ∈ dueMoves base s) : mayTake base x s = false := by
  unfold mayTake
  split
  · rename_i d first
    rw [← Bool.not_eq_true, List.contains_iff_mem]
    intro candidate
    obtain ⟨mem, none⟩ := mem_candidates _ _ _ _ candidate
    rw [none y (together d mem)] at before
    cases before
  · rfl

/-- An item that another must precede is not in its turn, where some item of its instant may come first (R71). -/
theorem mayTake_later {s : State} {base : TimeBase} {x : DueItem}
    (later : ∀ d, (d, x) ∈ dueMoves base s → ∃ y, (d, y) ∈ dueMoves base s ∧ comesBefore s y x = true)
    (some : ∀ d, (d, x) ∈ dueMoves base s →
      ∃ z, (d, z) ∈ dueMoves base s ∧ ∀ y, (d, y) ∈ dueMoves base s → comesBefore s y z = false) : mayTake base x s = false := by
  unfold mayTake
  split
  · rename_i d first
    rw [← Bool.not_eq_true, List.contains_iff_mem]
    intro candidate
    obtain ⟨mem, -⟩ := mem_candidates _ _ _ _ candidate
    obtain ⟨y, hy, before⟩ := later d mem
    obtain ⟨z, hz, none⟩ := some d mem
    rw [candidate_unpreceded candidate hz none y hy] at before
    cases before
  · rfl

/-- Two moves due at one instant are items of one instant. -/
theorem due_together {s : State} {j k : Slot} {a b : Move} (hj : s.moves[j] = some a) (hk : s.moves[k] = some b)
    (base : a.timeBase = b.timeBase) (due : isDue a s = true) (late : lateness a s = lateness b s) (d : Nat)
    (mem : (d, itemOf k b) ∈ dueMoves b.timeBase s) : (d, itemOf j a) ∈ dueMoves b.timeBase s := by
  obtain ⟨l, other, there, -, -, same⟩ := mem_dueMoves.mp mem
  obtain ⟨rfl, item⟩ := Prod.mk.inj same
  have slot : k = l := by
    unfold itemOf at item
    split at item <;> split at item <;> cases item <;> rfl
  subst slot
  cases hk.symm.trans there
  exact mem_dueMoves.mpr ⟨j, a, hj, base, due, by rw [late]⟩

/-! ## Taking an item (R55, R64, R79) -/

theorem itemOf_delayed {mv : Move} (delayed : mv.phase = .delayed) (k : Slot) : itemOf k mv = .start k := by
  unfold itemOf
  rw [delayed]

theorem itemOf_running {mv : Move} {start : Nat} (running : mv.phase = .running start) (k : Slot) : itemOf k mv = .finish k := by
  unfold itemOf
  rw [running]

theorem takeStart_idle {s : State} {k : Slot}
    (idle : ∀ mv, s.moves[k] = some mv → mv.phase ≠ .delayed ∨ isDue mv s = false ∨ mayTake mv.timeBase (.start k) s = false) :
    takeStart k s = s := by
  unfold takeStart
  split
  · rfl
  · rename_i mv there
    refine if_neg fun h => ?_
    rcases idle mv there with other | notDue | notYet
    · exact other h.1
    · rw [h.2.1] at notDue
      cases notDue
    · rw [h.2.2] at notYet
      cases notYet

theorem takeEnd_idle {s : State} {k : Slot}
    (idle : ∀ mv, s.moves[k] = some mv → mv.phase = .delayed ∨ isDue mv s = false ∨ mayTake mv.timeBase (.finish k) s = false) :
    takeEnd k s = s := by
  unfold takeEnd
  split
  · rfl
  · rename_i mv there
    refine if_neg fun h => ?_
    rcases idle mv there with other | notDue | notYet
    · exact h.1 other
    · rw [h.2.1] at notDue
      cases notDue
    · rw [h.2.2] at notYet
      cases notYet

/-- The end of the last traversal (R64). -/
theorem completeMove_ends {k : Slot} {mv : Move} {s : State} (there : s.moves[k] = some mv) :
    (completeMove k s).moves = s.moves.set k none ∧ (∀ c : Chan, (completeMove k s).chans[c] = doneChan k s.chans[c]) ∧
      (∀ g : Grp, (completeMove k s).groups[g] = doneGroup k s.groups[g]) ∧
      Reports [⟨k, mv, .completed, endInstant mv s⟩] s (completeMove k s) := by
  have rest := completeClaims_rest k s
  have still : (completeClaims k s).moves[k] = some mv := (congrArg (fun u : State => u.moves[k]) rest :).trans there
  have done : completeMove k s = retire k .completed (endInstant mv s) (completeClaims k s) := by
    unfold completeMove
    rw [there]
  rw [done]
  refine ⟨?_, fun c => ?_, fun g => ?_, ?_⟩
  · rw [retire_some still]
    exact (congrArg (fun u : State => u.moves.set k none) rest :)
  · rw [(retire_records ..).1, getChan_completeClaims]
  · rw [(retire_records ..).2, getGroup_completeClaims]
  · exact (Retires.of_same (.of_retire still .completed (endInstant mv s)) (congrArg State.play rest :) (congrArg State.link rest :)
      (congrArg State.moves rest :) (congrArg State.clock rest :)).toReports

/-- A claim on a slot that turns round (R65). -/
def turnedClaim (k : Slot) (cl : Option Claim) : Option Claim :=
  if claimIs k cl then cl.map fun cl => { cl with start := cl.target, target := cl.start } else cl

theorem turnedClaim_some (k : Slot) (cl : Claim) :
    turnedClaim k (some cl) = if cl.slot = k then some ⟨k, cl.target, cl.start⟩ else some cl := by
  unfold turnedClaim claimIs
  by_cases e : cl.slot = k
  · subst e
    simp
  · simp [e]

theorem turnRound_claims (k : Slot) (mv : Move) (start : Nat) (s : State) :
    (∀ c : Chan, (turnRound k mv start s).chans[c] = { s.chans[c] with claim := turnedClaim k s.chans[c].claim }) ∧
      ∀ g : Grp, (turnRound k mv start s).groups[g] = { s.groups[g] with claim := turnedClaim k s.groups[g].claim } := by
  unfold turnRound
  simp only [mapGroups_chans, getChan_mapChans, getGroup_mapGroups, mapChans_groups]
  exact ⟨fun _ => rfl, fun _ => rfl⟩

theorem endTraversal_ends {k : Slot} {mv : Move} {start : Nat} {s : State} (there : s.moves[k] = some mv)
    (running : mv.phase = .running start) : EndsTraversal k mv start s (endTraversal k s) := by
  have ended : endTraversal k s = if mv.cycle = false ∨ mv.remaining = 1 then completeMove k s else turnRound k mv start s := by
    unfold endTraversal
    rw [there]
    dsimp only
    rw [running]
  refine ⟨fun last => ?_, fun cycle more => ?_⟩
  · have frame := endTraversal_show k s
    rw [ended, if_pos last] at frame ⊢
    obtain ⟨moves, chans, groups, reports⟩ := completeMove_ends there
    exact ⟨moves, chans, groups, reports, frame⟩
  · have on : ¬ (mv.cycle = false ∨ mv.remaining = 1) := by simp [cycle, more]
    obtain ⟨chans, groups⟩ := turnRound_claims k mv start s
    rw [ended, if_neg on]
    refine ⟨?_, fun c => ?_, fun g => ?_, ?_⟩
    · unfold turnRound mapGroups mapChans
      rfl
    · rw [chans]
      cases claim : s.chans[c].claim with
      | none => exact congrArg (fun cl => { s.chans[c] with claim := cl }) claim.symm
      | some cl =>
        dsimp only
        rw [turnedClaim_some]
        split
        · rfl
        · rw [← claim]
    · rw [groups]
      cases claim : s.groups[g].claim with
      | none => exact congrArg (fun cl => { s.groups[g] with claim := cl }) claim.symm
      | some cl =>
        dsimp only
        rw [turnedClaim_some]
        split
        · rfl
        · rw [← claim]
    · unfold turnRound mapGroups mapChans
      rfl

/-! ## TRAVERSAL_END -/

theorem firstRetired_finish {s : State} {k j : Slot} : firstRetired s (.finish k) = some j ↔
    j = k ∧ ∃ mv, s.moves[k] = some mv ∧ mv.phase ≠ .delayed ∧ (mv.cycle = false ∨ mv.remaining = 1) := by
  unfold firstRetired
  dsimp only
  cases s.moves[k] with
  | none => simp
  | some mv =>
    dsimp only
    by_cases last : mv.phase ≠ .delayed ∧ (mv.cycle = false ∨ mv.remaining = 1)
    · rw [if_pos last]
      exact ⟨fun e => ⟨(Option.some.inj e).symm, mv, rfl, last⟩, fun h => congrArg some h.1.symm⟩
    · rw [if_neg last]
      simp only [reduceCtorEq, Option.some.injEq, exists_eq_left', last, and_false]

theorem firstRetired_last {s : State} {k : Slot} {mv : Move} {start : Nat} (there : s.moves[k] = some mv)
    (running : mv.phase = .running start) (last : mv.cycle = false ∨ mv.remaining = 1) : firstRetired s (.finish k) = some k :=
  firstRetired_finish.mpr ⟨rfl, mv, there, by rw [running]; exact MovePhase.noConfusion, last⟩

/-- Of the ends of last traversals at one instant the lowest slot's comes first (R71). -/
theorem exists_first_end {s : State} {d : Nat} {items : List (Nat × DueItem)}
    (ends : ∀ x, (d, x) ∈ items → ∃ l, x = .finish l) {j : Slot} (mem : (d, .finish j) ∈ items)
    (last : firstRetired s (.finish j) = some j) :
    ∃ z, (d, z) ∈ items ∧ ∀ y, (d, y) ∈ items → comesBefore s y z = false := by
  obtain ⟨l, ⟨hl, retires⟩, least⟩ := WellFounded.has_min (wellFounded_lt (α := Slot))
    {l : Slot | (d, DueItem.finish l) ∈ items ∧ firstRetired s (.finish l) = some l} ⟨j, mem, last⟩
  refine ⟨.finish l, hl, fun y hy => ?_⟩
  obtain ⟨i, rfl⟩ := ends y hy
  show retiresBefore s (.finish i) (.finish l) = false
  unfold retiresBefore
  rw [retires]
  cases first : firstRetired s (.finish i) with
  | none => rfl
  | some i' =>
    obtain ⟨rfl, -⟩ := firstRetired_finish.mp first
    have := least i' ⟨hy, first⟩
    simp [this]

theorem isDue_running {mv : Move} {start : Nat} (running : mv.phase = .running start) (s : State) :
    (isDue mv s = true ↔ match mv.timeBase with
      | .showTime => mv.due ≤ s.clock.showTime
      | .wallTime => mv.duration ≤ wallSince s.clock.wallTime start) ∧
    lateness mv s = match mv.timeBase with
      | .showTime => s.clock.showTime - mv.due
      | .wallTime => wallSince s.clock.wallTime start - mv.duration := by
  unfold isDue lateness
  rw [running]
  cases mv.timeBase <;> exact ⟨decide_eq_true_iff, rfl⟩

/-- Settles O25: the order of ends at one instant, and the end itself. -/
theorem traversalEnd : Obligations.TraversalEnd := by
  refine ⟨fun s k idle => congrArg (fun u => Host.Outcome.next (choose u)) (takeEnd_idle idle),
    fun s k mv start there running due sole => itemOf_running running k ▸ mayTake_sole there due sole, ?_,
    fun s mv start running => isDue_running running s, fun s k mv start there running due turn => ?_,
    fun s k mv start there running => endTraversal_ends there running⟩
  · intro s j k a b i m lower hj hk runsA runsB lastA lastB base due late ends
    refine congrArg (fun u => Host.Outcome.next (choose u)) (takeEnd_idle fun mv there => .inr (.inr ?_))
    cases hk.symm.trans there
    have retires := firstRetired_last hj runsA lastA
    have together (d : Nat) (mem : (d, DueItem.finish k) ∈ dueMoves b.timeBase s) : (d, DueItem.finish j) ∈ dueMoves b.timeBase s := by
      rw [← itemOf_running runsB] at mem
      rw [← itemOf_running runsA]
      exact due_together hj hk base due late d mem
    refine mayTake_later (fun d mem => ⟨.finish j, together d mem, ?_⟩)
      fun d mem => exists_first_end (fun x hx => ?_) (together d mem) retires
    · show retiresBefore s (.finish j) (.finish k) = true
      unfold retiresBefore
      rw [retires, firstRetired_last hk runsB lastB]
      simp [startsBefore, lower]
    · obtain ⟨l, other, occupied, same, isDue, pair⟩ := mem_dueMoves.mp hx
      obtain ⟨-, rfl⟩ := Prod.mk.inj pair
      unfold itemOf
      split
      · rename_i delayed
        exact absurd delayed (ends l other occupied same isDue)
      · exact ⟨l, rfl⟩
  · refine congrArg (fun u => Host.Outcome.next (choose u)) ?_
    unfold takeEnd
    rw [there]
    exact if_pos ⟨by rw [running]; exact MovePhase.noConfusion, due, turn⟩

end Sys2Proof.DueOrder
end

section
/-! What a due start retires (R58, R60, R66, R71), and START_EVENT: O24. -/

namespace Sys2Proof.DueOrder

open Sys2Proof Sys2Proof.Machine Sys2Proof.Removal Sys2Proof.Settings Sys2Proof.MoveStarts Sys2Proof.WholeUnits

theorem find_allFin {n : Nat} {p : Fin n → Bool} {j : Fin n} :
    (allFin n).find? p = some j ↔ p j = true ∧ ∀ i : Fin n, i < j → p i = false := by
  unfold allFin
  rw [List.find?_eq_some_iff_getElem]
  refine and_congr_right fun _ => ⟨?_, fun lower => ⟨j.val, by simp, by simp, fun i lt => ?_⟩⟩
  · rintro ⟨m, hm, at_, lower⟩ i lt
    obtain rfl : m = j.val := by simpa using congrArg Fin.val at_
    simpa using lower i.val lt
  · simpa using lower ⟨i, lt.trans j.isLt⟩ lt

/-! ## Slots through the lanes of a start -/

/-- Every slot keeps its move but for the claim count. -/
structure SameSlots (s t : State) : Prop where
  moves : ∀ l : Slot, ∃ n, t.moves[l] = s.moves[l].map fun m => { m with claims := n }

namespace SameSlots

theorem of_moves {s t : State} (same : t.moves = s.moves) : SameSlots s t := ⟨fun l => by
  rw [same]
  cases s.moves[l] with
  | none => exact ⟨0, rfl⟩
  | some m => exact ⟨m.claims, rfl⟩⟩

theorem trans {a b c : State} (h : SameSlots a b) (h' : SameSlots b c) : SameSlots a c := ⟨fun l => by
  obtain ⟨n, hn⟩ := h.moves l
  obtain ⟨m, hm⟩ := h'.moves l
  refine ⟨m, ?_⟩
  rw [hm, hn, Option.map_map]
  rfl⟩

theorem foldl {α : Type} {f : State → α → State} (h : ∀ s a, SameSlots s (f s a)) (l : List α) (s : State) :
    SameSlots s (l.foldl f s) :=
  List.foldlRecOn (motive := SameSlots s) l f (.of_moves rfl) fun t ht a _ => ht.trans (h t a)

theorem of_counts {s t : State} (counts : ∀ l : Slot, ∃ f : Nat → Nat, t.moves[l] = s.moves[l].map fun m => { m with claims := f m.claims }) :
    SameSlots s t := ⟨fun l => by
  obtain ⟨f, hf⟩ := counts l
  rw [hf]
  cases s.moves[l] with
  | none => exact ⟨0, rfl⟩
  | some m => exact ⟨f m.claims, rfl⟩⟩

theorem updMove (k : Slot) (f : Nat → Nat) (s : State) : SameSlots s (updMove k (fun m => { m with claims := f m.claims }) s) :=
  .of_counts fun l => by
    rw [getSlot_updMove]
    split
    · exact ⟨f, rfl⟩
    · refine ⟨id, ?_⟩
      cases s.moves[l] <;> rfl

theorem startLane (k : Slot) (mv : Move) (c : Chan) (recorded : Option Int) (s : State) : SameSlots s (startLane k mv c recorded s) := by
  unfold Machine.startLane
  split
  · exact .of_moves rfl
  · dsimp only
    split
    · exact .of_moves rfl
    · exact SameSlots.trans (b := unclaimChan c s)
        (.of_counts fun l => ⟨fun n => n - claimsIn s [c] l, (unclaimChan_unclaims c s).moves l⟩)
        (.trans (b := updChan c _ (unclaimChan c s)) (.of_moves rfl) (.updMove k (· + 1) _))

theorem startGroup (k : Slot) (mv : Move) (g : Grp) (recorded : Option Int) (s : State) : SameSlots s (startGroup k mv g recorded s) :=
  SameSlots.trans (b := unclaimGroup g s)
    (.of_counts fun l => ⟨fun n => n - if claimIs l s.groups[g].claim then 1 else 0, (GroupRequests.unclaimGroup_unclaims g s).moves l⟩)
    (.trans (b := updGroup g _ (unclaimGroup g s)) (.of_moves rfl) (.updMove k (· + 1) _))

theorem startPending (k : Slot) (mv : Move) (s : State) : SameSlots s (startPending k mv s) := by
  unfold Machine.startPending
  split
  · exact .foldl (fun t c => .startLane k mv c none t) _ s
  · exact .foldl (fun t (l : Chan × Int) => .startLane k mv l.1 (some l.2) t) _ s
  · exact .startGroup ..
  · exact .startGroup ..

theorem none_iff {s t : State} (h : SameSlots s t) (l : Slot) : t.moves[l] = none ↔ s.moves[l] = none := by
  obtain ⟨n, hn⟩ := h.moves l
  rw [hn, Option.map_eq_none_iff]

end SameSlots

/-- The own slot after a start, with the claims it took (R60, R66). -/
theorem startFading_own {k : Slot} {mv : Move} {s : State} (there : s.moves[k] = some mv) (start : Nat) :
    ∃ v, SameSlots (setSlot k (some (runningMove mv start mv.claims)) s) v ∧
      v = startPending k mv (setSlot k (some (runningMove mv start mv.claims)) s) ∧
      ∃ n, v.moves[k] = some (runningMove mv start n) ∧
        Sweeps k (pendingClaimants (setSlot k (some (runningMove mv start mv.claims)) s) mv.pending) (runningMove mv start n) v
          (startFading k start s) := by
  have slots := SameSlots.startPending k mv (setSlot k (some (runningMove mv start mv.claims)) s)
  refine ⟨_, slots, rfl, ?_⟩
  obtain ⟨n, hn⟩ := slots.moves k
  rw [getSlot_setSlot, if_pos rfl] at hn
  refine ⟨n, hn, ?_⟩
  rw [startFading_seated there]
  exact sweepStart_sweeps hn _

/-- A move of duration 0 and ONCE is over at its start (R66). -/
theorem startFading_atOnce {k : Slot} {mv : Move} {s : State} (there : s.moves[k] = some mv) (start : Nat)
    (atOnce : mv.duration = 0 ∧ mv.cycle = false) : (startFading k start s).moves[k] = none := by
  obtain ⟨v, -, -, n, own, sweeps⟩ := startFading_own there start
  rw [sweeps.own own]
  exact if_pos (.inr atOnce)

/-- A start that may claim no channel claims none, whatever stands in its list. -/
theorem startLanes_none {k : Slot} {mv : Move} : ∀ {cs : List Chan} {s : State}, claimedBy s mv cs = [] →
    (cs.foldl (fun s c => startLane k mv c none s) s).moves = s.moves
  | [], _, _ => rfl
  | c :: cs, s, empty => by
    have all := List.filter_eq_nil_iff.mp empty
    have here := all c List.mem_cons_self
    have later (d : Chan) (mem : d ∈ cs) := all d (List.mem_cons_of_mem c mem)
    by_cases safe : (mv.origin.heedsSafe && s.chans[c].safe) = true
    · rw [List.foldl_cons, show startLane k mv c none s = s from if_pos safe]
      exact startLanes_none (List.filter_eq_nil_iff.mpr later)
    · have held : isHeld s c = true := by
        rw [Bool.not_eq_true] at safe
        rw [safe] at here
        simpa using here
      have lane : startLane k mv c none s = updChan c (fun ch => { ch with cueLevel := laneTarget mv none (liveLevel s c) }) s := by
        rw [isHeld_eq, decide_eq_true_iff] at held
        unfold startLane
        rw [if_neg safe]
        dsimp only
        rw [if_pos held]
      rw [List.foldl_cons, lane]
      refine (startLanes_none (List.filter_eq_nil_iff.mpr fun d mem => ?_)).trans rfl
      have same : ∃ x, (updChan c (fun ch => { ch with cueLevel := laneTarget mv none (liveLevel s c) }) s).chans[d] =
          { s.chans[d] with cueLevel := x } := by
        rw [getChan_updChan]
        split
        · exact ⟨_, rfl⟩
        · exact ⟨s.chans[d].cueLevel, rfl⟩
      obtain ⟨x, same⟩ := same
      unfold isHeld
      rw [same]
      exact later d mem

/-- A LEVEL move that every channel keeps from a claim is EMPTY at its start (R60). -/
theorem startFading_empty {k : Slot} {mv : Move} {s : State} {cs : List Chan} (there : s.moves[k] = some mv) (start : Nat)
    (zero : mv.claims = 0) (pending : mv.pending = .chans cs) (empty : claimedBy s mv cs = []) :
    (startFading k start s).moves[k] = none := by
  obtain ⟨v, -, lanes, n, own, sweeps⟩ := startFading_own there start
  have still : v.moves = (setSlot k (some (runningMove mv start mv.claims)) s).moves := by
    rw [lanes]
    unfold startPending
    rw [pending]
    exact startLanes_none empty
  have count : n = 0 := by
    rw [still, getSlot_setSlot, if_pos rfl] at own
    rw [← zero]
    exact (congrArg Move.claims (Option.some.inj own)).symm
  rw [sweeps.own own]
  exact if_pos (.inl count)

/-- A start that steals no claim retires no other move (R48). -/
theorem startFading_others {k : Slot} {mv : Move} {s : State} (there : s.moves[k] = some mv) (start : Nat)
    (unclaimed : Machine.Unclaimed s mv.pending) {l : Slot} (other : l ≠ k) (occupied : s.moves[l] ≠ none) :
    (startFading k start s).moves[l] ≠ none := by
  obtain ⟨v, slots, -, n, own, sweeps⟩ := startFading_own there start
  have nothing : pendingClaimants (setSlot k (some (runningMove mv start mv.claims)) s) mv.pending = [] := by
    unfold pendingClaimants claimants
    unfold Machine.Unclaimed at unclaimed
    cases pending : mv.pending with
    | chans cs =>
      rw [pending] at unclaimed
      exact List.filterMap_eq_nil_iff.mpr fun c mem => Option.map_eq_none_iff.mpr (unclaimed c mem)
    | lanes ls =>
      rw [pending] at unclaimed
      refine List.filterMap_eq_nil_iff.mpr fun c mem => Option.map_eq_none_iff.mpr ?_
      obtain ⟨l, listed, rfl⟩ := List.mem_map.mp mem
      exact unclaimed l listed
    | group g =>
      rw [pending] at unclaimed
      exact congrArg (fun cl : Option Claim => (cl.map (·.slot)).toList) unclaimed
    | groupTo g t =>
      rw [pending] at unclaimed
      exact congrArg (fun cl : Option Claim => (cl.map (·.slot)).toList) unclaimed
  rw [sweeps.other other, nothing, if_neg (fun h => List.not_mem_nil h.1), Ne, slots.none_iff, getSlot_setSlot, if_neg (Ne.symm other)]
  exact occupied

/-! ## The acts of instant kinds retire nothing -/

theorem freeSlot_lowest {s : State} {k : Slot} (h : freeSlot s = some k) :
    s.moves[k] = none ∧ ∀ j : Slot, j < k → s.moves[j] ≠ none := by
  obtain ⟨free, lower⟩ := find_allFin.mp h
  exact ⟨by simpa using free, fun j lt none => by simpa [none] using lower j lt⟩

theorem afterRemoval_unclaimed {s : State} {cs : List Chan} (unclaimed : ∀ c ∈ cs, s.chans[c].claim = none) (j : Slot) :
    afterRemoval s cs j = s.moves[j] := by
  have count : (cs.filter fun c => claimIs j s.chans[c].claim).length = 0 := by
    rw [List.length_eq_zero_iff, List.filter_eq_nil_iff]
    intro c mem
    rw [unclaimed c mem]
    exact Bool.false_ne_true
  unfold afterRemoval
  cases s.moves[j] with
  | none => rfl
  | some mv => simp only [count, if_true]

theorem glideLanes_fst (s : State) (c : Chan) :
    (glideLanes s c).map (·.1) = (unitChans s c).filter fun u => s.chans[u].base != s.chans[u].cueLevel := by
  unfold glideLanes
  rw [List.map_map]
  exact List.map_id _

/-- The hand-back of a unit without claims retires no move (R145, R146). -/
theorem handBackGlide_occupied {s : State} (law : ClaimLaw s) {c : Chan} (unclaimed : ∀ d ∈ unitChans s c, s.chans[d].claim = none)
    (cause : TakeoverCause) {l : Slot} (occupied : s.moves[l] ≠ none) : (handBackGlide c cause s).1.moves[l] ≠ none := by
  unfold handBackGlide
  dsimp only
  split
  · show (setOwnership c .auto s).moves[l] ≠ none
    rw [(ClaimCount.setOwnership_same c .auto s).moves]
    exact occupied
  · generalize back : queueNotice _ (setOwnership c .auto s) = t
    have moves : t.moves = s.moves := by rw [← back]; exact (ClaimCount.setOwnership_same c .auto s).moves
    have law' : ClaimLaw t := by
      rw [← back]
      exact ClaimCount.claims_core.queueNotice _ (ClaimCount.claims_core.auto s c law)
    have free : ∀ d ∈ unitChans t c, t.chans[d].claim = none := by
      rw [← back]
      intro d mem
      show (setOwnership c .auto s).chans[d].claim = none
      rw [getChan_setOwnership]
      have unit : d ∈ unitChans s c := by
        have links : (queueNotice (takeoverNotice s c .auto none cause s.chans[unitLower s c].base) (setOwnership c .auto s)).pairLinked = s.pairLinked :=
          updChans_pairLinked _ _ s
        unfold unitChans isLinked at mem ⊢
        rwa [links] at mem
      rw [if_pos unit]
      exact unclaimed d unit
    have occupied' : t.moves[l] ≠ none := by rw [moves]; exact occupied
    have made : (createRecorded (glideMove t c) t).1.moves[l] ≠ none := by
      cases slot : freeSlot t with
      | none =>
        unfold createRecorded
        rw [slot]
        exact occupied'
      | some k =>
        obtain ⟨empty, lowest⟩ := freeSlot_lowest slot
        have starts := createRecorded_level (mv := glideMove t c) (ls := glideLanes t c) rfl
          (by rw [glideLanes_fst]; exact (unitChans_nodup t c).filter _) law' empty lowest
        have other : l ≠ k := fun e => occupied' (by rw [e]; exact empty)
        rw [starts.others l other, afterRemoval_unclaimed]
        · exact occupied'
        · intro d mem
          have listed := List.mem_of_mem_filter mem
          rw [glideLanes_fst] at listed
          exact free d (List.mem_of_mem_filter listed)
    unfold askGlide
    split
    · exact occupied'
    · split
      · rename_i eq
        rw [eq] at made
        exact made
      · rename_i eq
        rw [eq] at made
        exact made

theorem releaseAll_occupied : ∀ (cs : List Chan) {s : State}, ClaimLaw s → UnitLaw s → ∀ {l : Slot}, s.moves[l] ≠ none →
    (releaseAll cs s).moves[l] ≠ none
  | [], _, _, _, _, occupied => occupied
  | c :: cs, s, claims, units, l, occupied => by
    show (releaseAll cs (if s.chans[c].ownership = .latched then (handBackGlide c .releaseAction s).1 else s)).moves[l] ≠ none
    by_cases latched : s.chans[c].ownership = .latched
    · rw [if_pos latched]
      refine releaseAll_occupied cs (ClaimCount.claims_core.handBackGlide c _ claims) (law_core.handBackGlide c _ units)
        (handBackGlide_occupied claims (fun d mem => units.held d (.inr ?_)) _ occupied)
      exact (ownership_of_shared (shared_of_unit mem units)).trans latched
    · rw [if_neg latched]
      exact releaseAll_occupied cs claims units occupied

theorem actInstant_occupied {mv : Move} {s : State} (claims : ClaimLaw s) (units : UnitLaw s) {l : Slot} (occupied : s.moves[l] ≠ none) :
    (actInstant mv s).moves[l] ≠ none := by
  have mutes (on : Bool) : ((actedOn s mv).foldl (fun s c => setOwnMute c on s) s).moves = s.moves :=
    (congrArg State.moves (setOwnMutes_become on (actedOn s mv) s).2.rest :)
  have groups (on : Bool) : (actGroup mv on s).moves = s.moves := by
    unfold actGroup
    split
    · exact (congrArg State.moves (setGroupMute_becomes _ on s).2 :)
    · rfl
  unfold actInstant
  split
  · rw [mutes]; exact occupied
  · rw [mutes]; exact occupied
  · rw [groups]; exact occupied
  · rw [groups]; exact occupied
  · rw [releaseAll_eq]; exact releaseAll_occupied _ claims units occupied
  · exact occupied
  · exact occupied

/-! ## The start of a DELAYED move (R56, R58) -/

section
variable {k : Slot} {mv : Move} {s : State}

theorem startDelayed_fading (there : s.moves[k] = some mv) (delayed : mv.phase = .delayed) (fading : ¬ mv.kind.isInstant = true) :
    startDelayed k s = startFading k mv.due s := by
  unfold startDelayed
  rw [there]
  dsimp only
  rw [delayed]
  exact if_neg fading

theorem startDelayed_instant (there : s.moves[k] = some mv) (delayed : mv.phase = .delayed) (instant : mv.kind.isInstant = true) :
    startDelayed k s = retire k .completed (actInstant mv s).clock.showTime (actInstant mv s) := by
  unfold startDelayed
  rw [there]
  dsimp only
  rw [delayed]
  exact if_pos instant

theorem startDelayed_other (other : ∀ mv, s.moves[k] = some mv → mv.phase ≠ .delayed) : startDelayed k s = s := by
  unfold startDelayed
  split
  · rfl
  · rename_i mv there
    split
    · rfl
    · rename_i delayed
      exact absurd delayed (other mv there)

/-- A DELAYED move holds no claim (R47). -/
theorem claims_of_delayed (law : ClaimLaw s) (there : s.moves[k] = some mv) (delayed : mv.phase = .delayed) : mv.claims = 0 := by
  rw [((ClaimCount.claimLaw_iff s).mp law).2 k mv there, ClaimCount.named_eq_zero]
  exact ClaimCount.unnamed_of_delayed there delayed law

/-- The slot of a move that retires at its start. -/
theorem startDelayed_retires (law : ClaimLaw s) (there : s.moves[k] = some mv) (delayed : mv.phase = .delayed)
    (fading : ¬ mv.kind.isInstant = true) (retires : RetiresAtStart s mv) : (startDelayed k s).moves[k] = none := by
  rw [startDelayed_fading there delayed fading]
  rcases retires with instant | atOnce | ⟨cs, pending, empty⟩
  · exact absurd instant fading
  · exact startFading_atOnce there mv.due atOnce
  · exact startFading_empty there mv.due (claims_of_delayed law there delayed) pending empty

/-! ## The lowest slot that a start retires (R71) -/

theorem firstRetired_instant (there : s.moves[k] = some mv) (delayed : mv.phase = .delayed) (instant : mv.kind.isInstant = true) :
    firstRetired s (.start k) = some k := by
  unfold firstRetired
  dsimp only
  rw [there]
  exact if_pos ⟨delayed, instant⟩

theorem firstRetired_fading (there : s.moves[k] = some mv) (other : ¬ (mv.phase = .delayed ∧ mv.kind.isInstant = true)) {j : Slot} :
    firstRetired s (.start k) = some j ↔
      (s.moves[j] ≠ none ∧ (startDelayed k s).moves[j] = none) ∧
        ∀ i : Slot, i < j → s.moves[i] ≠ none → (startDelayed k s).moves[i] ≠ none := by
  have search : firstRetired s (.start k) = (allFin 48).find? fun j => s.moves[j].isSome && (startDelayed k s).moves[j].isNone := by
    unfold firstRetired
    dsimp only
    rw [there]
    exact if_neg other
  rw [search, find_allFin]
  have goes (i : Slot) : (s.moves[i].isSome && (startDelayed k s).moves[i].isNone) = true ↔
      s.moves[i] ≠ none ∧ (startDelayed k s).moves[i] = none := by
    rw [Bool.and_eq_true, Option.isSome_iff_ne_none, Option.isNone_iff_eq_none]
  refine and_congr (goes j) (forall₂_congr fun i _ => ?_)
  rw [← Bool.not_eq_true, goes, not_and]

/-- A start that retires its own move retires no lower slot than some one at or below its own. -/
theorem firstRetired_le (law : ClaimLaw s) (there : s.moves[k] = some mv) (delayed : mv.phase = .delayed) (retires : RetiresAtStart s mv) :
    ∃ j, firstRetired s (.start k) = some j ∧ j ≤ k := by
  by_cases instant : mv.kind.isInstant = true
  · exact ⟨k, firstRetired_instant there delayed instant, le_rfl⟩
  · have gone := startDelayed_retires law there delayed instant retires
    have occupied : s.moves[k] ≠ none := by rw [there]; exact Option.some_ne_none mv
    obtain ⟨j, ⟨hj, freed⟩, least⟩ := WellFounded.has_min (wellFounded_lt (α := Slot))
      {j : Slot | s.moves[j] ≠ none ∧ (startDelayed k s).moves[j] = none} ⟨k, occupied, gone⟩
    refine ⟨j, (firstRetired_fading there (fun h => instant h.2)).mpr ⟨⟨hj, freed⟩, fun i lt hi freedI => least i ⟨hi, freedI⟩ lt⟩, ?_⟩
    exact not_lt.mp (least k ⟨occupied, gone⟩)

/-- A start that steals nothing and retires its own move retires that slot first. -/
theorem firstRetired_own (law : ClaimLaw s) (there : s.moves[k] = some mv) (delayed : mv.phase = .delayed) (retires : RetiresAtStart s mv)
    (alone : mv.kind.isInstant = true ∨ Machine.Unclaimed s mv.pending) : firstRetired s (.start k) = some k := by
  by_cases instant : mv.kind.isInstant = true
  · exact firstRetired_instant there delayed instant
  · have gone := startDelayed_retires law there delayed instant retires
    refine (firstRetired_fading there (fun h => instant h.2)).mpr
      ⟨⟨by rw [there]; exact Option.some_ne_none mv, gone⟩, fun i lt occupied => ?_⟩
    rw [startDelayed_fading there delayed instant]
    exact startFading_others there mv.due (alone.resolve_left instant) lt.ne occupied

end

theorem firstRetired_none {s : State} {k : Slot} (free : s.moves[k] = none) : firstRetired s (.start k) = none := by
  unfold firstRetired
  dsimp only
  rw [free]

theorem getSlot_retire (k : Slot) (reason : Reason) (r : Nat) (s : State) (l : Slot) :
    (retire k reason r s).moves[l] = if l = k then none else s.moves[l] := by
  cases occupied : s.moves[k] with
  | none =>
    rw [retire_none occupied]
    split
    · rename_i e
      rw [e, occupied]
    · rfl
  | some mv =>
    rw [(Retires.of_retire occupied reason r).moves]
    simp

/-- The lowest slot an item retires is what the model reckons, in the states that keep the laws (R71). -/
theorem firstRetired_iff {s : State} (claims : ClaimLaw s) (units : UnitLaw s) (x : DueItem) (j : Slot) :
    firstRetired s x = some j ↔ LowestRetired s x j := by
  unfold LowestRetired
  cases x with
  | follow => exact ⟨fun h => (by cases h), fun h => absurd rfl h.1⟩
  | finish k =>
    rw [firstRetired_finish]
    show _ ↔ _ ∧ _ ∧ (endTraversal k s).moves[j] = none ∧ ∀ l : Slot, l < j → s.moves[l] ≠ none → (endTraversal k s).moves[l] ≠ none
    by_cases ends : ∃ mv, s.moves[k] = some mv ∧ mv.phase ≠ .delayed ∧ (mv.cycle = false ∨ mv.remaining = 1)
    · obtain ⟨mv, there, started, last⟩ := ends
      obtain ⟨start, running⟩ : ∃ start, mv.phase = .running start := by
        cases phase : mv.phase with
        | delayed => exact absurd phase started
        | running start => exact ⟨start, rfl⟩
      have moves (l : Slot) : (endTraversal k s).moves[l] = if l = k then none else s.moves[l] := by
        rw [((endTraversal_ends there running).last last).1]
        by_cases e : l = k
        · subst e
          simp
        · have ne : ¬ k.val = l.val := fun h => e (Fin.ext h.symm)
          simp [e, ne]
      constructor
      · rintro ⟨rfl, -⟩
        refine ⟨DueItem.noConfusion, by rw [there]; exact Option.some_ne_none mv, by rw [moves, if_pos rfl], fun l lt occupied => ?_⟩
        rw [moves, if_neg lt.ne]
        exact occupied
      · rintro ⟨-, occupied, gone, -⟩
        refine ⟨?_, mv, there, started, last⟩
        by_contra e
        rw [moves, if_neg e] at gone
        exact occupied gone
    · have kept (l : Slot) (occupied : s.moves[l] ≠ none) : (endTraversal k s).moves[l] ≠ none := by
        unfold endTraversal
        split
        · exact occupied
        · rename_i mv there
          split
          · exact occupied
          · rename_i start running
            have more : ¬ (mv.cycle = false ∨ mv.remaining = 1) := fun last =>
              ends ⟨mv, there, by rw [running]; exact MovePhase.noConfusion, last⟩
            rw [if_neg more]
            unfold turnRound
            simp only [mapGroups_moves, mapChans_moves, getSlot_setSlot]
            split
            · exact Option.some_ne_none _
            · exact occupied
      exact ⟨fun h => absurd h.2 ends, fun h => absurd h.2.2.1 (kept j h.2.1)⟩
  | start k =>
    show _ ↔ _ ∧ _ ∧ (startDelayed k s).moves[j] = none ∧ ∀ l : Slot, l < j → s.moves[l] ≠ none → (startDelayed k s).moves[l] ≠ none
    cases there : s.moves[k] with
    | none =>
      rw [firstRetired_none there, startDelayed_other fun mv h => (by rw [there] at h; cases h)]
      exact ⟨fun h => (by cases h), fun h => absurd h.2.2.1 h.2.1⟩
    | some mv =>
      by_cases acts : mv.phase = .delayed ∧ mv.kind.isInstant = true
      · rw [firstRetired_instant there acts.1 acts.2, startDelayed_instant there acts.1 acts.2]
        simp only [getSlot_retire]
        have kept (l : Slot) (occupied : s.moves[l] ≠ none) : (actInstant mv s).moves[l] ≠ none :=
          actInstant_occupied claims units occupied
        constructor
        · intro same
          cases same
          refine ⟨DueItem.noConfusion, by rw [there]; exact Option.some_ne_none mv, if_pos rfl, fun l lt occupied => ?_⟩
          rw [if_neg lt.ne]
          exact kept l occupied
        · rintro ⟨-, occupied, gone, -⟩
          by_contra e
          rw [if_neg (fun same => e (congrArg some same.symm))] at gone
          exact kept j occupied gone
      · rw [firstRetired_fading there acts, and_assoc]
        exact (and_iff_right DueItem.noConfusion).symm

/-! ## What the start of a DELAYED move leaves (R56, R58) -/

/-- The ramps' response reads channel records, group mutes and the stop. -/
theorem rampAfter_of_same {s t w : State} {d : Chan} (chans : w.chans = t.chans) (groups : w.groups = t.groups) (stop : w.stop = t.stop) :
    rampAfter s w d = rampAfter s t d :=
  SameRamp.after ⟨by rw [chans], by rw [chans], by rw [chans], by rw [chans], fun g => by rw [groups], stop⟩ s

theorem retire_rest (k : Slot) (reason : Reason) (r : Nat) (s : State) : { retire k reason r s with moves := s.moves, play := s.play, link := s.link } = s := by
  cases occupied : s.moves[k] with
  | none => rw [retire_none occupied]
  | some mv => rw [retire_some occupied]; rfl

theorem set_none_eq {s : State} {k : Slot} {mv : Move} (there : s.moves[k] = some mv) (reason : Reason) (r : Nat) :
    (retire k reason r s).moves = s.moves.set k none := by
  rw [retire_some there]
  rfl

section
variable {k : Slot} {mv : Move} {s : State}

/-- An act that changed nothing but records of channels and groups, and the retirement after it. -/
theorem retire_after {t : State} (there : s.moves[k] = some mv) (rest : { t with chans := s.chans, groups := s.groups } = s) :
    (retire k .completed t.clock.showTime t).moves = s.moves.set k none ∧
      Reports [⟨k, mv, .completed, s.clock.showTime⟩] s (retire k .completed t.clock.showTime t) := by
  have moves : t.moves = s.moves := (congrArg State.moves rest :)
  have clock : t.clock = s.clock := (congrArg State.clock rest :)
  have still : t.moves[k] = some mv := by rw [moves]; exact there
  refine ⟨by rw [set_none_eq still, moves], ?_⟩
  rw [clock]
  exact (Retires.of_same (.of_retire still .completed s.clock.showTime) (congrArg State.play rest :) (congrArg State.link rest :)
    moves clock).toReports

theorem startsDelayed_mutes {cs : List Chan} {on : Bool} (there : s.moves[k] = some mv) (delayed : mv.phase = .delayed)
    (kind : mv.kind = if on then .mute else .unmute) (pending : mv.pending = .chans cs) :
    (startDelayed k s).moves = s.moves.set k none ∧ (startDelayed k s).groups = s.groups ∧
      OwnMutesBecome (heededBy s mv.origin cs) on s (startDelayed k s) ∧
      Reports [⟨k, mv, .completed, s.clock.showTime⟩] s (startDelayed k s) := by
  have instant : mv.kind.isInstant = true := by cases on <;> (rw [kind]; rfl)
  have acted : actedOn s mv = heededBy s mv.origin cs := by unfold actedOn heededBy; rw [pending]; rfl
  rw [startDelayed_instant there delayed instant, actInstant_mutes kind, acted]
  obtain ⟨become, only⟩ := setOwnMutes_become on (heededBy s mv.origin cs) s
  generalize (heededBy s mv.origin cs).foldl (fun s c => setOwnMute c on s) s = t at become only ⊢
  obtain ⟨chans, groups⟩ := retire_records k .completed t.clock.showTime t
  obtain ⟨moves, reports⟩ := retire_after (t := t) there (congrArg (fun u : State => { u with groups := s.groups }) only.rest :)
  refine ⟨moves, groups.trans only.groups, fun d => ?_, reports⟩
  rw [chans, become d, rampAfter_of_same chans groups (congrArg State.stop (retire_rest ..) :)]

theorem startsDelayed_groupMutes {g : Grp} {on : Bool} (there : s.moves[k] = some mv) (delayed : mv.phase = .delayed)
    (kind : mv.kind = if on then .groupMute else .groupUnmute) (pending : mv.pending = .group g) :
    (startDelayed k s).moves = s.moves.set k none ∧ GroupMuteBecomes g on s (startDelayed k s) ∧
      Reports [⟨k, mv, .completed, s.clock.showTime⟩] s (startDelayed k s) := by
  have instant : mv.kind.isInstant = true := by cases on <;> (rw [kind]; rfl)
  rw [startDelayed_instant there delayed instant, actInstant_groupMutes kind, actGroup_group pending]
  obtain ⟨⟨become, ramps⟩, rest⟩ := setGroupMute_becomes g on s
  generalize setGroupMute g on s = t at become ramps rest ⊢
  obtain ⟨chans, groups⟩ := retire_records k .completed t.clock.showTime t
  obtain ⟨moves, reports⟩ := retire_after (t := t) there rest
  refine ⟨moves, ⟨groups.trans become, fun d => ?_⟩, reports⟩
  rw [chans, ramps d, rampAfter_of_same chans groups (congrArg State.stop (retire_rest ..) :)]

theorem startsDelayed_release {cs : List Chan} (there : s.moves[k] = some mv) (delayed : mv.phase = .delayed) (claims : ClaimLaw s)
    (units : UnitLaw s) (kind : mv.kind = .release) (pending : mv.pending = .chans cs) :
    let u := releaseAll (heededBy s mv.origin cs) s
    let w := startDelayed k s
    w.moves = u.moves.set k none ∧ w.chans = u.chans ∧ w.groups = u.groups ∧
      Reports [⟨k, mv, .completed, s.clock.showTime⟩] u w ∧
      ∀ d : Chan, w.chans[d].ownership =
        if s.chans[d].ownership = .latched ∧ ∃ c ∈ heededBy s mv.origin cs, d ∈ unitChans s c then .auto
        else s.chans[d].ownership := by
  intro u w
  have instant : mv.kind.isInstant = true := by rw [kind]; rfl
  have acted : actedOn s mv = heededBy s mv.origin cs := by unfold actedOn heededBy; rw [pending]; rfl
  have act : actInstant mv s = u := by rw [actInstant_release kind, acted]
  have apart := ClaimCount.apart_actInstant (s := s) mv ⟨there, ClaimCount.unnamed_of_delayed there delayed claims⟩
  have clock : u.clock = s.clock := by rw [← act]; exact (actInstant_show mv s).clock
  rw [act] at apart
  have done : w = retire k .completed s.clock.showTime u := by
    rw [← clock]
    exact (startDelayed_instant there delayed instant).trans (by rw [act])
  obtain ⟨chans, groups⟩ := retire_records k .completed s.clock.showTime u
  rw [done]
  refine ⟨set_none_eq apart.occupied _ _, chans, groups, (Retires.of_retire apart.occupied .completed s.clock.showTime).toReports, fun d => ?_⟩
  rw [chans]
  exact releaseAll_owners _ units d

theorem startDelayed_starts (there : s.moves[k] = some mv) (delayed : mv.phase = .delayed) :
    StartsDelayed k mv s (startDelayed k s) := by
  have frame := startDelayed_show k s
  have fresh (law : ClaimLaw s) : Fresh mv mv := by
    refine ⟨mv.phase, mv.due, mv.remaining, ?_⟩
    rw [← claims_of_delayed law there delayed]
  have unnamed (law : ClaimLaw s) : Unnamed k s := .of_slotAt (ClaimCount.unnamed_of_delayed there delayed law)
  refine ⟨fun cs law kind pending nodup => ?_, fun g law kind pending => ?_, fun cs on kind pending _ => ?_,
    fun g on kind pending => ?_, fun cs claims units kind pending => ?_⟩
  · rw [startDelayed_fading there delayed (by rw [kind]; exact Bool.false_ne_true)]
    have lanes : (lanesOf mv.pending).map (·.1) = cs := by rw [pending, lanesOf_chans]
    have starts := startFading_level (start := mv.due) (goal := goalFrom mv s) (fresh law) (seated_self there) law (unnamed law)
      (by rw [pending]; rfl) (by rw [lanes]; exact nodup)
      (fun l mem => by
        rw [pending] at mem
        obtain ⟨c, -, rfl⟩ := List.mem_map.mp mem
        rfl)
      (.refl s)
    rw [lanes] at starts
    exact starts
  · rw [startDelayed_fading there delayed (by rw [kind]; exact Bool.false_ne_true)]
    exact startFading_group (recorded := none) (fresh law) (seated_self there) (unnamed law) pending rfl (.refl s)
  · obtain ⟨moves, groups, become, reports⟩ := startsDelayed_mutes there delayed kind pending
    exact ⟨moves, groups, become, reports, frame⟩
  · obtain ⟨moves, become, reports⟩ := startsDelayed_groupMutes there delayed kind pending
    exact ⟨moves, become, reports, frame⟩
  · obtain ⟨moves, chans, groups, reports, owners⟩ := startsDelayed_release there delayed claims units kind pending
    exact ⟨moves, chans, groups, reports, owners, frame⟩

end

/-! ## START_EVENT -/

theorem isDue_delayed {mv : Move} (delayed : mv.phase = .delayed) (s : State) :
    (isDue mv s = true ↔ match mv.timeBase with
      | .showTime => mv.due ≤ s.clock.showTime
      | .wallTime => mv.delay ≤ wallSince s.clock.wallTime (wallSince mv.due mv.delay)) ∧
    lateness mv s = match mv.timeBase with
      | .showTime => s.clock.showTime - mv.due
      | .wallTime => wallSince s.clock.wallTime (wallSince mv.due mv.delay) - mv.delay := by
  unfold isDue lateness
  rw [delayed]
  cases mv.timeBase <;> exact ⟨decide_eq_true_iff, rfl⟩

/-- Two delayed moves of one base, due time and delay are due together. -/
theorem alike_delayed {a b : Move} (delayedA : a.phase = .delayed) (delayedB : b.phase = .delayed) (base : a.timeBase = b.timeBase)
    (due : a.due = b.due) (delay : a.delay = b.delay) (s : State) : isDue a s = isDue b s ∧ lateness a s = lateness b s := by
  unfold isDue lateness
  rw [delayedA, delayedB, base, due, delay]
  exact ⟨rfl, rfl⟩

theorem earlierOfFiring_iff {s : State} {j k : Slot} : earlierOfFiring s j k = true ↔
    ∃ (a b : Move) (firing n m : Nat), s.moves[j] = some a ∧ s.moves[k] = some b ∧
      a.origin = .cue firing n ∧ b.origin = .cue firing m ∧ a.seq < b.seq := by
  constructor
  · intro h
    unfold earlierOfFiring at h
    split at h
    · rename_i a b hj hk
      split at h
      · rename_i f n g m ha hb
        rw [Bool.and_eq_true, beq_iff_eq, decide_eq_true_iff] at h
        obtain ⟨rfl, earlier⟩ := h
        exact ⟨a, b, f, n, m, hj, hk, ha, hb, earlier⟩
      · cases h
    · cases h
  · rintro ⟨a, b, f, n, m, hj, hk, ha, hb, earlier⟩
    unfold earlierOfFiring
    rw [hj, hk]
    dsimp only
    rw [ha, hb]
    simp [earlier]

theorem startsBefore_iff (s : State) (x y : DueItem) : startsBefore s x y = true ↔
    ∃ (j k : Slot) (a b : Move) (firing n m : Nat), x = .start j ∧ y = .start k ∧ s.moves[j] = some a ∧
      s.moves[k] = some b ∧ a.origin = .cue firing n ∧ b.origin = .cue firing m ∧ a.seq < b.seq := by
  constructor
  · intro h
    unfold startsBefore at h
    split at h
    · rename_i j k
      obtain ⟨a, b, f, n, m, rest⟩ := earlierOfFiring_iff.mp h
      exact ⟨j, k, a, b, f, n, m, rfl, rfl, rest⟩
    · cases h
  · rintro ⟨j, k, a, b, f, n, m, rfl, rfl, rest⟩
    exact earlierOfFiring_iff.mpr ⟨a, b, f, n, m, rest⟩

theorem retiresBefore_iff {s : State} (claims : ClaimLaw s) (units : UnitLaw s) (x y : DueItem) : retiresBefore s x y = true ↔
    ∃ j k : Slot, LowestRetired s x j ∧ LowestRetired s y k ∧ j < k ∧ startsBefore s y x = false := by
  simp only [← firstRetired_iff claims units]
  unfold retiresBefore
  constructor
  · intro h
    split at h
    · rename_i j k hj hk
      rw [Bool.and_eq_true, decide_eq_true_iff, Bool.not_eq_true'] at h
      exact ⟨j, k, hj, hk, h⟩
    · cases h
  · rintro ⟨j, k, hj, hk, lower, free⟩
    rw [hj, hk]
    simp [lower, free]

/-- Of two due starts alone at an instant, the one that retires higher slots waits (R71). -/
theorem start_waits {s : State} {j k i : Slot} {a b : Move} (hj : s.moves[j] = some a) (hk : s.moves[k] = some b)
    (delayedA : a.phase = .delayed) (delayedB : b.phase = .delayed) (first : firstRetired s (.start j) = some i)
    (second : firstRetired s (.start k) = some k) (lower : i < k) (base : a.timeBase = b.timeBase) (due : isDue a s = true)
    (late : lateness a s = lateness b s) (created : earlierOfFiring s k j = false)
    (alone : ∀ (l : Slot) (mv : Move), l ≠ j → l ≠ k → s.moves[l] = some mv → mv.timeBase = b.timeBase → isDue mv s = false) :
    exec (.startEvent k) s = .next (choose s) := by
  refine congrArg (fun u => Host.Outcome.next (choose u)) (takeStart_idle fun mv there => .inr (.inr ?_))
  cases hk.symm.trans there
  have together (d : Nat) (mem : (d, DueItem.start k) ∈ dueMoves b.timeBase s) : (d, DueItem.start j) ∈ dueMoves b.timeBase s := by
    rw [← itemOf_delayed delayedB] at mem
    rw [← itemOf_delayed delayedA]
    exact due_together hj hk base due late d mem
  refine mayTake_later (fun d mem => ⟨.start j, together d mem, ?_⟩) fun d mem => ⟨.start j, together d mem, fun y hy => ?_⟩
  · have retires : retiresBefore s (.start j) (.start k) = true := by
      unfold retiresBefore
      rw [first, second]
      simp [lower, startsBefore, created]
    unfold comesBefore
    rw [retires, Bool.or_true]
  · obtain ⟨l, other, occupied, same, isDue, pair⟩ := mem_dueMoves.mp hy
    obtain ⟨-, rfl⟩ := Prod.mk.inj pair
    by_cases eJ : l = j
    · subst eJ
      cases hj.symm.trans occupied
      rw [itemOf_delayed delayedA]
      exact comesBefore_self s _
    · by_cases eK : l = k
      · subst eK
        cases hk.symm.trans occupied
        rw [itemOf_delayed delayedB]
        unfold comesBefore retiresBefore
        rw [first, second]
        simp [startsBefore, created, not_lt.mpr lower.le]
      · rw [alone l other eJ eK occupied same] at isDue
        cases isDue

/-- Settles O24: the order of starts at one instant, and each kind's start. -/
theorem startEvent : Obligations.StartEvent := by
  refine ⟨fun s k idle => congrArg (fun u => Host.Outcome.next (choose u)) (takeStart_idle idle),
    fun s k mv there delayed due sole => itemOf_delayed delayed k ▸ mayTake_sole there due sole, ?_, ?_, ?_,
    fun s x y claims units => retiresBefore_iff claims units x y, startsBefore_iff, fun s mv delayed => isDue_delayed delayed s,
    fun s k mv there delayed due turn => ?_, fun s k mv there delayed => startDelayed_starts there delayed⟩
  · intro s j k a b firing n m hj hk delayedA delayedB originA originB base due delay created
    refine congrArg (fun u => Host.Outcome.next (choose u)) (takeStart_idle fun mv there => ?_)
    cases hk.symm.trans there
    obtain ⟨sameDue, late⟩ := alike_delayed delayedA delayedB base due delay s
    by_cases isDueB : isDue b s = true
    · refine .inr (.inr (mayTake_preceded (y := .start j)
        ((startsBefore_iff s _ _).mpr ⟨j, k, a, b, firing, n, m, rfl, rfl, hj, hk, originA, originB, created⟩) fun d mem => ?_))
      rw [← itemOf_delayed delayedB] at mem
      rw [← itemOf_delayed delayedA]
      exact due_together hj hk base (sameDue.trans isDueB) late d mem
    · exact .inr (.inl (Bool.eq_false_iff.mpr isDueB))
  · intro s j k a b lower hj hk delayedA delayedB instantA instantB base due late created alone
    exact start_waits hj hk delayedA delayedB (firstRetired_instant hj delayedA instantA) (firstRetired_instant hk delayedB instantB)
      lower base due late created alone
  · intro s j k a b law lower hj hk delayedA delayedB retiresA retiresB clear base due late created alone
    obtain ⟨i, first, le⟩ := firstRetired_le law hj delayedA retiresA
    exact start_waits hj hk delayedA delayedB first (firstRetired_own law hk delayedB retiresB clear) (lt_of_le_of_lt le lower)
      base due late created alone
  · refine congrArg (fun u => Host.Outcome.next (choose u)) ?_
    unfold takeStart
    rw [there]
    exact if_pos ⟨delayed, due, turn⟩

end Sys2Proof.DueOrder
end

section
/-! The advance of show time (R81, R85), and the requests and events that advance it: O28, O29, O30. -/

namespace Sys2Proof.Advance

open Sys2Proof Sys2Proof.Machine Sys2Proof.Codec Sys2Proof.DueOrder

/-! ## The link at the end of an instant (R71) -/

theorem openInstant_eq (k : Link) : k.openInstant = { k with instant := some (k.instant.getD []) } := rfl

/-- Notices of a link without an instant in hand enter its queue at once. -/
theorem queueAll_of_none (ns : List Notice) {k : Link} (none : k.instant = none) : queueAll ns k = ns.foldl (fun k n => k.post n) k := by
  unfold queueAll
  induction ns generalizing k with
  | nil => rfl
  | cons n ns ih =>
    rw [List.foldl_cons, List.foldl_cons, Link.queue_of_none n none]
    exact ih ((Link.postAll_waiting [n] k).trans none)

theorem closeInstant_eq (inHand : Bool) (k : Link) : k.closeInstant inHand = closed inHand k := by
  unfold Link.closeInstant closed
  cases k.instant with
  | some ns =>
    exact (congrArg (fun k : Link => { k with instant := if inHand then some [] else none })
      ((queueAll_of_none ns (k := { k with instant := none }) rfl).trans (Link.postAll_instant ns k none))).symm
  | none => rfl

/-! ## Due items (R81) -/

theorem mem_dueItems {s : State} {i : DueItem} {d : Nat} : (d, i) ∈ dueItems s ↔ DueAt s i d := by
  unfold dueItems
  rw [List.mem_append, List.mem_flatMap]
  have slots (k : Slot) : (d, i) ∈ slotItem s k ↔ ∃ mv, s.moves[k] = some mv ∧ mv.timeBase = .showTime ∧ d = mv.due ∧ i = itemOf k mv := by
    unfold slotItem itemOf
    cases s.moves[k] with
    | none => simp
    | some mv =>
      cases base : mv.timeBase <;> cases phase : mv.phase <;> simp [base, phase]
  have follows : (d, i) ∈ followItem s ↔ i = .follow ∧ s.play.follow = some d := by
    unfold followItem
    cases s.play.follow with
    | none => simp
    | some due => simp [and_comm, eq_comm]
  rw [follows]
  simp only [slots]
  unfold DueAt
  cases i with
  | follow =>
    have none (k : Slot) (mv : Move) : DueItem.follow ≠ itemOf k mv := by unfold itemOf; split <;> exact DueItem.noConfusion
    simp [none]
  | start k =>
    have item (j : Slot) (mv : Move) : DueItem.start k = itemOf j mv ↔ k = j ∧ mv.phase = .delayed := by
      unfold itemOf
      cases mv.phase <;> simp
    constructor
    · rintro (⟨h, -⟩ | ⟨j, -, mv, there, base, rfl, h⟩)
      · cases h
      · obtain ⟨rfl, delayed⟩ := (item j mv).mp h
        exact ⟨mv, there, base, delayed, rfl⟩
    · rintro ⟨mv, there, base, delayed, rfl⟩
      exact .inr ⟨k, List.mem_finRange k, mv, there, base, rfl, (item k mv).mpr ⟨rfl, delayed⟩⟩
  | finish k =>
    have item (j : Slot) (mv : Move) : DueItem.finish k = itemOf j mv ↔ k = j ∧ ∃ start, mv.phase = .running start := by
      unfold itemOf
      cases mv.phase <;> simp
    constructor
    · rintro (⟨h, -⟩ | ⟨j, -, mv, there, base, rfl, h⟩)
      · cases h
      · obtain ⟨rfl, start, running⟩ := (item j mv).mp h
        exact ⟨mv, start, there, base, running, rfl⟩
    · rintro ⟨mv, start, there, base, running, rfl⟩
      exact .inr ⟨k, List.mem_finRange k, mv, there, base, rfl, (item k mv).mpr ⟨rfl, start, running⟩⟩

theorem mem_itemsWithin {t0 t1 : Nat} {s : State} {i : DueItem} {d : Nat} :
    (d, i) ∈ itemsWithin t0 t1 s ↔ DueAt s i d ∧ t0 < d ∧ d ≤ t1 := by
  unfold itemsWithin
  rw [List.mem_filter, mem_dueItems, Bool.and_eq_true, decide_eq_true_iff, decide_eq_true_iff]

theorem earliest_le : ∀ {l : List (Nat × DueItem)} {d : Nat}, earliest l = some d → ∀ x ∈ l, d ≤ x.1
  | [], _, h, _, _ => by cases h
  | y :: l, d, h, x, mem => by
    unfold earliest at h
    cases rest : earliest l with
    | none =>
      rw [rest] at h
      cases h
      rcases List.mem_cons.mp mem with rfl | later
      · exact le_rfl
      · obtain ⟨e, some⟩ := earliest_isSome later
        rw [rest] at some
        cases some
    | some e =>
      rw [rest] at h
      cases h
      rcases List.mem_cons.mp mem with rfl | later
      · exact min_le_left _ _
      · exact (min_le_right _ _).trans (earliest_le rest x later)

/-- When the move of an item's start was created. -/
def createdAs (s : State) : DueItem → Nat
  | .start k => (s.moves[k].map Move.seq).getD 0
  | .finish _ => 0
  | .follow => 0

theorem createdAs_lt {s : State} {y z : DueItem} (h : startsBefore s y z = true) : createdAs s y < createdAs s z := by
  obtain ⟨j, k, a, b, f, n, m, rfl, rfl, hj, hk, -, -, earlier⟩ := (startsBefore_iff s y z).mp h
  unfold createdAs
  dsimp only
  rw [hj, hk]
  exact earlier

/-- Where an item is due, one may be taken: R61 orders the starts of a firing by their creation. -/
theorem candidates_ne_nil {s : State} {d : Nat} {items : List (Nat × DueItem)} {x : DueItem} (mem : (d, x) ∈ items) :
    candidates s d items ≠ [] := by
  obtain ⟨y, hy, least⟩ := (measure (createdAs s)).wf.has_min {y | (d, y) ∈ items} ⟨x, mem⟩
  have first : y ∈ unpreceded (startsBefore s) (dueAt d items) := (Machine.mem_unpreceded _ _ _).mpr
    ⟨mem_dueAt.mpr hy, fun z hz => Bool.eq_false_iff.mpr fun h => least z (mem_dueAt.mp hz) (createdAs_lt h)⟩
  rw [candidates_eq]
  split
  · exact List.ne_nil_of_mem first
  · assumption

theorem pickItem_isSome {s : State} {l : List DueItem} (filled : l ≠ []) : ∃ i t, pickItem s l = some (i, t) := by
  unfold pickItem
  split
  · exact absurd rfl filled
  · exact ⟨_, _, rfl⟩
  · exact ⟨_, _, rfl⟩

/-! ## Items taken one after another (R81) -/

/-- One item of an advance. -/
theorem takesNext {t0 t1 d : Nat} {s t : State} {i : DueItem} (first : earliest (itemsWithin t0 t1 s) = some d)
    (picked : pickItem s (candidates s d (itemsWithin t0 t1 s)) = some (i, t)) :
    TakesNext t0 t1 s (settleItem i (reachInstant d t) (takeItem i (reachInstant d t))) := by
  have candidate := pickItem_mem _ _ _ _ picked
  obtain ⟨listed, before⟩ := mem_candidates _ _ _ _ candidate
  obtain ⟨due, after, upTo⟩ := mem_itemsWithin.mp listed
  have within {j : DueItem} (h : DueAt s j d) : (d, j) ∈ itemsWithin t0 t1 s := mem_itemsWithin.mpr ⟨h, after, upTo⟩
  refine ⟨i, d, t.freeCount, due, after, upTo, fun j e hj he => ?_, fun j hj => before j (within hj), ?_, ?_, ?_⟩
  · by_cases inside : e ≤ t1
    · exact earliest_le first _ (mem_itemsWithin.mpr ⟨hj, he, inside⟩)
    · omega
  · rw [candidates_eq] at candidate
    split at candidate
    · rename_i none
      refine .inr fun x hx => ?_
      by_contra no
      have free : x ∈ unpreceded (comesBefore s) (dueAt d (itemsWithin t0 t1 s)) := (Machine.mem_unpreceded _ _ _).mpr
        ⟨mem_dueAt.mpr (within hx), fun y hy => Bool.eq_false_iff.mpr fun h =>
          no ⟨y, (mem_itemsWithin.mp (mem_dueAt.mp hy)).1, h⟩⟩
      rw [none] at free
      cases free
    · obtain ⟨-, free⟩ := (Machine.mem_unpreceded _ _ _).mp candidate
      exact .inl fun j hj => (Bool.or_eq_false_iff.mp (free j (mem_dueAt.mpr (within hj)))).2
  · rcases pickItem_state _ _ _ _ picked with rfl | rfl
    · exact .inl rfl
    · exact .inr rfl
  · have now : reachInstant d t = { s with
        freeCount := t.freeCount, clock := { s.clock with showTime := max s.clock.showTime d }
        link := if s.clock.showTime < d then closed true s.link else s.link } := by
      rw [← closeInstant_eq]
      rcases pickItem_state _ _ _ _ picked with rfl | rfl <;> rfl
    rw [now]

theorem takeItems_takes (t0 t1 : Nat) : ∀ (n : Nat) (s : State), ∃ m, TakesItems t0 t1 m s (takeItems n t0 t1 s) ∧
    (m = n ∨ ∀ i d, DueAt (takeItems n t0 t1 s) i d → t0 < d → t1 < d)
  | 0, s => ⟨0, .none s, .inl rfl⟩
  | n + 1, s => by
    unfold takeItems
    split
    · rename_i none
      refine ⟨0, .none s, .inr fun i d due after => ?_⟩
      by_contra inside
      obtain ⟨e, some⟩ := earliest_isSome (mem_itemsWithin.mpr ⟨due, after, not_lt.mp inside⟩)
      rw [none] at some
      cases some
    · rename_i d first
      obtain ⟨⟨e, x⟩, mem, rfl⟩ := Closure.earliest_mem first
      obtain ⟨i, t, picked⟩ := pickItem_isSome (s := s) (candidates_ne_nil mem)
      rw [picked]
      dsimp only
      obtain ⟨m, takes, rest⟩ := takeItems_takes t0 t1 n (settleItem i (reachInstant e t) (takeItem i (reachInstant e t)))
      exact ⟨m + 1, .next m s _ _ (takesNext first picked) takes, rest.imp_left (congrArg (· + 1))⟩

/-! ## The clock through items and follows: only a GO out of STOPPED touches it (R88) -/

theorem startForGo_going {s : State} (going : s.clock.state ≠ .stopped) : startForGo s = s := if_neg going

theorem fireCue_clock {s : State} (c : Cue) (due : Option Nat) : (fireCue c due s).1.clock = (startForGo s).clock := by
  unfold fireCue
  dsimp only
  rw [(fireNotices_show _ _ _ _).clock]
  refine (fireActions_show _ _ _ _).clock.trans ?_
  show State.clock (if _ then _ else _) = _
  split <;> rfl

theorem expireFollow_clock {s : State} (going : s.clock.state ≠ .stopped) : (expireFollow s).clock = s.clock := by
  unfold expireFollow
  split
  · rfl
  · dsimp only
    split
    · rw [fireCue_clock, startForGo_going (s := updPlay _ s) going]
      rfl
    · rfl

theorem settleFollows_clock : ∀ (n : Nat) {s : State}, s.clock.state ≠ .stopped → (settleFollows n s).clock = s.clock
  | 0, _, _ => rfl
  | n + 1, s, going => by
    have same := expireFollow_clock going
    unfold settleFollows
    split
    · split
      · rw [settleFollows_clock n (by rw [same]; exact going), same]
      · rfl
    · rfl

theorem settle_clock {s : State} (going : s.clock.state ≠ .stopped) : (settle s).clock = s.clock := settleFollows_clock _ going

theorem takeItem_clock {s : State} (i : DueItem) (going : s.clock.state ≠ .stopped) : (takeItem i s).clock = s.clock := by
  cases i with
  | start k => exact (startDelayed_show k s).clock
  | finish k => exact (endTraversal_show k s).clock
  | follow => exact expireFollow_clock going

theorem settleItem_clock {b a : State} (i : DueItem) (going : a.clock.state ≠ .stopped) : (settleItem i b a).clock = a.clock := by
  rcases settleItem_cases i b a with same | same <;> rw [same]
  exact settle_clock going

/-- A clock in which only show time moved on, up to a bound. -/
structure Moves (t1 : Nat) (k k' : Clock) : Prop where
  rest : { k' with showTime := k.showTime } = k
  bound : k'.showTime ≤ max k.showTime t1

theorem takeItems_clock (t0 t1 : Nat) : ∀ (n : Nat) {s : State}, s.clock.state ≠ .stopped → Moves t1 s.clock (takeItems n t0 t1 s).clock
  | 0, s, _ => ⟨rfl, le_max_left _ _⟩
  | n + 1, s, going => by
    unfold takeItems
    split
    · exact ⟨rfl, le_max_left _ _⟩
    · rename_i d first
      obtain ⟨-, upTo⟩ := Closure.earliest_within first
      split
      · exact ⟨rfl, le_max_left _ _⟩
      · rename_i i t picked
        dsimp only
        have same : (reachInstant d t).clock = { s.clock with showTime := max s.clock.showTime d } := by
          rcases pickItem_state _ _ _ _ picked with rfl | rfl <;> rfl
        have still : (reachInstant d t).clock.state ≠ .stopped := by rw [same]; exact going
        have taken := takeItem_clock i still
        have settled := settleItem_clock (b := reachInstant d t) i (a := takeItem i (reachInstant d t)) (by rw [taken]; exact still)
        obtain ⟨rest, bound⟩ := takeItems_clock t0 t1 n
          (s := settleItem i (reachInstant d t) (takeItem i (reachInstant d t))) (by rw [settled, taken]; exact still)
        rw [settled, taken, same] at rest bound
        dsimp only at bound
        exact ⟨(congrArg (fun k : Clock => { k with showTime := s.clock.showTime }) rest :), by omega⟩

/-- An advance of a clock that runs or steps (R81, R85). -/
theorem advance_advances {n : Nat} {s : State} (going : s.clock.state = .running ∨ s.clock.state = .stepping)
    (bound : s.clock.showTime ≤ 4294967295) : Advances n s (advance n s) := by
  have notStopped : (opened s).clock.state ≠ .stopped := by
    show s.clock.state ≠ .stopped
    rcases going with h | h <;> (rw [h]; exact ClockState.noConfusion)
  obtain ⟨m, takes, all⟩ := takeItems_takes s.clock.showTime (min (s.clock.showTime + n) 4294967295) Config.chainFuel (opened s)
  obtain ⟨rest, upTo⟩ := takeItems_clock s.clock.showTime (min (s.clock.showTime + n) 4294967295) Config.chainFuel notStopped
  have made : advance n s = saturate (updClock (fun k => { k with showTime := max k.showTime (min (s.clock.showTime + n) 4294967295) })
      { takeItems Config.chainFuel s.clock.showTime (min (s.clock.showTime + n) 4294967295) (opened s) with
        link := closed s.link.instant.isSome
          (takeItems Config.chainFuel s.clock.showTime (min (s.clock.showTime + n) 4294967295) (opened s)).link }) := by
    rw [← closeInstant_eq]
    rfl
  generalize takeItems Config.chainFuel s.clock.showTime (min (s.clock.showTime + n) 4294967295) (opened s) = v at takes all rest upTo made
  change v.clock.showTime ≤ max s.clock.showTime _ at upTo
  have reached : max v.clock.showTime (min (s.clock.showTime + n) 4294967295) = min (s.clock.showTime + n) 4294967295 := by omega
  have clock : { v.clock with showTime := max v.clock.showTime (min (s.clock.showTime + n) 4294967295) } =
      { s.clock with showTime := min (s.clock.showTime + n) 4294967295 } := by
    rw [reached]
    exact (congrArg (fun k : Clock => { k with showTime := min (s.clock.showTime + n) 4294967295 }) rest :)
  have moved : advance n s = saturate { v with
      clock := { s.clock with showTime := min (s.clock.showTime + n) 4294967295 }, link := closed s.link.instant.isSome v.link } :=
    made.trans (congrArg (fun k => saturate { v with clock := k, link := closed s.link.instant.isSome v.link }) clock)
  by_cases last : 4294967295 ≤ s.clock.showTime + n
  · have full : min (s.clock.showTime + n) 4294967295 = 4294967295 := by omega
    rw [full] at moved
    have held : advance n s = holdClock .saturated { v with
        clock := { s.clock with showTime := 4294967295 }, link := closed s.link.instant.isSome v.link } :=
      moved.trans (if_pos ⟨rfl, going⟩)
    rw [held]
    exact ⟨⟨m, v, takes, all, rfl, (if_pos last).symm⟩, (if_pos last).symm⟩
  · have below : min (s.clock.showTime + n) 4294967295 = s.clock.showTime + n := by omega
    have notLast : ¬ s.clock.showTime + n = Config.showMax := fun e => last (by rw [e]; exact le_rfl)
    have goes := moved.trans (if_neg (fun h => by rw [below] at h; exact notLast h.1))
    rw [goes]
    refine ⟨⟨m, v, takes, all, rfl, (if_neg last).symm⟩, ?_⟩
    rw [if_neg last, below]

theorem showTime_of_advances {n : Nat} {s w : State} (h : Advances n s w) : w.clock.showTime = min (s.clock.showTime + n) 4294967295 := by
  rw [h.clock]
  split
  · show 4294967295 = _
    omega
  · show s.clock.showTime + n = _
    omega

/-! ## CLOCK STEP -/

/-- The clock of an advance in STEPPING. -/
theorem enterStepping_eq (s : State) : enterStepping s = if s.clock.state = .stepping then s
    else { s with
      clock := { s.clock with state := .stepping }
      link := s.link.queue (.clock .request .stepping s.clock.source s.clock.showTime) } := rfl

theorem enterStepping_surface (s : State) : KeepsSurface s (enterStepping s) :=
  .ite (.refl s) ((updClock_surface _ (by intro _; exact ⟨rfl, rfl, rfl, rfl⟩) s).trans (clockNotice_show _ _).toSurface)

/-- Settles O28: the refusals, and one advance from STEPPING. -/
theorem clockStep : Obligations.ClockStep := by
  intro tag s n idle fits p len t1 clamped
  have served : serve ⟨0x2C, tag, p⟩ (received s) =
      if s.stop.active then refuse .locked (received s)
      else if s.clock.state = .stopped ∨ s.clock.state = .running then refuse .state (received s)
      else accept (flag clamped ++ u8 (stepClock len (received s)).clock.state.code
        ++ u16 ((stepClock len (received s)).clock.showTime - s.clock.showTime) ++ u32 (stepClock len (received s)).clock.showTime)
        (stepClock len (received s)) := by
    show reqClockStep [BitVec.ofNat 8 n, BitVec.ofNat 8 (n / 256)] (received s) = _
    unfold reqClockStep
    simp only [le16_ofNat fits]
    rfl
  refine ⟨fun active => ?_, fun clear state => ?_, fun clear state last => ?_, fun clear state below => ?_⟩
  · exact exec_idle rfl idle (by simp [p, u16]) (served.trans (if_pos active))
  · exact exec_idle rfl idle (by simp [p, u16])
      (served.trans ((if_neg (by rw [clear]; exact Bool.false_ne_true)).trans (if_pos state)))
  all_goals
    have goes : ¬ (s.clock.state = .stopped ∨ s.clock.state = .running) := by
      rcases state with h | h <;> simp [h]
    have served := served.trans ((if_neg (by rw [clear]; exact Bool.false_ne_true)).trans (if_neg goes))
  · have still : stepClock len (received s) = received s := if_pos (show 4294967295 ≤ s.clock.showTime by omega)
    rw [still] at served
    refine exec_idle rfl idle (by simp [p, u16]) (served.trans ?_)
    show (received s, _) = (received s, _)
    rw [show (received s).clock.showTime = 4294967295 from last, last]
    rfl
  · have steps : stepClock len (received s) = advance len (enterStepping (received s)) :=
      if_neg (show ¬ 4294967295 ≤ s.clock.showTime by omega)
    have entered : (enterStepping (received s)).clock = { s.clock with state := .stepping } := by
      rw [enterStepping_eq]
      split
      · rename_i already
        exact congrArg (fun st => { s.clock with state := st }) already
      · rfl
    have advances := advance_advances (n := len) (s := enterStepping (received s)) (.inr (by rw [entered])) (by rw [entered]; exact below.le)
    have time := showTime_of_advances advances
    have clock := advances.clock
    rw [entered] at time clock
    rw [steps] at served
    refine ⟨advance len (enterStepping (received s)), ?_, time, ?_, ?_, (enterStepping_surface _).trans (advance_surface _ _)⟩
    · refine exec_idle rfl idle (by simp [p, u16]) (served.trans ?_)
      rw [time]
      rfl
    · rw [clock]
      by_cases full : 4294967295 ≤ s.clock.showTime + len
      · rw [if_pos full, if_pos (show min (s.clock.showTime + len) 4294967295 = 4294967295 by omega)]
      · rw [if_neg full, if_neg (show ¬ min (s.clock.showTime + len) 4294967295 = 4294967295 by omega)]
    · rw [enterStepping_eq] at advances ⊢
      exact advances

/-! ## WALL_MILLISECOND -/

theorem stepRamps_once (s : State) : RampsOnce s (stepRamps s) := by
  refine ⟨fun c => ?_, ?_⟩
  · unfold stepRamps
    rw [getChan_mapChans]
  · unfold stepRamps mapChans
    rfl

theorem isFreewheeling_iff (s : State) : isFreewheeling s = true ↔ s.clock.state = .running ∧ s.clock.source = .freewheel := by
  unfold isFreewheeling
  rw [Bool.and_eq_true, beq_iff_eq, beq_iff_eq]

/-- Ramps read channel records, group mutes and the stop. -/
theorem ramps_of_clock_surf (s : State) (k : Clock) (u : Surface) (c : Chan) :
    rampInForce { s with clock := k, surf := u } c = rampInForce s c ∧ rampGoal { s with clock := k, surf := u } c = rampGoal s c :=
  ⟨rfl, rfl⟩

/-- The divider count of a millisecond. -/
theorem countDivider_tick (s : State) : countDivider (tickWall s) = { s with
    clock := { s.clock with
      wallTime := (s.clock.wallTime + 1) % 4294967296
      divCount := if s.clock.state = .running ∧ s.clock.source = .internal
        then min s.clock.divisor (s.clock.divCount + 1) else s.clock.divCount }
    surf := { s.surf with begun := false } } := by
  unfold countDivider
  by_cases counts : s.clock.state = .running ∧ s.clock.source = .internal
  · rw [if_pos (show (tickWall s).clock.state = .running ∧ (tickWall s).clock.source = .internal from counts), if_pos counts]
    rfl
  · rw [if_neg (show ¬ ((tickWall s).clock.state = .running ∧ (tickWall s).clock.source = .internal) from counts), if_neg counts]
    rfl

/-- What a settled advance of a running clock leaves. -/
theorem settle_advance {n : Nat} {s : State} (going : s.clock.state = .running) (bound : s.clock.showTime ≤ 4294967295) :
    Advances n s (advance n s) ∧ (settle (advance n s)).clock = (advance n s).clock ∧ KeepsSurface s (settle (advance n s)) := by
  have advances := advance_advances (n := n) (.inl going) bound
  refine ⟨advances, settle_clock ?_, (advance_surface n s).trans (settle_surface _)⟩
  rw [advances.clock]
  split
  · exact ClockState.noConfusion
  · show s.clock.state ≠ .stopped
    rw [going]
    exact ClockState.noConfusion

theorem stepRamps_surface (s : State) : KeepsSurface s (stepRamps s) := by
  have ramps := stepRamps_once s
  have kept {α : Type} {f : State → α} (same : f { stepRamps s with chans := s.chans } = f (stepRamps s)) : f (stepRamps s) = f s := by
    rw [← same, ramps.rest]
  exact ⟨⟨fun c => by rw [ramps.chans]; rfl, kept rfl, kept rfl, kept rfl, kept rfl, kept rfl, kept rfl,
    kept (f := fun u => u.clock.wallTime) rfl, kept (f := fun u => u.clock.divisor) rfl, kept (f := fun u => u.clock.weight) rfl,
    kept (f := fun u => u.clock.rising) rfl, kept (f := fun u => u.play.backTime) rfl, kept rfl,
    (kept rfl : (stepRamps s).link = s.link) ▸ .refl s.link⟩, kept rfl⟩

/-- Settles O29: the ramp steps and the divider count, and in FREEWHEEL the advance in either order. -/
theorem wallMillisecond : Obligations.WallMillisecond := by
  refine ⟨fun s away => ⟨stepRamps (countDivider (tickWall s)), ?_, fun c => ?_, ?_, ?_⟩, fun s running source below => ?_⟩
  · refine congrArg (fun u => Host.Outcome.next (choose u)) (if_neg ?_)
    rw [isFreewheeling_iff]
    exact away
  · rw [countDivider_tick]
    exact (stepRamps_once _).chans c
  · rw [countDivider_tick]
    exact (congrArg State.clock (stepRamps_once _).rest :)
  · rw [countDivider_tick]
    have rest := (stepRamps_once { s with
      clock := { s.clock with
        wallTime := (s.clock.wallTime + 1) % 4294967296
        divCount := if s.clock.state = .running ∧ s.clock.source = .internal
          then min s.clock.divisor (s.clock.divCount + 1) else s.clock.divCount }
      surf := { s.surf with begun := false } }).rest
    exact (congrArg (fun u : State => { u with clock := s.clock }) rest :)
  · intro tick
    have runs : tick.clock.state = .running := running
    have bound : tick.clock.showTime ≤ 4294967295 := below.le
    have wheel : isFreewheeling (tickWall s) = true := (isFreewheeling_iff _).mpr ⟨running, source⟩
    have made : Machine.wallMillisecond s = if Config.rampFirst s.freeCount then settle (advance 1 (stepRamps tick))
        else stepRamps (settle (advance 1 tick)) := if_pos wheel
    have after (u : State) (surface : KeepsSurface tick u) (time : u.clock.showTime = min (s.clock.showTime + 1) 4294967295) :
        u.clock.wallTime = (s.clock.wallTime + 1) % 4294967296 ∧ u.clock.showTime = s.clock.showTime + 1 ∧ u.lanes = s.lanes ∧
          u.surf = { s.surf with begun := false } ∧ u.stop = s.stop ∧ u.sets = s.sets ∧ u.pairLinked = s.pairLinked ∧
          u.pending = s.pending :=
      ⟨surface.wallTime, by rw [time]; omega, surface.lanes, surface.surf, surface.stop, surface.sets, surface.pairLinked, surface.pending⟩
    by_cases first : Config.rampFirst s.freeCount = true
    · rw [if_pos first] at made
      have ramps := stepRamps_once tick
      have clock : (stepRamps tick).clock = tick.clock := (congrArg State.clock ramps.rest :)
      obtain ⟨advances, settled, surface⟩ := settle_advance (n := 1) (s := stepRamps tick) (by rw [clock]; exact runs) (by rw [clock]; exact bound)
      have time := showTime_of_advances advances
      rw [clock, ← settled] at time
      refine ⟨settle (advance 1 (stepRamps tick)), congrArg (fun u => Host.Outcome.next (choose u)) made,
        .inl ⟨_, _, ramps, advances, rfl⟩, after _ ?_ time⟩
      exact KeepsSurface.trans (stepRamps_surface tick) surface
    · rw [if_neg first] at made
      obtain ⟨advances, settled, surface⟩ := settle_advance (n := 1) runs bound
      have time := showTime_of_advances advances
      rw [← settled] at time
      have ramps := stepRamps_once (settle (advance 1 tick))
      have clock : (stepRamps (settle (advance 1 tick))).clock = (settle (advance 1 tick)).clock := (congrArg State.clock ramps.rest :)
      refine ⟨stepRamps (settle (advance 1 tick)), congrArg (fun u => Host.Outcome.next (choose u)) made,
        .inr ⟨_, advances, ramps⟩, after _ (surface.trans (stepRamps_surface _)) (by rw [clock]; exact time)⟩

/-! ## DIVIDER_COUNT, SYNC_IN_EDGE and PULSE_LOSS -/

theorem armed_surface (s : State) (source : Source) (t : Option Nat) :
    KeepsSurface s { s with clock := { s.clock with source := source, lossTimer := t } } :=
  updClock_surface (fun k => { k with source := source, lossTimer := t }) (by intro _; exact ⟨rfl, rfl, rfl, rfl⟩) s

/-- An edge that counts: the timer is armed, show time advances by W, and PULSE comes back after a freewheel. -/
theorem takeEdge_counts {s : State} (runs : s.clock.state = .running) (source : s.clock.source ≠ .internal) :
    let v := advance s.clock.weight { s with clock := { s.clock with source := .pulse, lossTimer := some s.clock.wallTime } }
    takeEdge s.clock.rising s = settle (if s.clock.source = .freewheel then
      { v with link := v.link.queue (.clock .pulseRegained v.clock.state v.clock.source v.clock.showTime) } else v) := by
  intro v
  unfold takeEdge
  rw [if_pos ⟨rfl, runs⟩]
  split
  · rename_i internal
    exact absurd internal source
  · rename_i pulse
    have same : countEdge s = v := by
      refine congrArg (advance s.clock.weight) ?_
      show { s with clock := { s.clock with lossTimer := some s.clock.wallTime } } = _
      rw [← pulse]
    rw [same, if_neg (by rw [pulse]; exact Source.noConfusion)]
  · rename_i wheel
    rw [if_pos wheel]
    rfl

theorem takeEdge_idle {s : State} {rising : Bool}
    (idle : rising ≠ s.clock.rising ∨ s.clock.state ≠ .running ∨ s.clock.source = .internal) : takeEdge rising s = s := by
  unfold takeEdge
  split
  · rename_i counts
    rw [(idle.resolve_left (not_not.mpr counts.1)).resolve_left (not_not.mpr counts.2)]
  · rfl

/-- An edge that counts below the last show time. -/
theorem takeEdge_below {s : State} (runs : s.clock.state = .running) (source : s.clock.source ≠ .internal)
    (below : s.clock.showTime + s.clock.weight < 4294967295) :
    (takeEdge s.clock.rising s).clock = { s.clock with
      source := .pulse, lossTimer := some s.clock.wallTime, showTime := s.clock.showTime + s.clock.weight } ∧
    KeepsSurface s (takeEdge s.clock.rising s) := by
  have advances := advance_advances (n := s.clock.weight)
    (s := { s with clock := { s.clock with source := .pulse, lossTimer := some s.clock.wallTime } }) (.inl runs)
    (show s.clock.showTime ≤ 4294967295 by omega)
  have clock := advances.clock.trans (if_neg (not_le.mpr below))
  have surface := (armed_surface s .pulse (some s.clock.wallTime)).trans (advance_surface s.clock.weight _)
  rw [takeEdge_counts runs source]
  generalize advance s.clock.weight { s with clock := { s.clock with source := .pulse, lossTimer := some s.clock.wallTime } } = v
    at clock surface
  have edge : ∃ u : State, (if s.clock.source = .freewheel then
      { v with link := v.link.queue (.clock .pulseRegained v.clock.state v.clock.source v.clock.showTime) } else v) = u ∧
      u.clock = v.clock ∧ KeepsSurface s u := by
    refine ⟨_, rfl, ?_, ?_⟩
    · split <;> rfl
    · split
      · exact surface.trans (clockNotice_show .pulseRegained v).toSurface
      · exact surface
  obtain ⟨u, made, same, kept⟩ := edge
  have going : u.clock.state ≠ .stopped := by
    rw [same, clock]
    show s.clock.state ≠ .stopped
    rw [runs]
    exact ClockState.noConfusion
  dsimp only
  rw [made]
  exact ⟨(settle_clock going).trans (same.trans clock), kept.trans (settle_surface u)⟩

/-- Settles O30: each event's condition, and its advance. -/
theorem clockEvents : Obligations.ClockEvents := by
  refine ⟨fun s idle => congrArg (fun u => Host.Outcome.next (choose u)) (if_neg idle), fun s runs source full below => ?_,
    fun s runs source full bound => ?_, fun s rising idle => congrArg (fun u => Host.Outcome.next (choose u)) (takeEdge_idle idle),
    fun s runs source below => ?_, fun s runs source bound => ?_, fun s t runs source armed lost => ?_, fun s idle => ?_⟩
  · obtain ⟨advances, settled, surface⟩ := settle_advance (n := 1) (s := { s with clock := { s.clock with divCount := 0 } }) runs below.le
    have time := showTime_of_advances advances
    refine ⟨_, congrArg (fun u => Host.Outcome.next (choose u)) (if_pos ⟨runs, source, full⟩), ?_, ?_, ?_⟩
    · refine (congrArg Clock.showTime settled).trans (time.trans ?_)
      show min (s.clock.showTime + 1) 4294967295 = _
      omega
    · refine (congrArg Clock.divCount settled).trans ?_
      rw [advances.clock]
      split <;> rfl
    · exact KeepsSurface.trans (updClock_surface (fun k => { k with divCount := 0 }) (by intro _; exact ⟨rfl, rfl, rfl, rfl⟩) s) surface
  · obtain ⟨advances, -, -⟩ := settle_advance (n := 1) (s := { s with clock := { s.clock with divCount := 0 } }) runs bound
    exact ⟨_, congrArg (fun u => Host.Outcome.next (choose u)) (if_pos ⟨runs, source, full⟩), advances⟩
  · obtain ⟨clock, surface⟩ := takeEdge_below runs source below
    refine ⟨_, rfl, ?_, ?_, ?_, ?_, surface⟩
    · exact congrArg Clock.showTime clock
    · exact congrArg Clock.source clock
    · exact (congrArg Clock.state clock).trans runs
    · exact congrArg Clock.lossTimer clock
  · exact ⟨_, advance_advances (.inl runs) bound, congrArg (fun u => Host.Outcome.next (choose u)) (takeEdge_counts runs source)⟩
  · refine congrArg (fun u => Host.Outcome.next (choose u)) ((if_pos ⟨runs, source, (ClockStop.lossDue_iff _).mpr ⟨t, armed, lost⟩⟩).trans ?_)
    unfold expireLoss clockNotice queueNotice updClock
    dsimp only
    rw [runs]
  · refine congrArg (fun u => Host.Outcome.next (choose u)) (if_neg fun h => idle ?_)
    exact ⟨h.1, h.2.1, (ClockStop.lossDue_iff _).mp h.2.2⟩

end Sys2Proof.Advance
end

section
/-! What steps queue on the link, and the notices of one instant (R71; log entry 42). -/

namespace Sys2Proof.Instants

open Sys2Proof Sys2Proof.Machine Sys2Proof.Removal Sys2Proof.Settings Sys2Proof.MoveStarts Sys2Proof.DueOrder Sys2Proof.Advance

/-! ## Retirements alone -/

/-- From s to t the link was only queued retirements. -/
structure Retiring (s t : State) : Prop where
  link : ∃ rs : List Retirement, t.link = queueAll (rs.map Retirement.notice) s.link

namespace Retiring

theorem of_link {s t : State} (same : t.link = s.link) : Retiring s t := ⟨[], same⟩

theorem of_reports {rs : List Retirement} {s t : State} (h : Reports rs s t) : Retiring s t := ⟨rs, h.link⟩

theorem trans {a b c : State} (h : Retiring a b) (h' : Retiring b c) : Retiring a c := by
  obtain ⟨rs, first⟩ := h.link
  obtain ⟨rs', second⟩ := h'.link
  exact ⟨rs ++ rs', by rw [second, first, List.map_append, queueAll_append]⟩

theorem foldl {α : Type} {f : State → α → State} (h : ∀ s a, Retiring s (f s a)) (l : List α) (s : State) :
    Retiring s (l.foldl f s) :=
  List.foldlRecOn (motive := Retiring s) l f (.of_link rfl) fun t ht a _ => ht.trans (h t a)

end Retiring

theorem updMove_link (k : Slot) (f : Move → Move) (s : State) : (updMove k f s).link = s.link :=
  (congrArg State.link (updMove_rest k f s) :)

theorem startLane_link (k : Slot) (mv : Move) (c : Chan) (recorded : Option Int) (s : State) :
    (startLane k mv c recorded s).link = s.link := by
  have removed := (congrArg State.link (unclaimChan_unclaims c s).rest :)
  unfold startLane
  split
  · rfl
  · dsimp only
    split
    · rfl
    · exact (updMove_link ..).trans removed

theorem startGroup_link (k : Slot) (mv : Move) (g : Grp) (recorded : Option Int) (s : State) :
    (startGroup k mv g recorded s).link = s.link :=
  (updMove_link ..).trans (congrArg State.link (GroupRequests.unclaimGroup_unclaims g s).rest :)

theorem startPending_link (k : Slot) (mv : Move) (s : State) : (startPending k mv s).link = s.link := by
  unfold startPending
  split
  · exact List.foldlRecOn (motive := fun t : State => t.link = s.link) _ _ rfl fun t ht c _ => (startLane_link ..).trans ht
  · exact List.foldlRecOn (motive := fun t : State => t.link = s.link) _ _ rfl fun t ht l _ => (startLane_link ..).trans ht
  · exact startGroup_link ..
  · exact startGroup_link ..

theorem startFading_retiring (k : Slot) (start : Nat) (s : State) : Retiring s (startFading k start s) := by
  cases there : s.moves[k] with
  | none =>
    unfold startFading
    rw [there]
    exact .of_link rfl
  | some mv =>
    obtain ⟨v, -, made, n, -, sweeps⟩ := startFading_own there start
    have still : v.link = s.link := by rw [made, startPending_link]; rfl
    exact (Retiring.of_link still).trans (.of_reports sweeps.retires.toReports)

theorem createRecorded_retiring (mv : Move) (s : State) : Retiring s (createRecorded mv s).1 := by
  unfold createRecorded
  split
  · exact .of_link rfl
  · exact .trans (b := placeMove _ mv _ s) (.of_link rfl) (startFading_retiring ..)

theorem retire_retiring (k : Slot) (reason : Reason) (r : Nat) (s : State) : Retiring s (retire k reason r s) := by
  cases there : s.moves[k] with
  | none => rw [retire_none there]; exact .of_link rfl
  | some mv => exact .of_reports (Retires.of_retire there reason r).toReports

/-! ## Any notices -/

/-- From s to t the link was only queued to. -/
structure Says (s t : State) : Prop where
  link : ∃ ns : List Notice, t.link = queueAll ns s.link

theorem Retiring.says {s t : State} (h : Retiring s t) : Says s t := by
  obtain ⟨rs, link⟩ := h.link
  exact ⟨_, link⟩

namespace Says

theorem of_link {s t : State} (same : t.link = s.link) : Says s t := ⟨[], same⟩

theorem notice (n : Notice) (s : State) : Says s (queueNotice n s) := ⟨[n], rfl⟩

theorem trans {a b c : State} (h : Says a b) (h' : Says b c) : Says a c := by
  obtain ⟨ns, first⟩ := h.link
  obtain ⟨ns', second⟩ := h'.link
  exact ⟨ns ++ ns', by rw [second, first, queueAll_append]⟩

theorem foldl {α : Type} {f : State → α → State} (h : ∀ s a, Says s (f s a)) (l : List α) (s : State) : Says s (l.foldl f s) :=
  List.foldlRecOn (motive := Says s) l f (.of_link rfl) fun t ht a _ => ht.trans (h t a)

end Says

theorem askGlide_says (c : Chan) (s : State) : Says s (askGlide c s).1 := by
  have made := (createRecorded_retiring (glideMove s c) s).says
  unfold askGlide
  split
  · exact .of_link rfl
  · split
    · rename_i eq
      rw [eq] at made
      exact made.trans (.notice _ _)
    · rename_i eq
      rw [eq] at made
      exact made

theorem handBackGlide_says (c : Chan) (cause : TakeoverCause) (s : State) : Says s (handBackGlide c cause s).1 := by
  have back (n : Notice) : Says s (queueNotice n (setOwnership c .auto s)) :=
    .trans (b := setOwnership c .auto s) (.of_link (updChans_link ..)) (.notice n _)
  unfold handBackGlide
  dsimp only
  split
  · exact back _
  · exact (back _).trans (askGlide_says c _)

theorem releaseAll_says : ∀ (cs : List Chan) (s : State), Says s (releaseAll cs s)
  | [], _ => .of_link rfl
  | c :: cs, s => by
    refine Says.trans ?_ (releaseAll_says cs (if s.chans[c].ownership = .latched then (handBackGlide c .releaseAction s).1 else s))
    split
    · exact handBackGlide_says ..
    · exact .of_link rfl

theorem setOwnMute_link (c : Chan) (on : Bool) (s : State) : (setOwnMute c on s).link = s.link :=
  (congrArg State.link (setOwnMute_only c on s).rest :)

theorem setGroupMute_link (g : Grp) (on : Bool) (s : State) : (setGroupMute g on s).link = s.link :=
  (congrArg State.link (setGroupMute_becomes g on s).2 :)

theorem actInstant_says (mv : Move) (s : State) : Says s (actInstant mv s) := by
  have group (on : Bool) : Says s (actGroup mv on s) := by
    unfold actGroup
    split
    · exact .of_link (setGroupMute_link ..)
    · exact .of_link rfl
  unfold actInstant
  split
  · exact .foldl (fun t c => .of_link (setOwnMute_link c true t)) _ s
  · exact .foldl (fun t c => .of_link (setOwnMute_link c false t)) _ s
  · exact group true
  · exact group false
  · rw [releaseAll_eq]
    exact releaseAll_says _ s
  · exact .of_link rfl
  · exact .of_link rfl

theorem createMove_says (o : Origin) (a : Action) (fireTime : Nat) (s : State) : Says s (createMove o a fireTime s).1 := by
  unfold createMove
  dsimp only
  split
  · exact .of_link rfl
  · split
    · exact actInstant_says ..
    · split
      · exact .of_link rfl
      · split
        · exact .of_link rfl
        · exact .trans (b := placeMove _ _ _ s) (.of_link rfl) (startFading_retiring ..).says

/-! ## The notices of one instant (R71) -/

/-- An instant in hand since k: the notices of other kinds are queued, the retirements wait in ascending slot order,
those of `kept` among them. -/
structure InHand (others : List Notice) (kept : Retirement → Prop) (k k' : Link) : Prop where
  other : ∀ n ∈ others, ∀ slot kind origin reason, n ≠ .moveRetired slot kind origin reason
  waiting : ∃ rs : List Retirement, rs.Pairwise (·.slot ≤ ·.slot) ∧ (∀ r, kept r → r ∈ rs) ∧
    k' = { queueAll others { k with instant := none } with instant := some (rs.map Retirement.notice) }

theorem InHand.start (k : Link) : InHand [] (fun _ => False) k { k with instant := some [] } :=
  ⟨fun _ mem => (by cases mem), [], List.Pairwise.nil, fun _ h => h.elim, rfl⟩

/-- A retirement put in its place. -/
def placed (r : Retirement) (rs : List Retirement) : List Retirement :=
  rs.filter (fun q => !decide (r.slot < q.slot)) ++ r :: rs.filter fun q => decide (r.slot < q.slot)

theorem placeRetired_map (r : Retirement) (rs : List Retirement) :
    placeRetired r.slot r.notice (rs.map Retirement.notice) = (placed r rs).map Retirement.notice := by
  have after (q : Retirement) : q.notice.standsAfter r.slot = decide (r.slot < q.slot) := rfl
  unfold placeRetired placed
  simp only [List.filter_map, List.map_append, List.map_cons, Function.comp_def, after]

theorem mem_placed {r q : Retirement} {rs : List Retirement} : q ∈ placed r rs ↔ q = r ∨ q ∈ rs := by
  unfold placed
  rw [List.mem_append, List.mem_cons, List.mem_filter, List.mem_filter]
  by_cases h : r.slot < q.slot <;> simp [h, or_comm]

theorem placed_pairwise {r : Retirement} {rs : List Retirement} (sorted : rs.Pairwise (·.slot ≤ ·.slot)) :
    (placed r rs).Pairwise (·.slot ≤ ·.slot) := by
  unfold placed
  rw [List.pairwise_append, List.pairwise_cons]
  refine ⟨sorted.filter _, ⟨fun q mem => ?_, sorted.filter _⟩, fun p hp q hq => ?_⟩
  · exact (of_decide_eq_true (List.mem_filter.mp mem).2).le
  · have low : p.slot ≤ r.slot := by simpa using (List.mem_filter.mp hp).2
    rcases List.mem_cons.mp hq with rfl | mem
    · exact low
    · exact low.trans (of_decide_eq_true (List.mem_filter.mp mem).2).le

theorem InHand.retire {others : List Notice} {kept : Retirement → Prop} {k k' : Link} (h : InHand others kept k k') (r : Retirement) :
    InHand others (fun q => q = r ∨ kept q) k (k'.queue r.notice) := by
  obtain ⟨rs, sorted, all, rfl⟩ := h.waiting
  refine ⟨h.other, placed r rs, placed_pairwise sorted, fun q hq => mem_placed.mpr (hq.imp_right (all q)), ?_⟩
  rw [← placeRetired_map]
  rfl

theorem InHand.retireAll {others : List Notice} {k : Link} : ∀ (rs : List Retirement) {kept : Retirement → Prop} {k' : Link},
    InHand others kept k k' → InHand others (fun q => q ∈ rs ∨ kept q) k (queueAll (rs.map Retirement.notice) k')
  | [], _, _, h => ⟨h.other, h.waiting.imp fun _ w => ⟨w.1, fun q hq => w.2.1 q (hq.resolve_left List.not_mem_nil), w.2.2⟩⟩
  | r :: rs, kept, k', h => by
    have later := retireAll rs (h.retire r)
    exact ⟨later.other, later.waiting.imp fun _ w =>
      ⟨w.1, fun q hq => w.2.1 q (by rcases hq with mem | hq
                                    · rcases List.mem_cons.mp mem with rfl | mem
                                      · exact .inr (.inl rfl)
                                      · exact .inl mem
                                    · exact .inr (.inr hq)), w.2.2⟩⟩

theorem InHand.weaken {others : List Notice} {kept kept' : Retirement → Prop} {k k' : Link} (h : InHand others kept k k')
    (fewer : ∀ q, kept' q → kept q) : InHand others kept' k k' :=
  ⟨h.other, h.waiting.imp fun _ w => ⟨w.1, fun q hq => w.2.1 q (fewer q hq), w.2.2⟩⟩

/-- A notice of another kind enters the queue at once. -/
theorem InHand.say {others : List Notice} {kept : Retirement → Prop} {k k' : Link} (h : InHand others kept k k') {n : Notice}
    (other : ∀ slot kind origin reason, n ≠ .moveRetired slot kind origin reason) :
    InHand (others ++ [n]) kept k (k'.queue n) := by
  obtain ⟨rs, sorted, all, rfl⟩ := h.waiting
  have free : n.retiredSlot = none := by
    unfold Notice.retiredSlot
    split
    · exact absurd rfl (other _ _ _ _)
    · rfl
  refine ⟨fun m mem => ?_, rs, sorted, all, ?_⟩
  · rcases List.mem_append.mp mem with old | new
    · exact h.other m old
    · rw [List.mem_singleton.mp new]
      exact other
  · rw [queueAll_append, Link.queue_of_other _ free, Link.post_instant, queueAll, queueAll, List.foldl_cons, List.foldl_nil,
      Link.queue_of_other _ free]

/-- A retirement of any move that gives a notice. -/
def retirementOf (slot : Slot) (kind : MoveKind) (origin : Origin) (reason : Reason) : Retirement :=
  ⟨slot, recordedMove kind origin (.chans []) .db .linear .showTime 0, reason, 0⟩

theorem InHand.sayAll {k : Link} {kept : Retirement → Prop} : ∀ (ns : List Notice) {others : List Notice} {k' : Link},
    InHand others kept k k' → ∃ others', InHand others' kept k (queueAll ns k')
  | [], others, _, h => ⟨others, h⟩
  | n :: ns, others, k', h => by
    have next : ∃ others', InHand others' kept k (k'.queue n) := by
      by_cases retired : ∃ slot kind origin reason, n = .moveRetired slot kind origin reason
      · obtain ⟨slot, kind, origin, reason, rfl⟩ := retired
        exact ⟨others, (h.retire (retirementOf slot kind origin reason)).weaken fun _ hq => .inr hq⟩
      · exact ⟨_, h.say fun slot kind origin reason e => retired ⟨slot, kind, origin, reason, e⟩⟩
    obtain ⟨others', h'⟩ := next
    exact sayAll ns h'

/-- The end of an instant that none stood before (R71). -/
theorem InHand.closed {others : List Notice} {kept : Retirement → Prop} {k k' : Link} (h : InHand others kept k k') (none : k.instant = none) :
    ∃ rs, QueuesInstant others rs k (Machine.closed false k') ∧ ∀ r, kept r → r ∈ rs := by
  obtain ⟨rs, sorted, all, rfl⟩ := h.waiting
  refine ⟨rs, ⟨sorted, h.other, ?_⟩, all⟩
  have same : { k with instant := Option.none } = k := by rw [← none]
  rw [same, queueAll_append]
  have still : (queueAll others k).instant = Option.none := by
    rw [queueAll_of_none _ none, Link.postAll_waiting, none]
  have whole : { queueAll others k with instant := Option.none } = queueAll others k := by rw [← still]
  show { queueAll (rs.map Retirement.notice) { queueAll others k with instant := Option.none } with instant := Option.none } = _
  rw [whole, queueAll_of_none _ still, ← still, ← Link.postAll_waiting (rs.map Retirement.notice) (queueAll others k)]

end Sys2Proof.Instants
end

section
/-! O33 and O34: a firing of the standby cue, by GO and by a follow (R103 to R110). -/

namespace Sys2Proof.Firings

open Sys2Proof Sys2Proof.Machine Sys2Proof.Codec Sys2Proof.Closure Sys2Proof.Settings Sys2Proof.Advance Sys2Proof.Instants

/-! ## Playback without an end watch -/

/-- The playback stands as p, and only moves of `Fits` stand. -/
structure Plays (p : Playback) (Fits : Move → Prop) (s : State) : Prop where
  play : s.play = p
  moves : ∀ (k : Slot) (mv : Move), s.moves[k] = some mv → Fits mv

theorem Plays.of_inherits {p : Playback} {Fits : Move → Prop} (asks : ∀ mv old, asked mv = asked old → Fits old → Fits mv)
    {s t : State} (same : Inherits s t) (h : Plays p Fits s) : Plays p Fits t where
  play := same.play.trans h.play
  moves k mv hk := by
    obtain ⟨old, there, eq⟩ := same.moves k mv hk
    exact asks mv old eq (h.moves k old there)

/-- Without an end watch, moves and hand-backs leave the playback alone (R108). -/
theorem plays_core {p : Playback} (unwatched : p.endWatch = none) {Fits : Move → Prop}
    (asks : ∀ mv old, asked mv = asked old → Fits old → Fits mv) (glides : ∀ s c, Fits (glideMove s c)) :
    Core Fits (Plays p Fits) :=
  have kept {s t : State} (same : Inherits s t) : Plays p Fits s → Plays p Fits t := .of_inherits asks same
  have claims : Claims (Plays p Fits) :=
    { link := fun _ _ => kept (.of_moves rfl rfl rfl rfl rfl rfl)
      report := fun s firing r h => by rwa [ShowStop.reportRetirement_none (h.play ▸ unwatched)]
      unclaimChan := fun s c => kept (unclaimChan_inherits c s)
      unclaimGroup := fun s g => kept (unclaimGroup_inherits g s)
      free := fun s k _ => kept (setSlot_inherits_none k s) }
  { toClaims := claims
    surf := fun _ _ => kept (.of_moves rfl rfl rfl rfl rfl rfl)
    ownMute := fun s c on => kept (setOwnMute_inherits c on s)
    groupMute := fun s g on => kept (setGroupMute_inherits g on s)
    cancel := fun s k => kept ((freezeClaims_inherits k s).trans (setSlot_inherits_none k _))
    complete := fun s k => kept ((completeClaims_inherits k s).trans (setSlot_inherits_none k _))
    place := fun s k mv created _ fits h => by
      refine ⟨h.play, fun j mv' hj => ?_⟩
      rw [placeMove_moves] at hj
      split at hj
      · cases hj
        exact asks _ mv rfl fits
      · exact h.moves j mv' hj
    start := fun s k mv start occupied _ => kept (started_inherits start occupied)
    turn := fun s k mv start occupied _ => kept (turnRound_inherits start occupied)
    auto := fun s c => kept (setOwnership_inherits c .auto s)
    latch := fun s c _ => kept (setOwnership_inherits c .latched s)
    touch := fun s c cause h =>
      have owned : Plays p Fits (setOwnership c .touched s) := kept (setOwnership_inherits c .touched s) h
      kept (recordBalance_inherits _ _) (claims.removeClaims _ (claims.queueNotice _ owned))
    pickup := fun s _ _ _ => kept (updChans_inherits _ _ s)
    side := fun s _ _ _ => kept (updChans_inherits _ _ s)
    fader := fun _ t c _ _ => kept (writeFader_inherits c _ t)
    glide := fun s c _ => glides s c
    act := fun _ k _ _ _ _ _ => kept (setSlot_inherits_none k _) }

/-! ## The creations of a firing (R104) -/

theorem creations_cons (o : Origin) (fireTime : Nat) (a : Action) (as : List Action) (s : State) :
    creations o fireTime (a :: as) s =
      ((creations o fireTime as (createMove o a fireTime s).1).1,
        (creations o fireTime as (createMove o a fireTime s).1).2 + if (createMove o a fireTime s).2 = .noSlot then 1 else 0) := rfl

theorem createEach_eq (o : Origin) (fireTime : Nat) (as : List Action) (s : State) :
    createEach o fireTime as s = creations o fireTime as s := by
  have counted : ∀ (as : List Action) (s : State) (n : Nat), as.foldl
      (fun acc a =>
        let made := createMove o a fireTime acc.1
        (made.1, if made.2 = .noSlot then acc.2 + 1 else acc.2)) (s, n)
      = ((creations o fireTime as s).1, n + (creations o fireTime as s).2) := by
    intro as
    induction as with
    | nil => exact fun _ _ => rfl
    | cons a as ih =>
      intro s n
      refine (ih _ _).trans (Prod.ext rfl ?_)
      rw [creations_cons]
      dsimp only
      split <;> omega
  exact (counted as s 0).trans (by simp)

theorem creations_dropped (o : Origin) (fireTime : Nat) : ∀ (as : List Action) (s : State),
    (creations o fireTime as s).2 ≤ as.length
  | [], _ => le_rfl
  | a :: as, s => by
    have rest := creations_dropped o fireTime as (createMove o a fireTime s).1
    unfold creations
    dsimp only
    rw [List.length_cons]
    split <;> omega

theorem creations_says (o : Origin) (fireTime : Nat) : ∀ (as : List Action) (s : State),
    Says s (creations o fireTime as s).1
  | [], _ => .of_link rfl
  | a :: as, s => (createMove_says o a fireTime s).trans (creations_says o fireTime as _)

theorem creations_play {o : Origin} {fireTime : Nat} {as : List Action} {s : State} (unwatched : s.play.endWatch = none) :
    (creations o fireTime as s).1.play = s.play := by
  rw [← createEach_eq]
  have core : Core (fun _ => True) (Plays s.play fun _ => True) :=
    plays_core unwatched (fun _ _ _ _ => trivial) (fun _ _ => trivial)
  exact (List.foldlRecOn (motive := fun acc : State × Nat => Plays s.play (fun _ => True) acc.1) as _ ⟨rfl, fun _ _ _ => trivial⟩
    fun acc hacc a _ => core.createMove o a fireTime trivial hacc).play

/-! ## The clock's start at a firing (R88) -/

/-- The clock that a GO starts out of STOPPED, and the one it holds at once at the last show time. -/
theorem startForGo_eq (s : State) : startForGo s =
    if s.clock.state ≠ .stopped then s
    else if s.clock.showTime = 4294967295 then
      { s with
        clock := { s.clock with
          state := .held, divCount := 0, lossTimer := none
          source := if s.clock.source = .freewheel then .pulse else s.clock.source }
        link := queueAll [.clock .go .running s.clock.source 4294967295,
          .clock .saturated .held (if s.clock.source = .freewheel then .pulse else s.clock.source) 4294967295] s.link }
    else
      { s with
        clock := { s.clock with
          state := .running, divCount := 0
          lossTimer := if s.clock.source = .pulse then some s.clock.wallTime else none }
        link := s.link.queue (.clock .go .running s.clock.source s.clock.showTime) } := by
  by_cases stopped : s.clock.state = .stopped
  · rw [if_neg (not_not.mpr stopped)]
    refine (if_pos stopped : startForGo s = _).trans ?_
    by_cases last : s.clock.showTime = 4294967295
    · rw [if_pos last, ClockStop.runClock_last _ last, ← last]
      rfl
    · rw [if_neg last]
      exact ClockStop.runClock_below _ last
  · rw [if_pos stopped]
    exact if_neg stopped

/-- A GO starts the clock alike whatever the playback holds; show time and wall time stand. -/
theorem startForGo_clock (s : State) : ∃ (k : Clock) (l : Link),
    (∀ p : Playback, startForGo { s with play := p } = { s with clock := k, link := l, play := p }) ∧
    k.showTime = s.clock.showTime ∧ k.wallTime = s.clock.wallTime ∧ l.instant = s.link.instant := by
  refine ⟨(startForGo s).clock, (startForGo s).link, fun p => ?_, ?_⟩
  · rw [startForGo_eq, startForGo_eq]
    dsimp only
    split
    · rfl
    · split <;> rfl
  · rw [startForGo_eq]
    split
    · exact ⟨rfl, rfl, rfl⟩
    · have said (n : Notice) (other : n.retiredSlot = none) (l : Link) : (l.queue n).instant = l.instant := by
        rw [Link.queue_of_other _ other, Link.post_instant]
      split
      · refine ⟨rfl, rfl, ?_⟩
        rw [queueAll, List.foldl_cons, List.foldl_cons, List.foldl_nil, said _ rfl, said _ rfl]
      · exact ⟨rfl, rfl, said _ rfl _⟩

/-! ## The recall record (R110) -/

theorem namesGroup_iff (g : Grp) (a : Action) : namesGroup g a = true ↔
    (a.kind = .group ∨ a.kind = .groupMute ∨ a.kind = .groupUnmute) ∧ a.spec = .group g := by
  unfold namesGroup
  cases a.kind <;> cases a.spec <;> simp

theorem recordsChans_iff (kind : MoveKind) : recordsChans kind = true ↔ kind = .level ∨ kind = .mute ∨ kind = .unmute := by
  cases kind <;> simp [recordsChans]

theorem reachedChans_ascending (s : State) (firing : Nat) (c : Cue) : (reachedChans s firing c).Pairwise (· < ·) :=
  (List.pairwise_lt_finRange 64).filter _

theorem mem_reachedChans {s : State} {firing : Nat} {c : Cue} {ch : Chan} : ch ∈ reachedChans s firing c ↔
    ∃ a ∈ c.actions, (a.kind = .level ∨ a.kind = .mute ∨ a.kind = .unmute) ∧ ch ∈ resolveChans s (.cue firing c.number) a.spec := by
  unfold reachedChans
  rw [List.mem_filter, and_iff_right (show ch ∈ allFin 64 from List.mem_finRange ch), List.any_eq_true]
  simp only [Bool.and_eq_true, recordsChans_iff, List.contains_iff_mem]

/-- Standby and the loop counter after a firing (R103). -/
theorem advanceStandby_eq (c : Cue) (p : Playback) : advanceStandby c p = { p with
    standby := if 1 < c.loopCounter ∧ c.loopCount ≠ 0 then
        if ∃ d ∈ p.store, d.number = c.loopTarget then some c.loopTarget else nextNumber c.number p.store
      else nextNumber c.number p.store
    store := if c.loopCount = 0 then p.store
      else p.store.map fun d =>
        if d.number = c.number then { d with loopCounter := if 1 < c.loopCounter then c.loopCounter - 1 else c.loopCount }
        else d } := by
  unfold advanceStandby setCounter
  by_cases linked : c.loopCount = 0
  · simp only [linked, if_true, ne_eq, not_true, and_false, if_false]
  · by_cases more : 1 < c.loopCounter
    · simp only [linked, if_false, more, ne_eq, not_false_eq_true, and_self, if_true, show 0 < c.loopCounter - 1 by omega]
      have target : (if (findCue c.loopTarget p.store).isSome = true then some c.loopTarget else nextNumber c.number p.store)
          = if ∃ d ∈ p.store, d.number = c.loopTarget then some c.loopTarget else nextNumber c.number p.store :=
        if_congr CueStore.findCue_isSome_iff rfl rfl
      rw [target]
    · simp only [linked, if_false, more, false_and, show ¬ 0 < c.loopCounter - 1 by omega]

/-! ## A firing (R103 to R105, R113) -/

/-- The state in which the creations of a firing begin: the clock has been started and the firing is pushed. -/
def pushed (firing : Nat) (rs : List RecallRecord) (s : State) : State :=
  { startForGo s with play := { s.play with firing := firing, follow := none, endWatch := none, recalls := rs } }

/-- The recall stack after a firing (R110). -/
def recalledWith (firing : Nat) (c : Cue) (s : State) : List RecallRecord := (recallRecord s firing c :: s.play.recalls).take 16

theorem recallRecord_clock {s : State} {k : Clock} (instant : k.showTime = s.clock.showTime) (wall : k.wallTime = s.clock.wallTime)
    (l : Link) (p : Playback) (firing : Nat) (c : Cue) :
    recallRecord { s with clock := k, link := l, play := p } firing c = recallRecord s firing c := by
  have levels (ch : Chan) : liveLevel { s with clock := k, link := l, play := p } ch = liveLevel s ch :=
    Cancelling.liveLevel_clock instant wall ch
  have offsets (g : Grp) : liveOffset { s with clock := k, link := l, play := p } g = liveOffset s g :=
    Cancelling.liveOffset_clock instant wall g
  unfold recallRecord
  simp only [levels, offsets]
  rfl

/-- The creations of a firing. -/
def fired (fireTime : Nat) (c : Cue) (s : State) : State × Nat :=
  fireActions (.cue ((s.play.firing + 1) % 65536) c.number) fireTime c.actions
    (pushed ((s.play.firing + 1) % 65536) (recalledWith ((s.play.firing + 1) % 65536) c s) s)

/-- The state that a firing leaves, but for its notices. -/
def timed (fireTime : Nat) (c : Cue) (s : State) : State :=
  updPlay (armFollow c ((s.play.firing + 1) % 65536) fireTime (outstanding ((s.play.firing + 1) % 65536) (fired fireTime c s).1))
    (updPlay (advanceStandby c) (fired fireTime c s).1)

/-- What a firing reports (R103). -/
def firedAs (fireTime : Nat) (c : Cue) (s : State) : Fired :=
  ⟨c.number, (s.play.firing + 1) % 65536, (fired fireTime c s).2, (advanceStandby c (fired fireTime c s).1.play).standby⟩

theorem fireCue_go (c : Cue) (s : State) :
    fireCue c none s = (fireNotices .go s.clock.showTime (firedAs s.clock.showTime c s) (timed s.clock.showTime c s),
      firedAs s.clock.showTime c s) := by
  obtain ⟨k, l, start, instant, wall, -⟩ := startForGo_clock s
  have here : startForGo s = { s with clock := k, link := l } := start s.play
  unfold fireCue timed firedAs fired pushed recalledWith
  simp only [Option.isSome_none, Bool.false_eq_true, if_false, Option.getD_none, updPlay, here, instant,
    recallRecord_clock instant wall]
  rfl

/-- A follow's firing, its slot emptied and no end watch armed. -/
theorem fireCue_follow (c : Cue) (due : Nat) {s : State} (unwatched : s.play.endWatch = none) :
    fireCue c (some due) { s with play := { s.play with follow := none } } =
      (fireNotices .follow due (firedAs due c s) (timed due c s), firedAs due c s) := by
  obtain ⟨k, l, start, instant, wall, -⟩ := startForGo_clock s
  have here : startForGo s = { s with clock := k, link := l } := start s.play
  unfold fireCue timed firedAs fired pushed recalledWith
  simp only [Option.isSome_some, if_true, Option.getD_some, updPlay, start, recallRecord_clock instant wall, ← unwatched]
  rfl

/-- The creations of a firing, before their instant ends. -/
def creating (fireTime : Nat) (c : Cue) (s : State) : State × Nat :=
  creations (.cue ((s.play.firing + 1) % 65536) c.number) fireTime c.actions
    (opened (pushed ((s.play.firing + 1) % 65536) (recalledWith ((s.play.firing + 1) % 65536) c s) s))

theorem fired_eq (fireTime : Nat) (c : Cue) (s : State) : fired fireTime c s =
    ({ (creating fireTime c s).1 with link := closed s.link.instant.isSome (creating fireTime c s).1.link },
      (creating fireTime c s).2) := by
  obtain ⟨k, l, start, -, -, waiting⟩ := startForGo_clock s
  have here : startForGo s = { s with clock := k, link := l } := start s.play
  have inHand : (startForGo s).link.instant = s.link.instant := by rw [here, waiting]
  unfold fired creating fireActions inOneInstant
  simp only [createEach_eq, closeInstant_eq]
  rw [← inHand]
  rfl

theorem fired_play (fireTime : Nat) (c : Cue) (s : State) : (fired fireTime c s).1.play =
    { s.play with
      firing := (s.play.firing + 1) % 65536, follow := none, endWatch := none
      recalls := recalledWith ((s.play.firing + 1) % 65536) c s } := by
  rw [fired_eq]
  exact creations_play rfl

theorem armFollow_rest (c : Cue) (firing fireTime k : Nat) (p : Playback) :
    { armFollow c firing fireTime k p with follow := p.follow, endWatch := p.endWatch } = p := by
  unfold armFollow
  split
  · rfl
  · rfl
  · split <;> rfl

/-- The state that a firing leaves. -/
def leaves (cause : FireCause) (fireTime : Nat) (c : Cue) (s : State) : State :=
  fireNotices cause fireTime (firedAs fireTime c s) (timed fireTime c s)

theorem leaves_eq (cause : FireCause) (fireTime : Nat) (c : Cue) (s : State) : leaves cause fireTime c s =
    { timed fireTime c s with
      link := queueAll
        ([.cueFired c.number (firedAs fireTime c s).firing cause fireTime (firedAs fireTime c s).dropped (firedAs fireTime c s).standby]
          ++ (if cause = .follow ∧ 0 < (firedAs fireTime c s).dropped then
            [.followDropped c.number (firedAs fireTime c s).firing (firedAs fireTime c s).dropped] else []))
        (timed fireTime c s).link } := by
  unfold leaves fireNotices
  dsimp only
  by_cases short : cause = .follow ∧ 0 < (firedAs fireTime c s).dropped
  · rw [if_pos short, if_pos short]
    rfl
  · rw [if_neg short, if_neg short]
    rfl

/-- The playback that a firing leaves. -/
theorem leaves_play (cause : FireCause) (fireTime : Nat) (c : Cue) (s : State) : (leaves cause fireTime c s).play =
    armFollow c ((s.play.firing + 1) % 65536) fireTime (outstanding ((s.play.firing + 1) % 65536) (leaves cause fireTime c s))
      (advanceStandby c { s.play with
        firing := (s.play.firing + 1) % 65536, follow := none, endWatch := none
        recalls := recalledWith ((s.play.firing + 1) % 65536) c s }) := by
  rw [leaves_eq, ← fired_play fireTime c s]
  rfl

theorem leaves_plan (cause : FireCause) (fireTime : Nat) (c : Cue) (s : State) :
    { (leaves cause fireTime c s).play with follow := none, endWatch := none } =
      advanceStandby c { s.play with
        firing := (s.play.firing + 1) % 65536, follow := none, endWatch := none
        recalls := recalledWith ((s.play.firing + 1) % 65536) c s } := by
  rw [leaves_play]
  refine Eq.trans ?_ (armFollow_rest c ((s.play.firing + 1) % 65536) fireTime
    (outstanding ((s.play.firing + 1) % 65536) (leaves cause fireTime c s)) _)
  rw [advanceStandby_eq]

theorem leaves_fires (cause : FireCause) (fireTime : Nat) (c : Cue) (s : State) : Fires s (leaves cause fireTime c s) c := by
  have plan := leaves_plan cause fireTime c s
  rw [advanceStandby_eq] at plan
  have firing : (leaves cause fireTime c s).play.firing = (s.play.firing + 1) % 65536 := (congrArg Playback.firing plan :)
  have recalls : (leaves cause fireTime c s).play.recalls = recalledWith ((s.play.firing + 1) % 65536) c s :=
    (congrArg Playback.recalls plan :)
  refine ⟨firing, ⟨recallRecord s ((s.play.firing + 1) % 65536) c, rfl, firing.symm, recalls, ?_, ?_, fun e mem => ?_⟩,
    ⟨reachedChans_ascending .., fun ch => mem_reachedChans⟩, namesGroup_iff, (congrArg Playback.standby plan :),
    (congrArg Playback.store plan :)⟩
  · rw [firing]
    rfl
  · unfold recallRecord
    rw [List.map_map]
    exact List.map_id _
  · obtain ⟨g, -, rfl⟩ := List.mem_map.mp mem
    exact ⟨rfl, rfl⟩

theorem leaves_actions (cause : FireCause) (fireTime : Nat) (c : Cue) (s : State) :
    FiresActions cause fireTime s (leaves cause fireTime c s) c (fired fireTime c s).2 := by
  have plan := leaves_plan cause fireTime c s
  have firing : (leaves cause fireTime c s).play.firing = (s.play.firing + 1) % 65536 := (leaves_fires cause fireTime c s).firing
  have recalls : (leaves cause fireTime c s).play.recalls = recalledWith ((s.play.firing + 1) % 65536) c s := by
    rw [advanceStandby_eq] at plan
    exact (congrArg Playback.recalls plan :)
  have standby : (leaves cause fireTime c s).play.standby = (firedAs fireTime c s).standby := by
    rw [firedAs, fired_play, ← plan]
  have made := fired_eq fireTime c s
  refine ⟨⟨(creating fireTime c s).1, ?_, ?_, ?_, fun quiet => ?_⟩, fun a _ u => MoveStarts.createMove_creates ..⟩
  · rw [firing, recalls]
    exact Prod.ext rfl (congrArg Prod.snd made).symm
  · rw [leaves_eq]
    unfold timed
    rw [made]
    rfl
  · rw [standby, firing, leaves_eq]
    have link : (fired fireTime c s).1.link = closed s.link.instant.isSome (creating fireTime c s).1.link := by rw [made]
    exact congrArg (queueAll _) link
  · have still : (startForGo s).link.instant = none := by
      obtain ⟨k, l, start, -, -, waiting⟩ := startForGo_clock s
      have here : startForGo s = { s with clock := k, link := l } := start s.play
      rw [here, waiting, quiet]
    obtain ⟨ns, said⟩ := (creations_says (.cue ((s.play.firing + 1) % 65536) c.number) fireTime c.actions
      (opened (pushed ((s.play.firing + 1) % 65536) (recalledWith ((s.play.firing + 1) % 65536) c s) s))).link
    obtain ⟨others, inHand⟩ := InHand.sayAll ns (InHand.start (startForGo s).link)
    obtain ⟨rs, queues, -⟩ := inHand.closed still
    refine ⟨others, rs, ?_⟩
    unfold creating
    rw [said]
    have opens : (opened (pushed ((s.play.firing + 1) % 65536) (recalledWith ((s.play.firing + 1) % 65536) c s) s)).link
        = { (startForGo s).link with instant := some [] } := by
      show { (startForGo s).link with instant := some ((startForGo s).link.instant.getD []) } = _
      rw [still]
      rfl
    rw [opens]
    exact queues

theorem leaves_arms (cause : FireCause) (fireTime : Nat) (c : Cue) (s : State) : ArmsFollow fireTime (leaves cause fireTime c s) c := by
  have play := leaves_play cause fireTime c s
  rw [advanceStandby_eq] at play
  have firing := (leaves_fires cause fireTime c s).firing
  refine ⟨fun follow => ?_, fun follow => ?_, fun follow => ?_⟩
  · simp only [armFollow, follow] at play
    rw [play]
    exact ⟨rfl, rfl⟩
  · simp only [armFollow, follow] at play
    rw [play]
    exact ⟨rfl, rfl⟩
  · simp only [armFollow, follow] at play
    dsimp only
    rw [firing]
    show if 0 < outstanding ((s.play.firing + 1) % 65536) (leaves cause fireTime c s) then _ else _
    by_cases left : 0 < outstanding ((s.play.firing + 1) % 65536) (leaves cause fireTime c s)
    · rw [if_pos left]
      rw [if_pos left] at play
      exact ⟨(congrArg Playback.endWatch play :), (congrArg Playback.follow play :)⟩
    · rw [if_neg left]
      rw [if_neg left] at play
      exact ⟨(congrArg Playback.follow play :), (congrArg Playback.endWatch play :)⟩

theorem leaves_dropped (fireTime : Nat) (c : Cue) (s : State) : (fired fireTime c s).2 ≤ c.actions.length := by
  rw [fired_eq]
  exact creations_dropped ..

/-- The standby cue of a store in order (R100). -/
theorem standbyCue_iff {s : State} (law : StoreLaw s.play) (c : Cue) :
    standbyCue s = some c ↔ c ∈ s.play.store ∧ s.play.standby = some c.number := by
  unfold standbyCue
  constructor
  · intro found
    cases standby : s.play.standby with
    | none => rw [standby] at found; cases found
    | some n =>
      rw [standby] at found
      have number := List.find?_some found
      exact ⟨List.mem_of_find?_eq_some found, congrArg some (beq_iff_eq.mp number).symm⟩
  · rintro ⟨mem, standby⟩
    rw [standby]
    exact CueRequests.findCue_stored law.ascending mem

theorem leaves_surface (cause : FireCause) (fireTime : Nat) (c : Cue) (s : State) : KeepsSurface s (leaves cause fireTime c s) := by
  have timers : KeepsSurface s (timed fireTime c s) := by
    refine KeepsSurface.trans ?_ (updPlay_surface _ (armFollow_backTime _ _ _ _) _)
    refine KeepsSurface.trans ?_ (updPlay_surface _ (advanceStandby_backTime _) _)
    refine KeepsSurface.trans ?_ (fireActions_show _ _ _ _).toSurface
    refine (startForGo_surface s).trans ?_
    obtain ⟨k, l, start, -⟩ := startForGo_clock s
    have same : pushed ((s.play.firing + 1) % 65536) (recalledWith ((s.play.firing + 1) % 65536) c s) s =
        updPlay (fun p => { p with
          firing := (s.play.firing + 1) % 65536, follow := none, endWatch := none
          recalls := recalledWith ((s.play.firing + 1) % 65536) c s }) (startForGo s) := by
      rw [pushed, start s.play]
      rfl
    rw [same]
    exact updPlay_surface _ (by intro _; rfl) (startForGo s)
  exact timers.trans (fireNotices_show _ _ _ _).toSurface

theorem leaves_clock (cause : FireCause) (fireTime : Nat) (c : Cue) (s : State) :
    (leaves cause fireTime c s).clock = (startForGo s).clock :=
  (fireNotices_show _ _ _ _).clock.trans (fireActions_show _ _ _ _).clock

theorem startForGo_showTime (s : State) : (startForGo s).clock.showTime = s.clock.showTime := by
  obtain ⟨k, l, start, instant, -⟩ := startForGo_clock s
  rw [start s.play, instant]

/-! ## GO (R102) -/

/-- Settles O33: the state that GO leaves is that of a firing of the standby cue at the current show time. -/
theorem goFiresStandby : Obligations.GoFiresStandby := by
  refine ⟨fun s law c => standbyCue_iff law c, fun tag s idle => ⟨fun active => ?_, fun clear standby => ?_, fun c clear standby => ?_⟩,
    fun o a fireTime s => MoveStarts.createMove_creates o a fireTime s, startForGo_eq⟩
  all_goals
    have served : serve ⟨0x34, tag, []⟩ (received s) =
        if s.stop.active then refuse .locked (received s)
        else match standbyCue s with
          | none => refuse .empty (received s)
          | some c => accept (firedField (fireCue c none (received s)).2) (settle (fireCue c none (received s)).1) := rfl
  · rw [if_pos active] at served
    exact exec_idle rfl idle (by simp) served
  · have ends : standbyCue s = none := by
      unfold standbyCue
      rw [standby]
    rw [if_neg (by rw [clear]; exact Bool.false_ne_true), ends] at served
    exact exec_idle rfl idle (by simp) served
  · rw [if_neg (by rw [clear]; exact Bool.false_ne_true), standby] at served
    dsimp only at served
    have fires := leaves_fires .go s.clock.showTime c (received s)
    have clock := leaves_clock .go s.clock.showTime c (received s)
    have go : fireCue c none (received s) = (leaves .go s.clock.showTime c (received s), firedAs s.clock.showTime c (received s)) :=
      fireCue_go c (received s)
    have after : firedAs s.clock.showTime c (received s) = ⟨c.number, (leaves .go s.clock.showTime c (received s)).play.firing,
        (fired s.clock.showTime c (received s)).2, (leaves .go s.clock.showTime c (received s)).play.standby⟩ := by
      rw [fires.firing, firedAs, fired_play, ← leaves_plan .go]
    rw [go, after] at served
    refine ⟨leaves .go s.clock.showTime c (received s), (fired s.clock.showTime c (received s)).2,
      exec_idle rfl idle (by simp) served, leaves_dropped .., ⟨fires.firing, fires.recalls, fires.reached, fires.named, fires.standby, fires.store⟩,
      leaves_actions .., ?_, fun going => ?_, fun stopped => ?_, leaves_arms .., leaves_surface ..⟩
    · rw [clock, startForGo_showTime]
      rfl
    · rw [clock, startForGo_going (s := received s) going]
      rfl
    · rw [clock, startForGo_eq, if_neg (not_not.mpr (show (received s).clock.state = .stopped from stopped))]
      by_cases last : s.clock.showTime = 4294967295
      · rw [if_pos last, if_pos (show (received s).clock.showTime = 4294967295 from last)]
      · rw [if_neg last, if_neg (show ¬ (received s).clock.showTime = 4294967295 from last)]

/-! ## A follow, the end watch and the expiries at arming (R107, R108) -/

theorem followIsDue_iff {s : State} {due : Nat} (follow : s.play.follow = some due) : followIsDue s ↔ due ≤ s.clock.showTime := by
  unfold followIsDue
  rw [follow]
  exact ⟨fun ⟨d, eq, reached⟩ => by cases eq; exact reached, fun reached => ⟨due, rfl, reached⟩⟩

theorem not_followIsDue {s : State} (follow : s.play.follow = none) : ¬ followIsDue s := fun ⟨d, eq, _⟩ => by
  rw [follow] at eq
  cases eq

theorem settleFollows_due {s : State} (n : Nat) (due : followIsDue s) : settleFollows (n + 1) s = settleFollows n (expireFollow s) := by
  obtain ⟨d, follow, reached⟩ := due
  conv_lhs => unfold settleFollows
  rw [follow]
  exact if_pos reached

theorem settleFollows_early {s : State} (n : Nat) (early : ¬ followIsDue s) : settleFollows n s = s := by
  cases n with
  | zero => rfl
  | succ n =>
    unfold settleFollows
    split
    · rename_i d follow
      exact if_neg fun reached => early ⟨d, follow, reached⟩
    · rfl

/-- The follows expire one after another while one is due, up to the bound of the chain (R107). -/
theorem settleFollows_iterates : ∀ (m : Nat) (s : State), ∃ n : Nat, n ≤ m ∧ settleFollows m s = expireFollow^[n] s ∧
    (∀ i : Nat, i < n → followIsDue (expireFollow^[i] s)) ∧ (n < m → ¬ followIsDue (settleFollows m s))
  | 0, s => ⟨0, le_rfl, rfl, fun _ h => absurd h (Nat.not_lt_zero _), fun h => absurd h (Nat.lt_irrefl _)⟩
  | m + 1, s => by
    by_cases due : followIsDue s
    · obtain ⟨n, bound, eq, dues, ends⟩ := settleFollows_iterates m (expireFollow s)
      rw [settleFollows_due m due]
      refine ⟨n + 1, Nat.succ_le_succ bound, eq, fun i hi => ?_, fun h => ends (Nat.lt_of_succ_lt_succ h)⟩
      cases i with
      | zero => exact due
      | succ i => exact dues i (Nat.lt_of_succ_lt_succ hi)
    · rw [settleFollows_early _ due]
      exact ⟨0, Nat.zero_le _, rfl, fun _ h => absurd h (Nat.not_lt_zero _), fun _ => due⟩

theorem expireFollow_ends {s : State} {due : Nat} (follow : s.play.follow = some due) (standby : s.play.standby = none) :
    expireFollow s = { s with play := { s.play with follow := none } } := by
  unfold expireFollow
  rw [follow]
  dsimp only
  have ends : standbyCue (updPlay (fun p => { p with follow := none }) s) = none := by
    unfold standbyCue updPlay
    rw [standby]
  rw [ends]
  rfl

theorem expireFollow_fires {s : State} {due : Nat} {c : Cue} (follow : s.play.follow = some due) (standby : standbyCue s = some c)
    (unwatched : s.play.endWatch = none) : expireFollow s = leaves .follow due c s := by
  unfold expireFollow
  rw [follow]
  dsimp only
  have fires : standbyCue (updPlay (fun p => { p with follow := none }) s) = some c := standby
  rw [fires]
  exact congrArg Prod.fst (fireCue_follow c due unwatched)

theorem takeFollow_due {s : State} {due : Nat} (follow : s.play.follow = some due) (reached : due ≤ s.clock.showTime) :
    takeFollow s = settle (expireFollow s) := by
  unfold takeFollow
  rw [follow]
  exact if_pos reached

/-- Settles O34: a due follow's firing is that of its due time. -/
theorem followTimers : Obligations.FollowTimers := by
  refine ⟨fun s early => ?_, fun s due follow reached standby => ?_, fun s due c follow reached standby unwatched => ?_,
    fun s due follow => ⟨fun reached => ?_, fun standby => expireFollow_ends follow standby, fun c standby unwatched => ?_⟩,
    fun s u watch empty => ?_, fun s counts => ?_, fun s => settleFollows_iterates _ s⟩
  · have stays : takeFollow s = s := by
      unfold takeFollow
      split
      · rename_i due follow
        exact if_neg (early due follow).not_ge
      · rfl
    exact congrArg (fun u => Host.Outcome.next (choose u)) stays
  · have ends := expireFollow_ends follow standby
    refine congrArg (fun u => Host.Outcome.next (choose u)) ((takeFollow_due follow reached).trans ?_)
    rw [ends]
    exact ShowStop.settle_none rfl
  · refine ⟨leaves .follow due c s, (fired due c s).2, ?_, leaves_fires .., leaves_actions .., ?_, leaves_arms .., leaves_surface ..⟩
    · refine congrArg (fun u => Host.Outcome.next (choose u)) ((takeFollow_due follow reached).trans ?_)
      rw [expireFollow_fires follow standby unwatched]
    · rw [leaves_clock, startForGo_showTime]
  · exact congrArg (fun u => Host.Outcome.next (choose u)) (takeFollow_due follow reached)
  · have fires : takeItem .follow s = leaves .follow due c s := expireFollow_fires follow standby unwatched
    rw [fires]
    exact ⟨(fired due c s).2, leaves_fires .., leaves_actions .., leaves_arms .., leaves_surface ..⟩
  · refine congrArg (fun u => Host.Outcome.next (choose (settle u))) (?_ : expireEndWatch s.clock.showTime s = _)
    unfold expireEndWatch
    rw [watch]
    exact if_pos empty
  · refine congrArg (fun u => Host.Outcome.next (choose (settle u))) (?_ : expireEndWatch s.clock.showTime s = _)
    unfold expireEndWatch
    split
    · rename_i u watch
      exact if_neg (counts u watch)
    · rfl

end Sys2Proof.Firings
end

section
/-! O35: BACK undoes the top firing (R111). -/

namespace Sys2Proof.BackUndo

open Sys2Proof Sys2Proof.Machine Sys2Proof.Codec Sys2Proof.Closure Sys2Proof.Settings Sys2Proof.Removal Sys2Proof.Cancelling
  Sys2Proof.MoveStarts Sys2Proof.Advance Sys2Proof.Instants Sys2Proof.Firings

/-! ## The recorded mutes (R111, step 4) -/

/-- From s to t only mutes were written, and the ramps responded (R10). -/
structure Remutes (s t : State) : Prop where
  chans : ∀ c : Chan, t.chans[c] = { s.chans[c] with ownMute := t.chans[c].ownMute, atten := t.chans[c].atten }
  groups : ∀ g : Grp, t.groups[g] = { s.groups[g] with mute := t.groups[g].mute }
  rest : { t with chans := s.chans, groups := s.groups } = s
  unsnapped : ∀ c : Chan, rampInForce s c ≠ 0 → t.chans[c].atten = s.chans[c].atten
  snapped : ∀ c : Chan, rampInForce s c = 0 →
    t.chans[c].atten = rampGoal t c ∨ (rampGoal t c = rampGoal s c ∧ t.chans[c].atten = s.chans[c].atten)

namespace Remutes

theorem refl (s : State) : Remutes s s := ⟨fun _ => rfl, fun _ => rfl, rfl, fun _ _ => rfl, fun _ _ => .inr ⟨rfl, rfl⟩⟩

theorem inForce {s t : State} (h : Remutes s t) (c : Chan) : rampInForce t c = rampInForce s c := by
  have stop : t.stop = s.stop := (congrArg State.stop h.rest :)
  unfold rampInForce underStop
  rw [h.chans c, stop]

theorem trans {a b c : State} (h : Remutes a b) (h' : Remutes b c) : Remutes a c where
  chans d := by rw [h'.chans d, h.chans d]
  groups g := by rw [h'.groups g, h.groups g]
  rest := (congrArg (fun u : State => { u with chans := a.chans, groups := a.groups }) h'.rest).trans h.rest
  unsnapped d long := (h'.unsnapped d (by rwa [h.inForce])).trans (h.unsnapped d long)
  snapped d short := by
    rcases h'.snapped d (by rwa [h.inForce]) with goal | ⟨goal, still⟩
    · exact .inl goal
    · rcases h.snapped d short with goal' | ⟨goal', still'⟩
      · exact .inl (by rw [still, goal', goal])
      · exact .inr ⟨goal.trans goal', still.trans still'⟩

theorem foldl {α : Type} {f : State → α → State} (h : ∀ s a, Remutes s (f s a)) (l : List α) (s : State) : Remutes s (l.foldl f s) :=
  List.foldlRecOn (motive := Remutes s) l f (.refl s) fun t ht a _ => ht.trans (h t a)

/-- A ramp that responds once to written mutes. -/
theorem of_ramps {s t : State} (chans : ∀ c : Chan, ∃ own, t.chans[c] = { s.chans[c] with ownMute := own, atten := rampAfter s t c })
    (groups : ∀ g : Grp, t.groups[g] = { s.groups[g] with mute := t.groups[g].mute })
    (rest : { t with chans := s.chans, groups := s.groups } = s) : Remutes s t := by
  have read (c : Chan) : t.chans[c] = { s.chans[c] with ownMute := t.chans[c].ownMute, atten := t.chans[c].atten } ∧
      t.chans[c].atten = rampAfter s t c := by
    obtain ⟨own, eq⟩ := chans c
    rw [eq]
    exact ⟨rfl, rfl⟩
  have stop : t.stop = s.stop := (congrArg State.stop rest :)
  have force (c : Chan) : rampInForce t c = rampInForce s c := by
    unfold rampInForce underStop
    rw [(read c).1, stop]
  refine ⟨fun c => (read c).1, groups, rest, fun c long => ?_, fun c short => ?_⟩
  · rw [(read c).2, rampAfter, if_neg fun h => long ((force c).symm.trans h.2)]
  · rw [(read c).2, rampAfter]
    by_cases moved : (rampGoal s c ≠ rampGoal t c ∨ rampInForce s c ≠ rampInForce t c) ∧ rampInForce t c = 0
    · rw [if_pos moved]
      exact .inl rfl
    · rw [if_neg moved]
      refine .inr ⟨?_, rfl⟩
      by_contra other
      exact moved ⟨.inl (Ne.symm other), (force c).trans short⟩

theorem ownMute (c : Chan) (on : Bool) (s : State) : Remutes s (setOwnMute c on s) := by
  have only := setOwnMute_only c on s
  refine .of_ramps (fun d => ⟨_, getChan_setOwnMute c on s d⟩) (fun g => ?_) ?_
  · rw [only.groups]
  · exact (congrArg (fun u : State => { u with groups := s.groups }) only.rest :)

theorem groupMute (g : Grp) (on : Bool) (s : State) : Remutes s (setGroupMute g on s) := by
  obtain ⟨⟨groups, chans⟩, rest⟩ := setGroupMute_becomes g on s
  refine .of_ramps (fun d => ⟨_, chans d⟩) (fun h => ?_) rest
  have read : (setGroupMute g on s).groups[h] = if g = h then { s.groups[g] with mute := on } else s.groups[h] := by
    rw [groups]
    simp only [Fin.getElem_fin, Vector.getElem_set, Fin.ext_iff]
  rw [read]
  split
  · rename_i same
    subst same
    rfl
  · rfl

end Remutes

/-- The own mute that one recorded entry leaves. -/
def recallOne (s : State) (e : Chan × Int × Bool) : State := if s.chans[e.1].safe then s else setOwnMute e.1 e.2.2 s

theorem recallOne_remutes (s : State) (e : Chan × Int × Bool) : Remutes s (recallOne s e) := by
  unfold recallOne
  split
  · exact .refl s
  · exact .ownMute ..

/-- What the last entry of a list that satisfies p gives, else the value that stands. -/
def lastOr {α β : Type} (p : α → Bool) (f : α → β) (l : List α) (old : β) : β := ((l.filter p).getLast?.map f).getD old

theorem lastOr_cons {α β : Type} (p : α → Bool) (f : α → β) (a : α) (l : List α) (old : β) :
    lastOr p f (a :: l) old = lastOr p f l (if p a then f a else old) := by
  unfold lastOr
  cases h : p a with
  | false => rw [List.filter_cons_of_neg (by rw [h]; exact Bool.false_ne_true)]; rfl
  | true =>
    rw [List.filter_cons_of_pos h]
    cases l.filter p with
    | nil => rfl
    | cons b bs =>
      rw [List.getLast?_cons_cons, List.getLast?_cons]
      rfl

theorem recalledMute_eq (s : State) (es : List (Chan × Int × Bool)) (c : Chan) : recalledMute s es c =
    lastOr (fun e => !s.chans[e.1].safe && (unitChans s e.1).contains c) (fun e => e.2.2) es s.chans[c].ownMute := by
  unfold recalledMute lastOr
  cases (es.filter fun e => !s.chans[e.1].safe && (unitChans s e.1).contains c).getLast? <;> rfl

theorem recalledGroupMute_eq (s : State) (es : List (Grp × Int × Bool)) (g : Grp) : recalledGroupMute s es g =
    lastOr (fun e => e.1 == g) (fun e => e.2.2) es s.groups[g].mute := by
  unfold recalledGroupMute lastOr
  cases (es.filter fun e => e.1 == g).getLast? <;> rfl

theorem restoreMutes_own : ∀ (es : List (Chan × Int × Bool)) (s : State) (c : Chan),
    (restoreMutes es s).chans[c].ownMute = recalledMute s es c
  | [], _, _ => rfl
  | e :: es, s, c => by
    have one := recallOne_remutes s e
    have safe (d : Chan) : (recallOne s e).chans[d].safe = s.chans[d].safe := by rw [one.chans d]
    have units : unitChans (recallOne s e) = unitChans s := funext fun d => by
      have links : (recallOne s e).pairLinked = s.pairLinked := (congrArg State.pairLinked one.rest :)
      unfold unitChans isLinked
      rw [links]
    have own : (recallOne s e).chans[c].ownMute =
        if (!s.chans[e.1].safe && (unitChans s e.1).contains c) = true then e.2.2 else s.chans[c].ownMute := by
      unfold recallOne
      cases h : s.chans[e.1].safe with
      | true => simp
      | false =>
        rw [if_neg Bool.false_ne_true, getChan_setOwnMute]
        simp
    refine (restoreMutes_own es (recallOne s e) c).trans ?_
    rw [recalledMute_eq, recalledMute_eq, lastOr_cons, units, own]
    simp only [safe]

theorem restoreGroupMutes_own : ∀ (es : List (Grp × Int × Bool)) (s : State) (g : Grp),
    (restoreGroupMutes es s).groups[g].mute = recalledGroupMute s es g
  | [], _, _ => rfl
  | e :: es, s, g => by
    obtain ⟨⟨groups, -⟩, -⟩ := setGroupMute_becomes e.1 e.2.2 s
    have own : (setGroupMute e.1 e.2.2 s).groups[g].mute = if (e.1 == g) = true then e.2.2 else s.groups[g].mute := by
      rw [groups]
      simp only [Fin.getElem_fin, Vector.getElem_set, beq_iff_eq, Fin.ext_iff]
      split <;> rfl
    refine (restoreGroupMutes_own es (setGroupMute e.1 e.2.2 s) g).trans ?_
    rw [recalledGroupMute_eq, recalledGroupMute_eq, lastOr_cons, own]

theorem restoreMutes_remutes (es : List (Chan × Int × Bool)) (s : State) : Remutes s (restoreMutes es s) :=
  Remutes.foldl (f := recallOne) recallOne_remutes es s

theorem restoreGroupMutes_remutes (es : List (Grp × Int × Bool)) (s : State) : Remutes s (restoreGroupMutes es s) :=
  Remutes.foldl (f := fun t (e : Grp × Int × Bool) => setGroupMute e.1 e.2.2 t) (fun t e => .groupMute e.1 e.2.2 t) es s

theorem restoreMutes_only (es : List (Chan × Int × Bool)) (s : State) : OnlyChans s (restoreMutes es s) :=
  List.foldlRecOn (motive := OnlyChans s) es recallOne ⟨rfl⟩ fun t ht e _ => by
    unfold recallOne
    split
    · exact ht
    · exact ht.trans (setOwnMute_only ..)

theorem restoreGroupMutes_ownMute (es : List (Grp × Int × Bool)) (s : State) (c : Chan) :
    (restoreGroupMutes es s).chans[c].ownMute = s.chans[c].ownMute :=
  List.foldlRecOn (motive := fun t : State => t.chans[c].ownMute = s.chans[c].ownMute) es _ rfl fun t ht e _ => by
    obtain ⟨⟨-, chans⟩, -⟩ := setGroupMute_becomes e.1 e.2.2 t
    rw [chans c]
    exact ht

/-- Both kinds of recorded mutes return. -/
theorem mutes_return (r : RecallRecord) (s : State) :
    Remutes s (restoreGroupMutes r.groups (restoreMutes r.chans s)) ∧
    (∀ c : Chan, (restoreGroupMutes r.groups (restoreMutes r.chans s)).chans[c].ownMute = recalledMute s r.chans c) ∧
    ∀ g : Grp, (restoreGroupMutes r.groups (restoreMutes r.chans s)).groups[g].mute = recalledGroupMute s r.groups g := by
  refine ⟨(restoreMutes_remutes _ s).trans (restoreGroupMutes_remutes ..), fun c => ?_, fun g => ?_⟩
  · rw [restoreGroupMutes_ownMute, restoreMutes_own]
  · rw [restoreGroupMutes_own, recalledGroupMute_eq, recalledGroupMute_eq, (restoreMutes_only r.chans s).groups]

/-! ## Steps 1 to 4 (R111) -/

/-- The state in which step 2 of BACK begins: the record is popped, the timers are emptied. -/
def popped (rest : List RecallRecord) (s : State) : State :=
  updPlay (fun p => { p with recalls := rest, follow := none, endWatch := none }) s

/-- The state after step 4 of BACK. -/
def recalled (r : RecallRecord) (rest : List RecallRecord) (s : State) : State :=
  restoreGroupMutes r.groups (restoreMutes r.chans (cancelWhere (Move.ofFiring r.firing) .backed (popped rest s)))

/-- The retirements of step 2 of BACK. -/
def backed (f : Nat) (s : State) : List Retirement := (slotsWhere (Move.ofFiring f) s).filterMap (cancelledOf .backed s)

theorem frozen_mutes {s : State} {p : Slot → Bool} (c : Chan) : frozen s p c = { s.chans[c] with
    base := (frozen s p c).base, claim := (frozen s p c).claim } := by
  unfold frozen
  split
  · split <;> rfl
  · rfl

theorem frozenGroup_mute {s : State} {p : Slot → Bool} (g : Grp) : (frozenGroup s p g).mute = s.groups[g].mute := by
  unfold frozenGroup
  split
  · split <;> rfl
  · rfl

theorem recalled_recalls (r : RecallRecord) (rest : List RecallRecord) (s : State) : RecallsMutes r rest s (recalled r rest s) ∧
    (recalled r rest s).link = queueAll ((backed r.firing s).map Retirement.notice) s.link := by
  have cancels : Cancels (holds (Move.ofFiring r.firing) s) (backed r.firing s) (popped rest s)
      (cancelWhere (Move.ofFiring r.firing) .backed (popped rest s)) := cancelWhere_cancels _ _ (popped rest s)
  have frozenChans (c : Chan) : (cancelWhere (Move.ofFiring r.firing) .backed (popped rest s)).chans[c] =
      frozen s (holds (Move.ofFiring r.firing) s) c := cancels.chans c
  have frozenGroups (g : Grp) : (cancelWhere (Move.ofFiring r.firing) .backed (popped rest s)).groups[g] =
      frozenGroup s (holds (Move.ofFiring r.firing) s) g := cancels.groups g
  have play : (cancelWhere (Move.ofFiring r.firing) .backed (popped rest s)).play = (popped rest s).play := by
    rw [cancels.reports.play]
    exact afterReports_unwatched _ rfl
  have link : (cancelWhere (Move.ofFiring r.firing) .backed (popped rest s)).link
      = queueAll ((backed r.firing s).map Retirement.notice) s.link := cancels.reports.link
  have stop : (cancelWhere (Move.ofFiring r.firing) .backed (popped rest s)).stop = s.stop := (congrArg State.stop cancels.rest :)
  have links : (cancelWhere (Move.ofFiring r.firing) .backed (popped rest s)).pairLinked = s.pairLinked :=
    (congrArg State.pairLinked cancels.rest :)
  have kept := cancels.rest
  have moves := cancels.moves
  unfold recalled
  generalize cancelWhere (Move.ofFiring r.firing) .backed (popped rest s) = t at *
  obtain ⟨both, own, ownGroups⟩ := mutes_return r t
  generalize restoreGroupMutes r.groups (restoreMutes r.chans t) = b at *
  have ramp (c : Chan) : SameRamp s t c := by
    refine ⟨?_, ?_, ?_, ?_, fun g => ?_, stop⟩
    · rw [frozenChans, frozen_mutes]
    · rw [frozenChans, frozen_mutes]
    · rw [frozenChans, frozen_mutes]
    · rw [frozenChans, frozen_mutes]
    · rw [frozenGroups, frozenGroup_mute]
  have atten (c : Chan) : t.chans[c].atten = s.chans[c].atten := by rw [frozenChans, frozen_mutes]
  have sameMutes (c : Chan) : recalledMute t r.chans c = recalledMute s r.chans c := by
    have units : unitChans t = unitChans s := funext fun d => by
      unfold unitChans isLinked
      rw [links]
    have safe (d : Chan) : t.chans[d].safe = s.chans[d].safe := by rw [frozenChans, frozen_mutes]
    rw [recalledMute_eq, recalledMute_eq, units, (ramp c).own]
    simp only [safe]
  have sameGroups (g : Grp) : recalledGroupMute t r.groups g = recalledGroupMute s r.groups g := by
    rw [recalledGroupMute_eq, recalledGroupMute_eq, (ramp 0).mutes]
  have bPlay : b.play = t.play := (congrArg State.play both.rest :)
  have bLink : b.link = t.link := (congrArg State.link both.rest :)
  have bMoves : b.moves = t.moves := (congrArg State.moves both.rest :)
  refine ⟨⟨bPlay.trans play, fun k => ?_, fun c => ?_, fun c long => ?_, fun c short => ?_, fun g => ?_, ?_, ?_⟩, bLink.trans link⟩
  · rw [bMoves, moves]
    rfl
  · rw [← sameMutes, ← own, ← frozenChans]
    exact both.chans c
  · rw [both.unsnapped c (by rwa [(ramp c).inForce]), atten]
  · rcases both.snapped c (by rwa [(ramp c).inForce]) with goal | ⟨goal, still⟩
    · exact .inl goal
    · exact .inr ⟨goal.trans (ramp c).goal, still.trans (atten c)⟩
  · rw [← sameGroups, ← ownGroups, ← frozenGroups]
    exact both.groups g
  · rw [bLink, link, backed, notices_cancelled]
  · exact (congrArg (fun u : State => { u with
      play := s.play, moves := s.moves, chans := s.chans, groups := s.groups, link := s.link }) both.rest).trans
      (congrArg (fun u : State => { u with
      play := s.play, moves := s.moves, chans := s.chans, groups := s.groups, link := s.link }) kept)

/-! ## Steps 5 to 7 (R111) -/

theorem createBack_eq (kind : MoveKind) (pending : Pending) (firing : Nat) (acc : State × Nat) :
    createBack kind pending firing acc =
      ((createRecorded (recordedMove kind (.back firing) pending .db .linear .showTime acc.1.play.backTime) acc.1).1,
        acc.2 + if (createRecorded (recordedMove kind (.back firing) pending .db .linear .showTime acc.1.play.backTime) acc.1).2 = .noSlot
          then 1 else 0) := by
  unfold createBack
  show (match createRecorded (recordedMove kind (.back firing) pending .db .linear .showTime acc.1.play.backTime) acc.1 with
    | (s1, .noSlot) => (s1, acc.2 + 1)
    | (s1, _) => (s1, acc.2)) = _
  cases createRecorded (recordedMove kind (.back firing) pending .db .linear .showTime acc.1.play.backTime) acc.1 with
  | mk t made => cases made <;> rfl

theorem recordedMoves_append (ms ns : List Move) (s : State) : recordedMoves (ms ++ ns) s =
    ((recordedMoves ns (recordedMoves ms s).1).1, (recordedMoves ms s).2 + (recordedMoves ns (recordedMoves ms s).1).2) := by
  induction ms generalizing s with
  | nil => simp [recordedMoves]
  | cons m ms ih =>
    rw [List.cons_append, recordedMoves, ih]
    dsimp only [recordedMoves]
    rw [Nat.add_right_comm]

theorem recordedMoves_dropped : ∀ (ms : List Move) (s : State), (recordedMoves ms s).2 ≤ ms.length
  | [], _ => le_rfl
  | m :: ms, s => by
    have rest := recordedMoves_dropped ms (createRecorded m s).1
    dsimp only [recordedMoves]
    rw [List.length_cons]
    split <;> omega

theorem recordedMoves_retiring : ∀ (ms : List Move) (s : State), Retiring s (recordedMoves ms s).1
  | [], _ => .of_link rfl
  | m :: ms, s => (createRecorded_retiring m s).trans (recordedMoves_retiring ms _)

theorem recordedMoves_leads : ∀ (ms : List Move) (s : State), Leads s (recordedMoves ms s).1
  | [], s => .refl s
  | m :: ms, s => (Leads.createRecorded m s).trans (recordedMoves_leads ms _)

theorem recordedMoves_show : ∀ (ms : List Move) (s : State), KeepsShow s (recordedMoves ms s).1
  | [], s => .refl s
  | m :: ms, s => (createRecorded_show m s).trans (recordedMoves_show ms _)

/-- Without an end watch the playback stands, and no move of the firing appears. -/
theorem recordedMoves_plays {p : Playback} (unwatched : p.endWatch = none) {f : Nat} : ∀ (ms : List Move) {s : State},
    (∀ m ∈ ms, m.kind.isInstant = false ∧ m.ofFiring f = false) → Plays p (fun mv => mv.ofFiring f = false) s →
    Plays p (fun mv => mv.ofFiring f = false) (recordedMoves ms s).1
  | [], _, _, h => h
  | m :: ms, _, all, h => by
    have core : Core (fun mv => mv.ofFiring f = false) (Plays p fun mv => mv.ofFiring f = false) :=
      plays_core unwatched (fun mv old same fits => by
        have origin : mv.origin = old.origin := (congrArg Move.origin same :)
        unfold Move.ofFiring at fits ⊢
        rwa [origin]) (fun _ _ => rfl)
    obtain ⟨fades, fits⟩ := all m List.mem_cons_self
    exact recordedMoves_plays unwatched ms (fun m' mem => all m' (List.mem_cons_of_mem _ mem)) (core.createRecorded fades fits h)

theorem backGroups_eq (f : Nat) (bt : Nat) : ∀ (es : List (Grp × Int × Bool)) (acc : State × Nat), acc.1.play.backTime = bt →
    es.foldl (fun acc e => createBack .group (.groupTo e.1 e.2.1) f acc) acc =
      ((recordedMoves (es.map fun e => recordedMove .group (.back f) (.groupTo e.1 e.2.1) .db .linear .showTime bt) acc.1).1,
        acc.2 + (recordedMoves (es.map fun e => recordedMove .group (.back f) (.groupTo e.1 e.2.1) .db .linear .showTime bt) acc.1).2)
  | [], _, _ => rfl
  | e :: es, acc, same => by
    have made := createBack_eq .group (.groupTo e.1 e.2.1) f acc
    rw [same] at made
    rw [List.foldl_cons, made, List.map_cons]
    refine (backGroups_eq f bt es _ ?_).trans ?_
    · exact (createRecorded_show _ acc.1).backTime.trans same
    · dsimp only [recordedMoves]
      rw [Nat.add_right_comm, Nat.add_assoc]

/-- BACK's creations are those of the record's moves. -/
theorem backMoves_made {r : RecallRecord} {s b : State} (safe : ∀ c : Chan, b.chans[c].safe = s.chans[c].safe)
    (backTime : b.play.backTime = s.play.backTime) :
    backGroups r (backChannels r (b, 0)) = recordedMoves (backMoves s r) b := by
  have lanes : backLanes b r = (r.chans.filter fun e => !s.chans[e.1].safe).map fun e => (e.1, e.2.1) := by
    unfold backLanes
    simp only [safe]
  unfold backMoves backGroups backChannels
  dsimp only
  rw [lanes, recordedMoves_append]
  by_cases none : ((r.chans.filter fun e => !s.chans[e.1].safe).map fun e => (e.1, e.2.1)) = []
  · rw [if_pos none, if_pos none, backGroups_eq _ _ _ _ backTime]
    rfl
  · have made := createBack_eq .level (.lanes ((r.chans.filter fun e => !s.chans[e.1].safe).map fun e => (e.1, e.2.1))) r.firing (b, 0)
    rw [backTime] at made
    rw [if_neg none, if_neg none, made, backGroups_eq _ _ _ _ ((createRecorded_show _ b).backTime.trans backTime)]
    dsimp only [recordedMoves]

theorem backMoves_length (s : State) (r : RecallRecord) : (backMoves s r).length ≤ r.groups.length + 1 := by
  unfold backMoves
  dsimp only
  split <;> simp

theorem backMoves_back {s : State} {r : RecallRecord} {m : Move} (mem : m ∈ backMoves s r) (f : Nat) :
    m.kind.isInstant = false ∧ m.ofFiring f = false := by
  unfold backMoves at mem
  dsimp only at mem
  rcases List.mem_append.mp mem with lane | group
  · split at lane
    · cases lane
    · rw [List.mem_singleton.mp lane]
      exact ⟨rfl, rfl⟩
  · obtain ⟨e, -, rfl⟩ := List.mem_map.mp group
    exact ⟨rfl, rfl⟩

/-- The retirements of step 2 are those of the firing's moves. -/
theorem mem_backed {s : State} {f : Nat} {k : Slot} {mv : Move} (there : s.moves[k] = some mv) (own : mv.ofFiring f = true) :
    ⟨k, mv, .backed, s.clock.showTime⟩ ∈ backed f s := by
  refine List.mem_filterMap.mpr ⟨k, (mem_slotsWhere_holds _ s k).mpr ?_, ?_⟩
  · unfold holds
    rw [there]
    exact own
  · unfold cancelledOf
    rw [there]
    rfl

theorem lastOr_only {α β : Type} {p : α → Bool} {f : α → β} {l : List α} {a : α} {old : β} (mem : a ∈ l) (fits : p a = true)
    (only : ∀ b ∈ l, p b = true → b = a) : lastOr p f l old = f a := by
  have kept : a ∈ l.filter p := List.mem_filter.mpr ⟨mem, fits⟩
  unfold lastOr
  rw [List.getLast?_eq_some_getLast (List.ne_nil_of_mem kept)]
  obtain ⟨last, fits'⟩ := List.mem_filter.mp (List.getLast_mem (List.ne_nil_of_mem kept))
  exact congrArg f (only _ last fits')

/-- One recorded entry alone gives an unlinked channel its mute. -/
theorem recalledMute_only {s : State} {es : List (Chan × Int × Bool)} {c : Chan} {v : Int} {m : Bool} (mem : (c, v, m) ∈ es)
    (once : (es.map (·.1)).Nodup) (heeded : s.chans[c].safe = false) (single : s.pairLinked[pairOf c] = false) :
    recalledMute s es c = m := by
  have own : c ∈ unitChans s c := (Laws.mem_unitChans s c c).mpr (.inl rfl)
  rw [recalledMute_eq]
  refine lastOr_only mem (by simp [heeded, own, -Fin.getElem_fin]) fun e memE fits => ?_
  rw [Bool.and_eq_true, List.contains_iff_mem, Laws.mem_unitChans] at fits
  rcases fits.2 with same | ⟨linked, pair⟩
  · exact List.inj_on_of_nodup_map once memE mem same.symm
  · have samePair : pairOf e.1 = pairOf c := Fin.ext pair.symm
    have same : ∀ p q : PairId, p = q → s.pairLinked[p] = s.pairLinked[q] := fun p q h => by rw [h]
    exact absurd ((same _ _ samePair).symm.trans linked) (by rw [single]; exact Bool.false_ne_true)

theorem recalledGroupMute_only {s : State} {es : List (Grp × Int × Bool)} {g : Grp} {v : Int} {m : Bool} (mem : (g, v, m) ∈ es)
    (once : (es.map (·.1)).Nodup) : recalledGroupMute s es g = m := by
  rw [recalledGroupMute_eq]
  exact lastOr_only mem (by simp) fun e memE fits => List.inj_on_of_nodup_map once memE mem (by simpa using fits)

theorem recalledMute_none {s : State} {es : List (Chan × Int × Bool)} {c : Chan} (apart : ∀ e ∈ es, c ∉ unitChans s e.1) :
    recalledMute s es c = s.chans[c].ownMute := by
  have none : (es.filter fun e => !s.chans[e.1].safe && (unitChans s e.1).contains c) = [] :=
    List.filter_eq_nil_iff.mpr fun e mem => by simp [apart e mem]
  rw [recalledMute_eq, lastOr, none]
  rfl

/-! ## BACK -/

/-- The state after step 6 of BACK, with the number of creations that found no slot. -/
def created (r : RecallRecord) (rest : List RecallRecord) (s : State) : State × Nat :=
  recordedMoves (backMoves s r) (recalled r rest (opened s))

theorem inOneInstant_eq {α : Type} (steps : State → State × α) (s : State) : inOneInstant steps s =
    ({ (steps (opened s)).1 with link := closed s.link.instant.isSome (steps (opened s)).1.link }, (steps (opened s)).2) := by
  unfold inOneInstant
  simp only [closeInstant_eq]
  rfl

theorem undoFiring_eq (r : RecallRecord) (rest : List RecallRecord) (s : State) : undoFiring r rest s =
    ({ (created r rest s).1 with
        play := backStandby r (created r rest s).1.play
        link := closed s.link.instant.isSome (created r rest s).1.link },
      (created r rest s).2) := by
  have recalls := (recalled_recalls r rest (opened s)).1
  have made : backGroups r (backChannels r (recalled r rest (opened s), 0)) = created r rest s := by
    refine backMoves_made (s := s) (fun c => ?_) ?_
    · rw [recalls.chans c, frozen_mutes]
      rfl
    · rw [recalls.play]
      rfl
  have steps : backSteps r rest (opened s) = (updPlay (backStandby r) (created r rest s).1, (created r rest s).2) :=
    congrArg (fun m : State × Nat => (updPlay (backStandby r) m.1, m.2)) made
  unfold undoFiring
  rw [inOneInstant_eq, steps]
  rfl

theorem created_play (r : RecallRecord) (rest : List RecallRecord) (s : State) :
    Plays { s.play with recalls := rest, follow := none, endWatch := none } (fun mv => mv.ofFiring r.firing = false)
      (created r rest s).1 := by
  have recalls := (recalled_recalls r rest (opened s)).1
  refine recordedMoves_plays rfl _ (fun m mem => backMoves_back mem _) ⟨recalls.play, fun k mv there => ?_⟩
  rw [recalls.moves] at there
  unfold holds at there
  cases other : mv.ofFiring r.firing with
  | false => rfl
  | true =>
    exfalso
    cases before : (opened s).moves[k] with
    | none => rw [before] at there; cases there
    | some old =>
      rw [before] at there
      split at there
      · cases there
      · rename_i kept
        cases there
        exact kept other

/-- The notices of BACK's instant. -/
theorem created_queues (r : RecallRecord) (rest : List RecallRecord) {s : State} (quiet : s.link.instant = none) :
    ∃ rs : List Retirement, QueuesInstant [] rs s.link (closed false (created r rest s).1.link) ∧ ∀ q ∈ backed r.firing s, q ∈ rs := by
  have link := (recalled_recalls r rest (opened s)).2
  obtain ⟨made, said⟩ := (recordedMoves_retiring (backMoves s r) (recalled r rest (opened s))).link
  have opens : (opened s).link = { s.link with instant := some [] } := by
    show { s.link with instant := some (s.link.instant.getD []) } = _
    rw [quiet]
    rfl
  have inHand := ((InHand.start s.link).retireAll (backed r.firing s)).retireAll made
  obtain ⟨rs, queues, kept⟩ := inHand.closed quiet
  refine ⟨rs, ?_, fun q mem => kept q (.inr (.inl mem))⟩
  unfold created
  rw [said, link, opens]
  exact queues

/-- Settles O35: the record's mutes on the frozen records, then the creations toward its levels. -/
theorem backUndoesFiring : Obligations.BackUndoesFiring := by
  intro tag s idle
  have served : serve ⟨0x35, tag, []⟩ (received s) =
      if s.stop.active then refuse .locked (received s)
      else match s.play.recalls with
        | [] => refuse .empty (received s)
        | r :: rest => accept (u16 r.cue ++ u16 r.firing ++ u8 (undoFiring r rest (received s)).2
            ++ standbyField (undoFiring r rest (received s)).1.play.standby) (settle (undoFiring r rest (received s)).1) := rfl
  refine ⟨fun active => ?_, fun clear empty => ?_, fun r rest clear top => ?_⟩
  · rw [if_pos active] at served
    exact exec_idle rfl idle (by simp) served
  · rw [if_neg (by rw [clear]; exact Bool.false_ne_true), empty] at served
    exact exec_idle rfl idle (by simp) served
  · rw [if_neg (by rw [clear]; exact Bool.false_ne_true), top] at served
    have undone := undoFiring_eq r rest (received s)
    have recalls := (recalled_recalls r rest (opened (received s))).1
    have leads : Leads (recalled r rest (opened (received s))) (created r rest (received s)).1 := recordedMoves_leads _ _
    have plays := created_play r rest (received s)
    have show_ : KeepsShow (recalled r rest (opened (received s))) (created r rest (received s)).1 := recordedMoves_show _ _
    have kept := undoFiring_surface r rest (received s)
    have own (c : Chan) : (undoFiring r rest (received s)).1.chans[c].ownMute = recalledMute (received s) r.chans c := by
      rw [undone]
      refine (congrArg Channel.ownMute (leads.chans c) :).trans ?_
      rw [recalls.chans c]
      rfl
    have mute (g : Grp) : (undoFiring r rest (received s)).1.groups[g].mute = recalledGroupMute (received s) r.groups g := by
      rw [undone]
      refine (congrArg Group.mute (leads.groups g) :).trans ?_
      rw [recalls.groups g]
      rfl
    refine ⟨(undoFiring r rest (received s)).1, recalled r rest (opened (received s)), (created r rest (received s)).1,
      (created r rest (received s)).2, ?_, ?_, recalls, rfl, ?_, ?_, fun quiet => ?_, ?_, fun k mv there => ?_,
      fun c v m mem once heeded single => ?_, fun c apart => ?_, fun g v m mem once => ?_, ?_, kept⟩
    · have dropped : (undoFiring r rest (received s)).2 = (created r rest (received s)).2 := by rw [undone]
      refine exec_idle rfl idle (by simp) (served.trans ?_)
      rw [← dropped]
      rfl
    · exact (recordedMoves_dropped _ _).trans (backMoves_length _ _)
    · rw [undone]
    · rw [undone]
      rfl
    · obtain ⟨rs, queues, all⟩ := created_queues r rest (s := received s) quiet
      refine ⟨rs, ?_, fun k mv there own => all _ (mem_backed (s := received s) there own)⟩
      rw [undone]
      show QueuesInstant [] rs (received s).link (closed s.link.instant.isSome _)
      rw [quiet]
      exact queues
    · rw [undone]
      dsimp only
      rw [plays.play]
      have stored : (findCue r.cue s.play.store).isSome = true ↔ ∃ d ∈ s.play.store, d.number = r.cue := CueStore.findCue_isSome_iff
      exact congrArg (fun st : Option Nat => { s.play with recalls := rest, follow := none, endWatch := none, standby := st })
        (if_congr stored rfl rfl)
    · rw [undone] at there
      exact plays.moves k mv there
    · rw [own]
      exact recalledMute_only mem once heeded single
    · rw [own]
      exact recalledMute_none apart
    · rw [mute]
      exact recalledGroupMute_only mem once
    · rw [undone]
      refine show_.clock.trans ?_
      exact (congrArg State.clock recalls.rest :)

end Sys2Proof.BackUndo
end

section
/-! O40: LATCH RELEASE and hand-backs (R145, R146, R148). -/

namespace Sys2Proof.Takeover

open Sys2Proof Sys2Proof.Machine Sys2Proof.Codec Sys2Proof.Settings Sys2Proof.Removal Sys2Proof.WholeUnits Sys2Proof.MoveStarts

/-! ## Units (R31, R125) -/

theorem unitLower_eq (s : State) (c : Chan) : (unitLower s c).val = if s.pairLinked[pairOf c] = true then 2 * (c.val / 2) else c.val := by
  unfold unitLower isLinked
  split <;> rfl

theorem unitLower_idem (s : State) (c : Chan) : unitLower s (unitLower s c) = unitLower s c := by
  by_cases linked : s.pairLinked[pairOf c] = true
  · have here : unitLower s c = evenOf (pairOf c) := if_pos linked
    have pair : pairOf (evenOf (pairOf c)) = pairOf c := Fin.ext (show 2 * (c.val / 2) / 2 = c.val / 2 by omega)
    rw [here]
    unfold unitLower isLinked
    simp only [pair, linked, if_true]
  · have here : unitLower s c = c := if_neg linked
    rw [here, here]

theorem mem_unit_of_lower (s : State) (c : Chan) : c ∈ unitChans s (unitLower s c) := by
  rw [Laws.mem_unitChans]
  by_cases linked : s.pairLinked[pairOf c] = true
  · have here : unitLower s c = evenOf (pairOf c) := if_pos linked
    have pair : pairOf (evenOf (pairOf c)) = pairOf c := Fin.ext (show 2 * (c.val / 2) / 2 = c.val / 2 by omega)
    rw [here]
    refine .inr ⟨?_, show c.val / 2 = 2 * (c.val / 2) / 2 by omega⟩
    simp only [pair, linked]
  · exact .inl (if_neg linked : unitLower s c = c).symm

/-! ## Hand-backs (R145, R146) -/

/-- A unit's ownership and its notice. -/
theorem ownershipTo_eq (o : Ownership) (c : Chan) (cause : TakeoverCause) (s : State) : ownershipTo o c cause s =
    queueNotice (takeoverNotice s c o none cause s.chans[unitLower s c].base) (setOwnership c o s) := by
  have chans : (setOwnership c o s).chans = (ownershipTo o c cause s).chans := Vector.ext fun i h => by
    have read := getChan_setOwnership c o s ⟨i, h⟩
    refine read.trans ?_
    unfold ownershipTo
    rw [Vector.getElem_ofFn]
  have rest := (OnlyChans.updChans (fun ch => { ch with ownership := o, side := none, pickupStrip := none, balance := none })
    (unitChans s c) s).rest
  have link : (setOwnership c o s).link = s.link := (congrArg State.link rest :)
  unfold queueNotice
  rw [link, ← show { setOwnership c o s with chans := (setOwnership c o s).chans } = setOwnership c o s from rfl, chans]
  exact (congrArg (fun u : State => { u with
    chans := (ownershipTo o c cause s).chans
    link := s.link.queue (takeoverNotice s c o none cause s.chans[unitLower s c].base) }) rest).symm

theorem unitChans_congr {s t : State} (links : t.pairLinked = s.pairLinked) : unitChans t = unitChans s := funext fun c => by
  unfold unitChans isLinked
  rw [links]

theorem unitLower_congr {s t : State} (links : t.pairLinked = s.pairLinked) : unitLower t = unitLower s := funext fun c => by
  unfold unitLower isLinked
  rw [links]

section

variable (o : Ownership) (c : Chan) (cause : TakeoverCause) (s : State)

theorem getChan_ownershipTo (d : Chan) : (ownershipTo o c cause s).chans[d] =
    if d ∈ unitChans s c then { s.chans[d] with ownership := o, side := none, pickupStrip := none, balance := none }
    else s.chans[d] := by
  rw [ownershipTo_eq]
  exact getChan_setOwnership c o s d

theorem ownershipTo_links : (ownershipTo o c cause s).pairLinked = s.pairLinked := by
  unfold ownershipTo
  rfl

theorem ownershipTo_surf : (ownershipTo o c cause s).surf = s.surf := by
  unfold ownershipTo
  rfl

theorem ownershipTo_moves : (ownershipTo o c cause s).moves = s.moves := by
  unfold ownershipTo
  rfl

theorem glideLanes_ownershipTo : glideLanes (ownershipTo o c cause s) c = rejoinLanes s c := by
  have base (d : Chan) : (ownershipTo o c cause s).chans[d].base = s.chans[d].base := by
    rw [getChan_ownershipTo]
    split <;> rfl
  have cueLevel (d : Chan) : (ownershipTo o c cause s).chans[d].cueLevel = s.chans[d].cueLevel := by
    rw [getChan_ownershipTo]
    split <;> rfl
  unfold glideLanes rejoinLanes
  rw [unitChans_congr (ownershipTo_links o c cause s)]
  simp only [base, cueLevel]
  congr 2
  funext d
  rw [bne, decide_not]
  rfl

theorem glideMove_ownershipTo : glideMove (ownershipTo o c cause s) c = rejoinGlide s c := by
  unfold glideMove rejoinGlide recordedMove
  rw [glideLanes_ownershipTo, unitLower_congr (ownershipTo_links o c cause s), ownershipTo_surf]

theorem handBackGlide_eq : handBackGlide c cause s =
    if s.chans[c].policy = .glide then askGlide c (ownershipTo .auto c cause s) else (ownershipTo .auto c cause s, .notAsked) := by
  rw [ownershipTo_eq]
  unfold handBackGlide
  cases s.chans[c].policy <;> rfl

end

theorem createRecorded_hasSlot {s : State} {k : Slot} (free : s.moves[k] = none) (mv : Move) : (createRecorded mv s).2 ≠ .noSlot := by
  unfold createRecorded
  split
  · rename_i none
    exact absurd (List.find?_eq_none.mp none k (List.mem_finRange k)) (by simp [free])
  · dsimp only
    exact placedOutcome_ne_noSlot _ _

theorem askGlide_unasked {s : State} {c : Chan} (h : glideLanes s c = [] ∨ s.surf.glide = 0) : askGlide c s = (s, .notAsked) := if_pos h

theorem askGlide_full {s : State} {c : Chan} (lanes : glideLanes s c ≠ []) (time : s.surf.glide ≠ 0) (full : ∀ k : Slot, s.moves[k] ≠ none) :
    askGlide c s = (queueNotice (.rejoinDropped (unitLower s c)) s, .dropped) := by
  unfold askGlide
  rw [if_neg (by simp [lanes, time]), createRecorded_full _ full]

theorem askGlide_made {s : State} {c : Chan} (lanes : glideLanes s c ≠ []) (time : s.surf.glide ≠ 0) {k : Slot} (free : s.moves[k] = none) :
    askGlide c s = ((createRecorded (glideMove s c) s).1, .made) := by
  have slot := createRecorded_hasSlot free (glideMove s c)
  unfold askGlide
  rw [if_neg (by simp [lanes, time])]
  generalize createRecorded (glideMove s c) s = made at slot ⊢
  obtain ⟨t, m⟩ := made
  cases m with
  | noSlot => exact absurd rfl slot
  | _ => rfl

/-- A hand-back: under HOLD, or without a lane or a glide time, nothing more; else one rejoin glide, or the notice
that it found no slot. -/
theorem handBackGlide_rule (s : State) (c : Chan) (cause : TakeoverCause) :
    let auto := ownershipTo .auto c cause s
    let asked := s.chans[c].policy = .glide ∧ rejoinLanes s c ≠ [] ∧ s.surf.glide ≠ 0
    (¬ asked → handBackGlide c cause s = (auto, .notAsked)) ∧
    (asked → (∀ k : Slot, s.moves[k] ≠ none) →
      handBackGlide c cause s = ({ auto with link := auto.link.queue (.rejoinDropped (unitLower s c)) }, .dropped)) ∧
    (asked → ∀ k : Slot, s.moves[k] = none → handBackGlide c cause s = ((createRecorded (rejoinGlide s c) auto).1, .made)) := by
  have lanesEq := glideLanes_ownershipTo .auto c cause s
  have surf := ownershipTo_surf .auto c cause s
  have moves := ownershipTo_moves .auto c cause s
  have lower := unitLower_congr (ownershipTo_links .auto c cause s)
  have move := glideMove_ownershipTo .auto c cause s
  rw [handBackGlide_eq]
  intro auto asked
  refine ⟨fun no => ?_, fun ⟨policy, lanes, time⟩ full => ?_, fun ⟨policy, lanes, time⟩ k free => ?_⟩
  · by_cases policy : s.chans[c].policy = .glide
    · rw [if_pos policy]
      refine askGlide_unasked ?_
      rw [lanesEq, surf]
      by_contra other
      rw [not_or] at other
      exact no ⟨policy, other⟩
    · exact if_neg policy
  · rw [if_pos policy, askGlide_full (by rwa [lanesEq]) (by rwa [surf]) (by rw [moves]; exact full), lower]
    rfl
  · rw [if_pos policy, askGlide_made (by rwa [lanesEq]) (by rwa [surf]) (k := k) (by rw [moves]; exact free), move]

/-! ## LATCH RELEASE (R148) -/

/-- The units of a list are handed back to AUTO, and no other ownership changes. -/
theorem handBacks_owners : ∀ (cs : List Chan) (s : State) (d : Chan), (handBacks cs s).1.chans[d].ownership =
    if ∃ c ∈ cs, d ∈ unitChans s c then .auto else s.chans[d].ownership
  | [], s, d => by simp [handBacks]
  | c :: cs, s, d => by
    have units := unitChans_show (handBackGlide_show c .latchRelease s)
    refine (handBacks_owners cs (handBackGlide c .latchRelease s).1 d).trans ?_
    rw [units, handBackGlide_owners]
    by_cases later : ∃ c ∈ cs, d ∈ unitChans s c
    · obtain ⟨e, mem, unit⟩ := later
      rw [if_pos ⟨e, mem, unit⟩, if_pos ⟨e, List.mem_cons_of_mem _ mem, unit⟩]
    · rw [if_neg later]
      refine if_congr ⟨fun unit => ⟨c, List.mem_cons_self, unit⟩, fun ⟨e, mem, unit⟩ => ?_⟩ rfl rfl
      rcases List.mem_cons.mp mem with rfl | mem
      · exact unit
      · exact absurd ⟨e, mem, unit⟩ later

theorem handBacks_show : ∀ (cs : List Chan) (s : State), KeepsShow s (handBacks cs s).1
  | [], s => .refl s
  | c :: cs, s => (handBackGlide_show c .latchRelease s).trans (handBacks_show cs _)

theorem releaseUnits_eq (cs : List Chan) (s : State) : releaseUnits cs s =
    ⟨(handBacks cs s).1, cs.length, (handBacks cs s).2.1, (handBacks cs s).2.2⟩ := by
  have counted : ∀ (cs : List Chan) (acc : HandBacks), cs.foldl (fun acc c => releaseUnit c acc) acc =
      ⟨(handBacks cs acc.state).1, acc.units + cs.length, acc.made + (handBacks cs acc.state).2.1,
        acc.dropped + (handBacks cs acc.state).2.2⟩ := by
    intro cs
    induction cs with
    | nil => exact fun _ => rfl
    | cons c cs ih =>
      intro acc
      refine (ih _).trans ?_
      simp only [releaseUnit, handBacks, List.length_cons, HandBacks.mk.injEq, true_and]
      exact ⟨by omega, by omega, by omega⟩
  exact (counted cs _).trans (by simp)

/-- The LATCHED units by their lower channels reach the LATCHED channels and no other. -/
theorem mem_latched_unit {s : State} (law : UnitLaw s) (d : Chan) :
    (∃ c ∈ latchedUnits s, d ∈ unitChans s c) ↔ s.chans[d].ownership = .latched := by
  unfold latchedUnits
  constructor
  · rintro ⟨c, mem, unit⟩
    have latched : s.chans[c].ownership = .latched := by
      have both := (List.mem_filter.mp mem).2
      rw [Bool.and_eq_true] at both
      exact beq_iff_eq.mp both.2
    rw [ownership_of_shared (shared_of_unit unit law), latched]
  · intro latched
    have unit := mem_unit_of_lower s d
    refine ⟨unitLower s d, List.mem_filter.mpr ⟨List.mem_finRange _, ?_⟩, unit⟩
    rw [Bool.and_eq_true, beq_iff_eq, beq_iff_eq]
    exact ⟨unitLower_idem s d, (ownership_of_shared (shared_of_unit unit law)).symm.trans latched⟩

/-- LATCH RELEASE as it is served. -/
theorem reqLatchRelease_unit (c : Chan) (s : State) : reqLatchRelease (u8 c.val) s =
    if s.chans[c].ownership = .latched then acceptRelease (releaseUnits [c] s) else refuse .state s := by
  have value : (BitVec.ofNat 8 c.val : Byte).toNat = c.val := toNat_ofNat (by omega)
  have small := c.isLt
  show reqLatchRelease [BitVec.ofNat 8 c.val] s = _
  unfold reqLatchRelease
  simp only [value, asChan_ofNat]
  rw [if_neg (by omega)]

/-- Settles O40: one unit, every LATCHED unit, and what a hand-back creates. -/
theorem latchRelease : Obligations.LatchRelease := by
  refine ⟨fun tag s idle law => ⟨fun b low high => ?_, fun c other => ?_, fun c latched => ?_, ?_⟩, handBackGlide_rule⟩
  · refine exec_idle rfl idle (by simp) ?_
    show reqLatchRelease [b] (received s) = _
    have none : asChan b = none := dif_neg (by omega)
    unfold reqLatchRelease
    simp only [none]
    rw [if_neg (by omega)]
    rfl
  · exact exec_idle rfl idle (by simp [u8]) ((reqLatchRelease_unit c (received s)).trans (if_neg other))
  · refine ⟨(handBackGlide c .latchRelease (received s)).1, (handBackGlide c .latchRelease (received s)).2, rfl, ?_, fun d => ?_,
      handBackGlide_show ..⟩
    · refine exec_idle rfl idle (by simp [u8]) ((reqLatchRelease_unit c (received s)).trans ((if_pos latched).trans ?_))
      rw [releaseUnits_eq]
      simp only [handBacks, Nat.zero_add]
      rfl
    · exact handBackGlide_owners c .latchRelease (received s) d
  · refine ⟨(handBacks (latchedUnits s) (received s)).1, (handBacks (latchedUnits s) (received s)).2.1,
      (handBacks (latchedUnits s) (received s)).2.2, rfl, ?_, fun d => ?_, handBacks_show ..⟩
    · refine exec_idle rfl idle (by simp) ?_
      show acceptRelease (releaseUnits (latchedUnits (received s)) (received s)) = _
      rw [releaseUnits_eq]
      rfl
    · rw [handBacks_owners]
      exact if_congr (mem_latched_unit law d) rfl rfl

end Sys2Proof.Takeover
end

section
/-! O41: touches, position reports and releases of a unit (R139 to R144, R147). -/

namespace Sys2Proof.Takeover

open Sys2Proof Sys2Proof.Machine Sys2Proof.Codec Sys2Proof.Settings Sys2Proof.Removal Sys2Proof.WholeUnits Sys2Proof.MoveStarts

/-! ## A unit goes to TOUCHED (R139, R141, R147) -/

/-- What does not read the ownership: V and the claims' removal. -/
theorem getChan_owned (c : Chan) (o : Ownership) (s : State) (d : Chan) : (setOwnership c o s).chans[d] = { s.chans[d] with
    ownership := if d ∈ unitChans s c then o else s.chans[d].ownership
    side := if d ∈ unitChans s c then none else s.chans[d].side
    pickupStrip := if d ∈ unitChans s c then none else s.chans[d].pickupStrip
    balance := if d ∈ unitChans s c then none else s.chans[d].balance } := by
  rw [getChan_setOwnership]
  by_cases unit : d ∈ unitChans s c
  · simp only [if_pos unit]
  · simp only [if_neg unit]

theorem setOwnership_rest (c : Chan) (o : Ownership) (s : State) : { setOwnership c o s with chans := s.chans } = s :=
  (OnlyChans.updChans _ (unitChans s c) s).rest

theorem liveLevel_setOwnership (c : Chan) (o : Ownership) (n : Notice) (s : State) (d : Chan) :
    liveLevel (queueNotice n (setOwnership c o s)) d = liveLevel s d := by
  have rest := setOwnership_rest c o s
  have read : (queueNotice n (setOwnership c o s)).chans[d] = (setOwnership c o s).chans[d] := rfl
  refine liveLevel_congr ⟨(congrArg State.clock rest :), (congrArg State.taperA rest :), (congrArg State.taperB rest :)⟩ ?_ ?_ ?_
    fun cl _ => ?_
  · rw [read, getChan_owned]
  · rw [read, getChan_owned]
  · rw [read, getChan_owned]
  · exact congrArg (fun ms : Vector (Option Move) 48 => ms[cl.slot].map timing) (congrArg State.moves rest :)

/-- The removal of claims reads slots, moves and claims alone. -/
theorem afterRemoval_congr {s t : State} (moves : t.moves = s.moves) (claims : ∀ c : Chan, t.chans[c].claim = s.chans[c].claim)
    (cs : List Chan) (k : Slot) : afterRemoval t cs k = afterRemoval s cs k := by
  unfold afterRemoval
  simp only [moves, claims]

theorem goneWith_congr {s t w v : State} (reason : Reason) (moves : t.moves = s.moves) (clock : t.clock = s.clock) (left : v.moves = w.moves) :
    goneWith reason t v = goneWith reason s w := by
  unfold goneWith
  rw [moves, clock, left]

/-- The pair balance that a unit takes. -/
theorem recordBalance_eq (c : Chan) (s : State) :
    (∀ d : Chan, (recordBalance c s).chans[d] =
      if isLinked s c = true ∧ d ∈ unitChans s c then
        { s.chans[d] with balance := some (s.chans[oddOf (pairOf c)].base - s.chans[evenOf (pairOf c)].base) }
      else s.chans[d]) ∧
    { recordBalance c s with chans := s.chans } = s := by
  unfold recordBalance
  by_cases linked : isLinked s c = true
  · rw [if_pos linked]
    refine ⟨fun d => ?_, (OnlyChans.updChans _ (unitChans s c) s).rest⟩
    refine (getChan_updChans _ d (unitChans_nodup s c) s).trans (if_congr ?_ rfl rfl)
    simp [linked]
  · rw [if_neg linked]
    exact ⟨fun d => by simp [linked], rfl⟩

theorem takeTouched_goes (cause : TakeoverCause) (c : Chan) (s : State) : GoesTouched cause c s (takeTouched c cause s) := by
  have frame := takeTouched_show c cause s
  unfold takeTouched at frame ⊢
  dsimp only at frame ⊢
  have live := liveLevel_setOwnership c .touched (takeoverNotice s c .touched none cause (liveLevel s (unitLower s c))) s
  have owned (d : Chan) : (queueNotice (takeoverNotice s c .touched none cause (liveLevel s (unitLower s c)))
      (setOwnership c .touched s)).chans[d] = _ := getChan_owned c .touched s d
  have rest : { queueNotice (takeoverNotice s c .touched none cause (liveLevel s (unitLower s c))) (setOwnership c .touched s)
      with chans := s.chans, link := s.link } = s :=
    (congrArg (fun u : State => { u with link := s.link }) (setOwnership_rest c .touched s) :)
  have said : (queueNotice (takeoverNotice s c .touched none cause (liveLevel s (unitLower s c))) (setOwnership c .touched s)).link =
      s.link.queue (takeoverNotice s c .touched none cause (liveLevel s (unitLower s c))) := by
    have still : (setOwnership c .touched s).link = s.link := (congrArg State.link (setOwnership_rest c .touched s) :)
    rw [queueNotice, still]
  generalize queueNotice (takeoverNotice s c .touched none cause (liveLevel s (unitLower s c))) (setOwnership c .touched s) = t at *
  have moves : t.moves = s.moves := (congrArg State.moves rest :)
  have clock : t.clock = s.clock := (congrArg State.clock rest :)
  have groups : t.groups = s.groups := (congrArg State.groups rest :)
  have play : t.play = s.play := (congrArg State.play rest :)
  have links : t.pairLinked = s.pairLinked := (congrArg State.pairLinked rest :)
  have claims (d : Chan) : t.chans[d].claim = s.chans[d].claim := by rw [owned]
  have removes := removeClaims_removes (unitChans_nodup t c) t
  have kept := removeClaims_show (unitChans t c) t
  rw [unitChans_congr links] at removes kept frame ⊢
  generalize removeClaims (unitChans s c) t = r at *
  obtain ⟨balanced, only⟩ := recordBalance_eq c r
  have rLinks : r.pairLinked = s.pairLinked := kept.pairLinked.trans links
  have linkedIff : isLinked r c = isLinked s c := by unfold isLinked; rw [rLinks]
  rw [unitChans_congr rLinks, linkedIff] at balanced
  generalize recordBalance c r = w at *
  have wMoves : w.moves = r.moves := (congrArg State.moves only :)
  have inUnit {d : Chan} (unit : d ∈ unitChans s c) : r.chans[d] = { s.chans[d] with
      ownership := .touched, side := none, pickupStrip := none, balance := none, base := liveLevel s d, claim := none } := by
    rw [removes.chans, if_pos unit, live, owned]
    simp only [if_pos unit]
  refine ⟨fun d unit => ?_, fun d other => ?_, fun k => ?_, ?_, ⟨?_, ?_⟩, frame⟩
  · rw [balanced, inUnit unit]
    by_cases linked : isLinked s c = true
    · have both : unitChans s c = [evenOf (pairOf c), oddOf (pairOf c)] := if_pos linked
      rw [if_pos ⟨linked, unit⟩, if_pos linked, inUnit (by rw [both]; simp), inUnit (by rw [both]; simp)]
    · rw [if_neg fun h => linked h.1, if_neg linked]
  · rw [balanced, if_neg fun h => other h.2, removes.chans, if_neg other, owned]
    simp only [if_neg other]
  · rw [wMoves, removes.moves, afterRemoval_congr moves claims]
  · exact (congrArg State.groups only :).trans (removes.groups.trans groups)
  · refine (congrArg State.play only :).trans (removes.reports.play.trans ?_)
    rw [goneWith_congr .superseded moves clock wMoves.symm, play]
  · refine (congrArg State.link only :).trans (removes.reports.link.trans ?_)
    rw [goneWith_congr .superseded moves clock wMoves.symm, said]
    rfl

/-! ## Position reports (R141 to R143) -/

theorem writeFader_writes (c : Chan) (f : Int) (s : State) : WritesFader f c s (writeFader c f s) := by
  unfold writeFader
  refine ⟨fun single => ?_, fun linked => ?_⟩
  · rw [if_neg (by rw [single]; exact Bool.false_ne_true)]
    rfl
  · rw [if_pos linked]
    dsimp only
    have apart : evenOf (pairOf c) ≠ oddOf (pairOf c) := even_ne_odd _ _
    rcases even_or_odd c with even | odd
    · rw [if_pos even]
      refine ⟨fun d => ?_, rfl⟩
      rw [getChan_updChan, getChan_updChan]
      by_cases isOdd : oddOf (pairOf c) = d
      · have other : ¬ d = c := fun e => apart (even.symm.trans (e.symm.trans isOdd.symm))
        have notEven : evenOf (pairOf c) ≠ d := fun e => apart (e.trans isOdd.symm)
        rw [if_pos isOdd, if_neg notEven, if_neg other, if_pos isOdd.symm]
        rfl
      · rw [if_neg isOdd]
        by_cases isEven : evenOf (pairOf c) = d
        · rw [if_pos isEven, if_pos (isEven.symm.trans even.symm)]
        · rw [if_neg isEven, if_neg fun e : d = c => isEven (by rw [e]; exact even.symm), if_neg (Ne.symm isOdd), if_neg (Ne.symm isEven)]
    · have notEven : ¬ c = evenOf (pairOf c) := fun e => apart (e.symm.trans odd)
      rw [if_neg notEven]
      refine ⟨fun d => ?_, rfl⟩
      rw [getChan_updChan, getChan_updChan]
      by_cases isEven : evenOf (pairOf c) = d
      · have other : ¬ d = c := fun e => notEven (e.symm.trans isEven.symm)
        have notOdd : oddOf (pairOf c) ≠ d := fun e => apart (isEven.trans e.symm)
        rw [if_pos isEven, if_neg notOdd, if_neg other, if_neg (Ne.symm notOdd), if_pos isEven.symm]
        rfl
      · rw [if_neg isEven]
        by_cases isOdd : oddOf (pairOf c) = d
        · rw [if_pos isOdd, if_pos (isOdd.symm.trans odd.symm)]
        · rw [if_neg isOdd, if_neg fun e : d = c => isOdd (by rw [e]; exact odd.symm), if_neg (Ne.symm isOdd), if_neg (Ne.symm isEven)]

theorem crosses_iff (side : Option Side) (f v : Int) :
    crosses side f v = true ↔ (side = some .above ∧ f ≤ v) ∨ (side = some .below ∧ v ≤ f) := by
  unfold crosses
  rcases side with _ | _ | _ <;> simp

/-! ## Deliveries for a unit (R139 to R144, R147) -/

section

variable {s : State} {c : Chan} {i : StripId}

theorem deliverTouch_takes (takes : (s.chans[c].ownership = .auto ∧ (s.chans[c].mode ≠ .pickup ∨ faderLevel s i c = liveLevel s c))
    ∨ s.chans[c].ownership = .latched) : deliverTouch c i s = takeTouched c .touch s := by
  unfold deliverTouch
  rcases takes with ⟨auto, takes⟩ | latched
  · rw [auto]
    dsimp only
    cases mode : s.chans[c].mode with
    | touch => rfl
    | latch => rfl
    | pickup => exact if_pos (takes.resolve_left fun other => other mode)
  · rw [latched]

theorem deliverTouch_picksUp (auto : s.chans[c].ownership = .auto) (mode : s.chans[c].mode = .pickup)
    (away : faderLevel s i c ≠ liveLevel s c) :
    deliverTouch c i s = enterPickup c (if liveLevel s c < faderLevel s i c then .above else .below) i s := by
  unfold deliverTouch
  rw [auto]
  dsimp only
  rw [mode]
  dsimp only
  rw [if_neg away]
  split <;> rfl

theorem deliverTouch_held (held : s.chans[c].ownership = .pickup ∨ s.chans[c].ownership = .touched) : deliverTouch c i s = s := by
  unfold deliverTouch
  rcases held with held | held <;> rw [held]

theorem deliverPosition_touched (touched : s.chans[c].ownership = .touched) :
    deliverPosition c i s = writeFader c (faderLevel s i c) s := by
  unfold deliverPosition
  rw [touched]

theorem deliverPosition_pickup (pickup : s.chans[c].ownership = .pickup) : deliverPosition c i s =
    if s.chans[c].pickupStrip = some i then
      if crosses s.chans[c].side (faderLevel s i c) (liveLevel s c) then completeCrossing c i s else s
    else if faderLevel s i c = liveLevel s c then completeCrossing c i s
    else updChans (unitChans s c)
      (fun ch => { ch with
        side := some (if liveLevel s c < faderLevel s i c then Side.above else Side.below), pickupStrip := some i }) s := by
  unfold deliverPosition
  rw [pickup]

theorem deliverPosition_free (free : s.chans[c].ownership = .auto ∨ s.chans[c].ownership = .latched) : deliverPosition c i s = s := by
  unfold deliverPosition
  rcases free with free | free <;> rw [free]

/-- A unit enters PICKUP on a side. -/
theorem enterPickup_enters (side : Side) (auto : s.chans[c].ownership = .auto) :
    (∀ d : Chan, (enterPickup c side i s).chans[d] =
      if d ∈ unitChans s c then
        { s.chans[d] with ownership := .pickup, side := some side, pickupStrip := some i, balance := none }
      else s.chans[d]) ∧
    (enterPickup c side i s).link = s.link.queue (.takeover (unitLower s c) (isLinked s c) .auto .pickup (some side) .touch
      s.chans[unitLower s c].base s.chans[unitLower s c].cueLevel) ∧
    { enterPickup c side i s with chans := s.chans, link := s.link } = s := by
  have only := (OnlyChans.updChans (fun ch : Channel => { ch with
    ownership := .pickup, side := some side, pickupStrip := some i, balance := none }) (unitChans s c) s).rest
  refine ⟨fun d => getChan_updChans _ d (unitChans_nodup s c) s, ?_, (congrArg (fun u : State => { u with link := s.link }) only :)⟩
  rw [← auto]
  exact congrArg (Link.queue (takeoverNotice s c .pickup (some side) .touch s.chans[unitLower s c].base))
    (updChans_link ..)

theorem deliverRelease_rule : (s.chans[c].ownership = .pickup → deliverRelease c s = ownershipTo .auto c .release s) ∧
    (s.chans[c].ownership = .touched → s.chans[c].mode = .latch → deliverRelease c s = ownershipTo .latched c .release s) ∧
    (s.chans[c].ownership = .touched → s.chans[c].mode ≠ .latch → deliverRelease c s = (handBackGlide c .release s).1) ∧
    (s.chans[c].ownership = .auto ∨ s.chans[c].ownership = .latched → deliverRelease c s = s) := by
  rw [ownershipTo_eq, ownershipTo_eq]
  unfold deliverRelease
  refine ⟨fun pickup => ?_, fun touched mode => ?_, fun touched mode => ?_, fun free => ?_⟩
  · rw [pickup]
  · rw [touched]
    dsimp only
    rw [mode]
  · rw [touched]
    dsimp only
    cases kind : s.chans[c].mode with
    | latch => exact absurd kind mode
    | touch => rfl
    | pickup => rfl
  · rcases free with free | free <;> rw [free]

end

/-- Settles O41: by the unit's ownership, its mode and the side of its strip's fader. -/
theorem touchTakesUnit : Obligations.TouchTakesUnit := by
  refine ⟨fun s c i _ takes => ?_, fun s c i => ?_, fun s c i held => deliverTouch_held held, fun s c i touched => ?_,
    fun s c i _ pickup => ?_, fun s c i free => deliverPosition_free free, fun s c => deliverRelease_rule⟩
  · rw [deliverTouch_takes takes]
    exact takeTouched_goes .touch c s
  · intro fader side auto mode away w
    have enters := enterPickup_enters (i := i) side auto
    have picksUp : w = enterPickup c side i s := deliverTouch_picksUp auto mode away
    rw [← picksUp] at enters
    exact enters
  · rw [deliverPosition_touched touched]
    exact writeFader_writes c _ s
  · intro fader level crossed holder
    have reports := deliverPosition_pickup (i := i) pickup
    have crosses_here : crosses s.chans[c].side (faderLevel s i c) (liveLevel s c) = true ↔ crossed := crosses_iff ..
    refine ⟨fun completes => ⟨takeTouched c .crossing s, takeTouched_goes .crossing c s, ?_⟩, fun mine quiet => ?_, fun other away => ?_⟩
    · have crossing : deliverPosition c i s = completeCrossing c i s := by
        rw [reports]
        rcases completes with ⟨mine, crossing⟩ | ⟨other, at_⟩
        · rw [if_pos mine, if_pos (crosses_here.mpr crossing)]
        · rw [if_neg other, if_pos (show faderLevel s i c = liveLevel s c from at_)]
      rw [crossing]
      exact writeFader_writes c _ _
    · rw [reports, if_pos mine, if_neg fun h => quiet (crosses_here.mp h)]
    · rw [reports, if_neg other, if_neg (show ¬ faderLevel s i c = liveLevel s c from away)]
      exact ⟨fun d => getChan_updChans _ d (unitChans_nodup s c) s, (OnlyChans.updChans _ (unitChans s c) s).rest⟩

end Sys2Proof.Takeover
end

section
/-! SUPPORT. A module's reply: its positions (R122), its bytes (R118, R193), and the strip that supplies a unit (R125). -/

namespace Sys2Proof.ModuleReply

open Sys2Proof Sys2Proof.Machine Sys2Proof.Codec

/-! ## Positions (R122) -/

theorem rawToPosition_eq (e : CalEntry) (raw : Nat) : (rawToPosition e raw : Int) =
    max 0 (min 1024 ((((raw : Int) - e.min) * 1024 + ((e.max : Int) - e.min) / 2) / ((e.max : Int) - e.min))) := by
  unfold rawToPosition clampInt
  exact Int.toNat_of_nonneg (le_max_left _ _)

/-- Settles R122's rule of positions: a floor of a quotient with positive divisor. -/
theorem positionRule {e : CalEntry} (span : e.min < e.max) : PositionRule e := by
  have positive : 0 < (e.max : Int) - e.min := by omega
  refine ⟨fun raw => ?_, ⟨?_, ?_⟩, fun a b le => ?_⟩
  · rw [rawToPosition_eq, Int.fdiv_eq_ediv_of_nonneg _ positive.le, Int.fdiv_eq_ediv_of_nonneg _ (by decide)]
  · have value := rawToPosition_eq e e.min
    have zero : (((e.min : Int) - e.min) * 1024 + ((e.max : Int) - e.min) / 2) / ((e.max : Int) - e.min) = 0 :=
      Int.ediv_eq_zero_of_lt (by omega) (by omega)
    rw [zero] at value
    omega
  · have value := rawToPosition_eq e e.max
    have full : (((e.max : Int) - e.min) * 1024 + ((e.max : Int) - e.min) / 2) / ((e.max : Int) - e.min) = 1024 := by
      rw [Int.add_comm, Int.mul_comm, Int.add_mul_ediv_right _ _ positive.ne', Int.ediv_eq_zero_of_lt (by omega) (by omega)]
      rfl
    rw [full] at value
    omega
  · have low := rawToPosition_eq e a
    have high := rawToPosition_eq e b
    have rises : (((a : Int) - e.min) * 1024 + ((e.max : Int) - e.min) / 2) / ((e.max : Int) - e.min)
        ≤ (((b : Int) - e.min) * 1024 + ((e.max : Int) - e.min) / 2) / ((e.max : Int) - e.min) :=
      Int.ediv_le_ediv positive (by omega)
    omega

/-! ## The bytes of a reply (R118, R193) -/

theorem length_stripReports : ∀ bs : List Byte, (stripReports bs).length = bs.length / 3
  | [] => rfl
  | [_] => by simp [stripReports]
  | [_, _] => by simp [stripReports]
  | r0 :: r1 :: f :: bs => by
    rw [stripReports, List.length_cons, length_stripReports bs]
    simp only [List.length_cons]
    omega

theorem stripReports_get : ∀ (j : Nat) (bs : List Byte), 3 * j + 2 < bs.length → (stripReports bs)[j]? = some
    { raw := le16 (bs.getD (3 * j) 0) (bs.getD (3 * j + 1) 0)
      touch := (bs.getD (3 * j + 2) 0).getLsbD 0
      key := (bs.getD (3 * j + 2) 0).getLsbD 1 }
  | 0, r0 :: r1 :: f :: bs, _ => rfl
  | j + 1, r0 :: r1 :: f :: bs, within => by
    rw [stripReports, List.getElem?_cons_succ, stripReports_get j bs (by simp only [List.length_cons] at within; omega)]
    rfl
  | _, [], within => by simp at within
  | _, [_], within => by simp at within
  | _, [_, _], within => by simp at within

/-- The strip entries of the bytes of a reply. -/
def entriesOf (bytes : List Byte) : List Byte := ((bytes.drop 1).take 25).drop 1

theorem entriesOf_getD {bytes : List Byte} {j : Nat} (small : j < 24) : (entriesOf bytes).getD j 0 = bytes.getD (j + 2) 0 := by
  unfold entriesOf
  simp only [List.getD_eq_getElem?_getD, List.getElem?_drop, List.getElem?_take]
  rw [if_pos (by omega)]
  congr 2
  omega

theorem length_entriesOf {bytes : List Byte} (length : bytes.length = 28) : (entriesOf bytes).length = 24 := by
  unfold entriesOf
  simp [length]

/-- What the strips of a reply of full length say. -/
theorem reports_get {bytes : List Byte} (length : bytes.length = 28) (j : Fin 8) : (stripReports (entriesOf bytes))[j.val]? = some
    { raw := le16 (bytes.getD (2 + 3 * j.val) 0) (bytes.getD (3 + 3 * j.val) 0)
      touch := (bytes.getD (4 + 3 * j.val) 0).getLsbD 0
      key := (bytes.getD (4 + 3 * j.val) 0).getLsbD 1 } := by
  have small := j.isLt
  rw [stripReports_get j.val _ (by rw [length_entriesOf length]; omega), entriesOf_getD (by omega), entriesOf_getD (by omega),
    entriesOf_getD (by omega), show 3 * j.val + 2 = 2 + 3 * j.val by omega, show 3 * j.val + 1 + 2 = 3 + 3 * j.val by omega,
    show 2 + 3 * j.val + 2 = 4 + 3 * j.val by omega]

theorem length_reports {bytes : List Byte} (length : bytes.length = 28) : (stripReports (entriesOf bytes)).length = 8 := by
  rw [length_stripReports, length_entriesOf length]

/-- The checksum bytes are those that bring the sum to zero (R193). -/
theorem checksum_iff {bs : List Byte} {c0 c1 : Byte} : [c0, c1] = u16 (checksum bs) ↔ (byteSum bs + le16 c0 c1) % 65536 = 0 := by
  obtain ⟨small, zero⟩ := Laws.checksum_brings_zero bs
  have bound := le16_lt c0 c1
  have sum : byteSum bs < 65536 := Nat.mod_lt _ (by decide)
  rw [← u16_le16 c0 c1]
  constructor
  · intro same
    have value : le16 c0 c1 = checksum bs := by
      have read := congrArg (fun l : List Byte => le16 (l.getD 0 0) (l.getD 1 0)) same
      simp only [u16, List.getD_cons_zero, List.getD_cons_succ] at read
      rwa [le16_ofNat bound, le16_ofNat small] at read
    rw [value]
    exact zero
  · intro brings
    refine congrArg u16 ?_
    omega

theorem parseReply_eq (m : ModuleId) (bytes : List Byte) : parseReply m bytes =
    if bytes.length = 28 ∧ bytes.getD 0 0 = 0x3C ∧ ((bytes.drop 1).take 25).head? = some (BitVec.ofNat 8 (m.val + 1))
        ∧ (stripReports (entriesOf bytes)).all (fun r => decide (r.raw ≤ 1023)) = true
        ∧ (bytes.drop 1).drop 25 = u16 (checksum ((bytes.drop 1).take 25))
    then some (stripReports (entriesOf bytes)) else none := by
  cases bytes with
  | nil => simp [parseReply]
  | cons start rest =>
    unfold parseReply
    exact if_congr (by simp [entriesOf]) rfl rfl

section

variable {bytes : List Byte} (length : bytes.length = 28)

include length

theorem address_iff (m : ModuleId) : ((bytes.drop 1).take 25).head? = some (BitVec.ofNat 8 (m.val + 1)) ↔
    (bytes.getD 1 0).toNat = m.val + 1 := by
  have small := m.isLt
  have within : 1 < bytes.length := by omega
  have head : ((bytes.drop 1).take 25).head? = some (bytes.getD 1 0) := by
    rw [List.head?_take, if_neg (by decide), List.head?_drop, List.getD_eq_getElem?_getD, List.getElem?_eq_getElem within]
    rfl
  rw [head, Option.some_inj]
  constructor
  · intro same
    rw [same]
    exact toNat_ofNat (by omega)
  · intro value
    exact BitVec.eq_of_toNat_eq (value.trans (toNat_ofNat (by omega)).symm)

theorem raws_iff : (stripReports (entriesOf bytes)).all (fun r => decide (r.raw ≤ 1023)) = true ↔
    ∀ j : Fin 8, le16 (bytes.getD (2 + 3 * j.val) 0) (bytes.getD (3 + 3 * j.val) 0) ≤ 1023 := by
  rw [List.all_eq_true]
  constructor
  · intro all j
    exact of_decide_eq_true (all _ (List.mem_of_getElem? (reports_get length j)))
  · intro bound r mem
    obtain ⟨j, within, rfl⟩ := List.getElem_of_mem mem
    rw [length_reports length] at within
    have read := reports_get length ⟨j, within⟩
    rw [List.getElem?_eq_getElem (by rw [length_reports length]; exact within), Option.some_inj] at read
    rw [read]
    exact decide_eq_true (bound ⟨j, within⟩)

theorem check_iff : (bytes.drop 1).drop 25 = u16 (checksum ((bytes.drop 1).take 25)) ↔
    (byteSum ((bytes.drop 1).take 25) + le16 (bytes.getD 26 0) (bytes.getD 27 0)) % 65536 = 0 := by
  have tail : (bytes.drop 1).drop 25 = [bytes.getD 26 0, bytes.getD 27 0] := by
    rw [List.drop_drop, List.getD_eq_getElem?_getD, List.getD_eq_getElem?_getD, List.getElem?_eq_getElem (by omega),
      List.getElem?_eq_getElem (by omega), List.drop_eq_getElem_cons (by omega), List.drop_eq_getElem_cons (by omega),
      List.drop_eq_nil_of_le (by omega)]
    rfl
  rw [tail]
  exact checksum_iff

end

/-- R118's list of what makes a reply good, and what its strips say. -/
theorem replyRule (m : ModuleId) (bytes : List Byte) : ReplyRule m bytes := by
  refine ⟨?_, fun rs parsed => ?_⟩
  · rw [parseReply_eq, Option.isSome_ite]
    exact and_congr_right fun length => and_congr_right fun _ =>
      and_congr (address_iff length m) (and_congr (raws_iff length) (check_iff length))
  · rw [parseReply_eq] at parsed
    split at parsed
    · rename_i good
      cases parsed
      exact ⟨length_reports good.1, reports_get good.1⟩
    · cases parsed

theorem flags_read (touch key : Bool) :
    (BitVec.ofNat 8 ((if touch then 1 else 0) + (if key then 2 else 0)) : Byte).getLsbD 0 = touch ∧
    (BitVec.ofNat 8 ((if touch then 1 else 0) + (if key then 2 else 0)) : Byte).getLsbD 1 = key := by
  revert touch key
  decide

theorem stripReports_wires : ∀ {rs : List StripReport}, (∀ r ∈ rs, r.raw ≤ 1023) →
    stripReports (rs.flatMap StripReport.wire) = rs ∧ (rs.flatMap StripReport.wire).length = 3 * rs.length
  | [], _ => ⟨rfl, rfl⟩
  | r :: rs, bound => by
    obtain ⟨reads, count⟩ := stripReports_wires fun q mem => bound q (List.mem_cons_of_mem r mem)
    have raw : le16 (BitVec.ofNat 8 r.raw) (BitVec.ofNat 8 (r.raw / 256)) = r.raw :=
      le16_ofNat (by have := bound r List.mem_cons_self; omega)
    obtain ⟨touch, key⟩ := flags_read r.touch r.key
    rw [List.flatMap_cons]
    refine ⟨?_, ?_⟩
    · show (⟨le16 (BitVec.ofNat 8 r.raw) (BitVec.ofNat 8 (r.raw / 256)), _, _⟩ :: stripReports (rs.flatMap StripReport.wire) :
        List StripReport) = _
      rw [reads, raw, touch, key]
    · rw [List.length_append, count, List.length_cons]
      show 3 + _ = _
      omega

/-- The frame of a module's reports is read back as those reports. -/
theorem parseReply_frame (m : ModuleId) {rs : List StripReport} (length : rs.length = 8) (bound : ∀ r ∈ rs, r.raw ≤ 1023) :
    parseReply m (replyFrame m rs) = some rs := by
  obtain ⟨reads, count⟩ := stripReports_wires bound
  have coveredLength : (replyCovered m rs).length = 25 := by
    unfold replyCovered
    rw [List.length_append, count, length]
    rfl
  have tail : (replyFrame m rs).drop 1 = replyCovered m rs ++ u16 (checksum (replyCovered m rs)) := rfl
  have covered : ((replyFrame m rs).drop 1).take 25 = replyCovered m rs := by
    rw [tail, ← coveredLength, List.take_left]
  have entries : entriesOf (replyFrame m rs) = rs.flatMap StripReport.wire := by
    rw [entriesOf, covered]
    rfl
  rw [parseReply_eq, if_pos, entries, reads]
  refine ⟨?_, rfl, ?_, ?_, ?_⟩
  · show (replyCovered m rs ++ u16 _).length + 1 = 28
    rw [List.length_append, coveredLength]
    rfl
  · rw [covered]
    rfl
  · rw [entries, reads, List.all_eq_true]
    exact fun r mem => decide_eq_true (bound r mem)
  · rw [covered, tail, ← coveredLength, List.drop_left]

/-! ## The strip that supplies a unit (R125) -/

theorem unitTouched_iff (s : State) (c : Chan) : unitTouched s c = true ↔
    ∃ (i : StripId) (d : Chan), s.surf.strips[i].touch = true ∧ s.surf.strips[i].binding = some d ∧ d ∈ unitChans s c := by
  unfold unitTouched
  rw [List.any_eq_true]
  constructor
  · rintro ⟨i, -, touched⟩
    rw [Bool.and_eq_true] at touched
    obtain ⟨touch, bound⟩ := touched
    cases binding : s.surf.strips[i].binding with
    | none => rw [binding] at bound; cases bound
    | some d =>
      rw [binding] at bound
      exact ⟨i, d, touch, binding, List.contains_iff_mem.mp bound⟩
  · rintro ⟨i, d, touch, binding, unit⟩
    refine ⟨i, List.mem_finRange i, ?_⟩
    rw [touch, binding]
    exact List.contains_iff_mem.mpr unit

theorem touchedStripOf_some {s : State} {c : Chan} {i : StripId} (found : touchedStripOf s c = some i) :
    s.surf.strips[i].touch = true ∧ s.surf.strips[i].binding = some c := by
  have both := List.find?_some found
  rw [Bool.and_eq_true, beq_iff_eq] at both
  exact both

theorem touchedStripOf_none {s : State} {c : Chan} (absent : touchedStripOf s c = none) {i : StripId}
    (touch : s.surf.strips[i].touch = true) : s.surf.strips[i].binding ≠ some c := fun binding => by
  have never := List.find?_eq_none.mp absent i (List.mem_finRange i)
  rw [touch, binding] at never
  simp at never

/-- The supplying strip is touched and bound in the unit, to its lowest touched channel. -/
theorem supplyingStrip_lowest {s : State} {c : Chan} {i : StripId} (supplies : supplyingStrip s c = some i) :
    ∃ d ∈ unitChans s c, s.surf.strips[i].touch = true ∧ s.surf.strips[i].binding = some d ∧
      ∀ (j : StripId) (e : Chan), s.surf.strips[j].touch = true → s.surf.strips[j].binding = some e → e ∈ unitChans s c → d ≤ e := by
  unfold supplyingStrip at supplies
  unfold unitChans
  by_cases linked : isLinked s c = true
  · rw [if_pos linked] at supplies ⊢
    cases even : touchedStripOf s (evenOf (pairOf c)) with
    | some k =>
      rw [even] at supplies
      cases supplies
      obtain ⟨touch, binding⟩ := touchedStripOf_some even
      refine ⟨_, List.mem_cons_self, touch, binding, fun j e _ _ unit => ?_⟩
      rcases List.mem_cons.mp unit with rfl | unit
      · exact le_rfl
      · rw [List.mem_singleton.mp unit]
        show 2 * (c.val / 2) ≤ 2 * (c.val / 2) + 1
        omega
    | none =>
      rw [even] at supplies
      obtain ⟨touch, binding⟩ := touchedStripOf_some supplies
      refine ⟨_, List.mem_cons_of_mem _ List.mem_cons_self, touch, binding, fun j e touched bound unit => ?_⟩
      rcases List.mem_cons.mp unit with rfl | unit
      · exact absurd bound (touchedStripOf_none even touched)
      · rw [List.mem_singleton.mp unit]
  · rw [if_neg linked] at supplies ⊢
    obtain ⟨touch, binding⟩ := touchedStripOf_some supplies
    exact ⟨c, List.mem_singleton_self c, touch, binding, fun j e _ _ unit => (List.mem_singleton.mp unit).ge⟩

theorem supplyingStrip_isSome (s : State) (c : Chan) : (supplyingStrip s c).isSome = unitTouched s c := by
  rw [Bool.eq_iff_iff]
  constructor
  · intro some
    obtain ⟨i, supplies⟩ := Option.isSome_iff_exists.mp some
    obtain ⟨d, unit, touch, binding, -⟩ := supplyingStrip_lowest supplies
    exact (unitTouched_iff s c).mpr ⟨i, d, touch, binding, unit⟩
  · intro touched
    obtain ⟨i, d, touch, binding, unit⟩ := (unitTouched_iff s c).mp touched
    by_contra absent
    rw [Bool.not_eq_true, Option.isSome_eq_false_iff, Option.isNone_iff_eq_none] at absent
    unfold supplyingStrip at absent
    unfold unitChans at unit
    by_cases linked : isLinked s c = true
    · rw [if_pos linked] at absent unit
      cases even : touchedStripOf s (evenOf (pairOf c)) with
      | some k => rw [even] at absent; cases absent
      | none =>
        rw [even] at absent
        rcases List.mem_cons.mp unit with rfl | unit
        · exact touchedStripOf_none even touch binding
        · rw [List.mem_singleton.mp unit] at binding
          exact touchedStripOf_none absent touch binding
    · rw [if_neg linked] at absent unit
      rw [List.mem_singleton.mp unit] at binding
      exact touchedStripOf_none absent touch binding

end Sys2Proof.ModuleReply
end

section
/-! O43: a good reply (R118, R120 to R125, R131, R158, R160). -/

namespace Sys2Proof.ModuleReply

open Sys2Proof Sys2Proof.Machine Sys2Proof.Codec Sys2Proof.Settings Sys2Proof.SurfaceLayer Sys2Proof.Instants

/-! ## One strip (R121 to R125, R131) -/

theorem heeds_iff (s : State) (i : StripId) : heeds s i = true ↔ Heeds s i := by
  unfold heeds isCalibrating Heeds
  simp [-Fin.getElem_fin]

theorem qualifyTouch_armed {i : StripId} {s : State} (armed : s.surf.strips[i].armed = true) (touch : Bool) : qualifyTouch i touch s =
    if touch = s.surf.strips[i].touch then updStrip i (fun t => { t with counter := 0 }) s
    else if s.surf.qualify ≤ s.surf.strips[i].counter + 1 then deliverQualified i touch s
    else updStrip i (fun t => { t with counter := t.counter + 1 }) s :=
  if_neg (by simp [armed, -Fin.getElem_fin])

theorem qualifyTouch_disarmed {i : StripId} {s : State} (disarmed : s.surf.strips[i].armed = false) (touch : Bool) : qualifyTouch i touch s =
    if touch then s else updStrip i (fun t => { t with armed := true }) s :=
  if_pos (by simp [disarmed, -Fin.getElem_fin])

theorem qualifyTouch_qualifies (i : StripId) (touch : Bool) (s : State) : QualifiesTouch i touch s (qualifyTouch i touch s) where
  disarmed off on := by rw [qualifyTouch_disarmed off, if_pos on]
  arms off away := by
    rw [qualifyTouch_disarmed off, if_neg (by rw [away]; exact Bool.false_ne_true)]
    rfl
  agrees armed same := by
    rw [qualifyTouch_armed armed, if_pos same]
    rfl
  counts armed differs few := by
    rw [qualifyTouch_armed armed, if_neg differs, if_neg (by omega)]
    rfl
  qualifies armed differs enough := by
    refine ⟨updStrip i (fun t => { t with touch := touch, counter := 0 }) s, rfl, ?_⟩
    rw [qualifyTouch_armed armed, if_neg differs, if_pos enough]
    unfold deliverQualified
    refine ⟨fun blank => ?_, fun c bound => ?_⟩
    · rw [blank]
    · rw [bound]

theorem reportPosition_reports (i : StripId) (s : State) : ReportsPosition i s (reportPosition i s) where
  blank blank := by
    unfold reportPosition
    rw [blank]
  bound c bound := by
    unfold reportPosition
    rw [bound]

theorem takeKey_takes (i : StripId) (key : Bool) (a : State × List PairId) : TakesKey i key a (takeKey i key a) where
  pressed c bound down heeded clear fresh := by
    have toggles : takeKey i key a = (setOwnMute c (!a.1.chans[c].ownMute) a.1,
        if isLinked a.1 c then pairOf c :: a.2 else a.2) := by
      unfold takeKey
      rw [bound]
      dsimp only
      rw [if_pos (by simp [down, (heeds_iff _ _).mpr heeded, clear]), if_neg]
      rw [Bool.and_eq_true, List.contains_iff_mem]
      exact fresh
    rw [toggles]
    exact ⟨rfl, fun d => getChan_setOwnMute c _ a.1 d, (setOwnMute_only c _ a.1).rest⟩
  idle idle := by
    unfold takeKey
    split
    · rfl
    · rename_i c bound
      split
      · rename_i pressed
        simp only [Bool.and_eq_true, Bool.not_eq_true', heeds_iff] at pressed
        obtain ⟨⟨down, heeded⟩, clear⟩ := pressed
        rw [if_pos]
        rw [Bool.and_eq_true, List.contains_iff_mem]
        rcases idle c bound with up | unheeded | active | taken
        · rw [up] at down; cases down
        · exact absurd heeded unheeded
        · rw [active] at clear; cases clear
        · exact taken
      · rfl

theorem takeStrip_taken (i : StripId) (r : StripReport) (a : State × List PairId) : StripTaken i r a (takeStrip i r a) := by
  by_cases heeded : heeds (updStrip i (recordReport r) a.1) i = true
  · refine ⟨updStrip i (recordReport r) a.1, qualifyTouch i r.touch (updStrip i (recordReport r) a.1),
      reportPosition i (qualifyTouch i r.touch (updStrip i (recordReport r) a.1)), rfl,
      fun _ => ⟨qualifyTouch_qualifies .., reportPosition_reports ..⟩, fun unheeded => absurd ((heeds_iff _ _).mp heeded) unheeded, ?_⟩
    unfold takeStrip
    dsimp only
    rw [if_pos heeded]
    exact takeKey_takes ..
  · refine ⟨updStrip i (recordReport r) a.1, updStrip i (recordReport r) a.1, updStrip i (recordReport r) a.1, rfl,
      fun heeds => absurd ((heeds_iff _ _).mpr heeds) heeded, fun _ => rfl, ?_⟩
    unfold takeStrip
    dsimp only
    rw [if_neg heeded]
    exact takeKey_takes ..

theorem takeStrips_taken : ∀ (l : List (StripId × StripReport)) (a : State × List PairId),
    StripsTaken l a (l.foldl (fun acc x => takeStrip x.1 x.2 acc) a)
  | [], _ => rfl
  | x :: l, a => ⟨takeStrip x.1 x.2 a, takeStrip_taken .., takeStrips_taken l _⟩

/-! ## The notices of a reply -/

theorem takeTouched_says (c : Chan) (cause : TakeoverCause) (s : State) : Says s (takeTouched c cause s) := by
  have goes := Takeover.takeTouched_goes cause c s
  exact (Says.notice (.takeover (unitLower s c) (isLinked s c) s.chans[c].ownership .touched none cause
    (liveLevel s (unitLower s c)) s.chans[unitLower s c].cueLevel) s).trans (Retiring.of_reports goes.reports).says

theorem enterPickup_says (c : Chan) (side : Side) (i : StripId) (s : State) : Says s (enterPickup c side i s) :=
  Says.trans (b := updChans (unitChans s c) _ s) (.of_link (updChans_link ..)) (.notice _ _)

theorem writeFader_link (c : Chan) (f : Int) (s : State) : (writeFader c f s).link = s.link := by
  unfold writeFader
  split
  · dsimp only
    split <;> rfl
  · rfl

theorem deliverTouch_says (c : Chan) (i : StripId) (s : State) : Says s (deliverTouch c i s) := by
  unfold deliverTouch
  split
  · split
    · exact takeTouched_says ..
    · exact takeTouched_says ..
    · split
      · exact takeTouched_says ..
      · split
        · exact enterPickup_says ..
        · exact enterPickup_says ..
  · exact takeTouched_says ..
  · exact .of_link rfl
  · exact .of_link rfl

theorem deliverRelease_says (c : Chan) (s : State) : Says s (deliverRelease c s) := by
  have owns (o : Ownership) (n : Notice) : Says s (queueNotice n (setOwnership c o s)) :=
    .trans (b := setOwnership c o s) (.of_link (updChans_link ..)) (.notice n _)
  unfold deliverRelease
  split
  · exact owns _ _
  · split
    · exact owns _ _
    · exact handBackGlide_says ..
    · exact handBackGlide_says ..
  · exact .of_link rfl
  · exact .of_link rfl

theorem deliverPosition_says (c : Chan) (i : StripId) (s : State) : Says s (deliverPosition c i s) := by
  have crosses : Says s (completeCrossing c i s) := (takeTouched_says c .crossing s).trans (.of_link (writeFader_link ..))
  unfold deliverPosition
  split
  · exact .of_link (writeFader_link ..)
  · dsimp only
    split
    · split
      · exact crosses
      · exact .of_link rfl
    · split
      · exact crosses
      · exact .of_link (updChans_link ..)
  · exact .of_link rfl
  · exact .of_link rfl

theorem qualifyTouch_says (i : StripId) (touch : Bool) (s : State) : Says s (qualifyTouch i touch s) := by
  have writes (f : Strip → Strip) : Says s (updStrip i f s) := .of_link rfl
  unfold qualifyTouch deliverQualified
  dsimp only
  split
  · split
    · exact .of_link rfl
    · exact writes _
  · split
    · exact writes _
    · split
      · split
        · exact writes _
        · split
          · split
            · exact writes _
            · exact (writes _).trans (deliverTouch_says ..)
          · split
            · exact writes _
            · exact (writes _).trans (deliverRelease_says ..)
      · exact writes _

theorem takeStrip_says (i : StripId) (r : StripReport) (a : State × List PairId) : Says a.1 (takeStrip i r a).1 := by
  have reports (s : State) : Says s (reportPosition i s) := by
    unfold reportPosition
    split
    · exact .of_link rfl
    · split
      · exact deliverPosition_says ..
      · exact .of_link rfl
  have key (b : State × List PairId) : Says b.1 (takeKey i r.key b).1 := by
    unfold takeKey
    split
    · exact .of_link rfl
    · split
      · split
        · exact .of_link rfl
        · exact .of_link (setOwnMute_link ..)
      · exact .of_link rfl
  unfold takeStrip
  refine Says.trans ?_ (key _)
  refine Says.trans (b := updStrip i (recordReport r) a.1) (.of_link rfl) ?_
  dsimp only
  split
  · exact (qualifyTouch_says ..).trans (reports _)
  · exact .of_link rfl

theorem takeStrips_says : ∀ (l : List (StripId × StripReport)) (a : State × List PairId),
    Says a.1 (l.foldl (fun acc x => takeStrip x.1 x.2 acc) a).1
  | [], _ => .of_link rfl
  | x :: l, a => (takeStrip_says x.1 x.2 a).trans (takeStrips_says l _)

/-! ## What a reply leaves in its strips -/

/-- A strip after qualification with a count (R123, R124). -/
def qualified (qualify : Nat) (touch : Bool) (t : Strip) : Strip :=
  if t.armed = false then (if touch then t else { t with armed := true })
  else if touch = t.touch then { t with counter := 0 }
  else if qualify ≤ t.counter + 1 then { t with touch := touch, counter := 0 }
  else { t with counter := t.counter + 1 }

theorem qualifyTouch_surf (i : StripId) (touch : Bool) (s : State) :
    (qualifyTouch i touch s).surf = (updStrip i (qualified s.surf.qualify touch) s).surf := by
  have same (t : Strip) (eq : qualified s.surf.qualify touch s.surf.strips[i] = t) {w : State} (writes : w.surf = (updStrip i (fun _ => t) s).surf) :
      w.surf = (updStrip i (qualified s.surf.qualify touch) s).surf := by
    rw [writes, ← eq]
    rfl
  cases armed : s.surf.strips[i].armed with
  | false =>
    rw [qualifyTouch_disarmed armed]
    cases touch with
    | true =>
      rw [if_pos rfl]
      refine same s.surf.strips[i] (by unfold qualified; rw [if_pos armed]; rfl) ?_
      unfold updStrip updSurf
      simp
    | false =>
      rw [if_neg Bool.false_ne_true]
      exact same _ (by unfold qualified; rw [if_pos armed, if_neg Bool.false_ne_true]) rfl
  | true =>
    have on : ¬ s.surf.strips[i].armed = false := by rw [armed]; exact Bool.noConfusion
    rw [qualifyTouch_armed armed]
    by_cases agrees : touch = s.surf.strips[i].touch
    · rw [if_pos agrees]
      exact same _ (by unfold qualified; rw [if_neg on, if_pos agrees]) rfl
    · rw [if_neg agrees]
      by_cases enough : s.surf.qualify ≤ s.surf.strips[i].counter + 1
      · rw [if_pos enough]
        refine same _ (by unfold qualified; rw [if_neg on, if_neg agrees, if_pos enough]) ?_
        unfold deliverQualified
        dsimp only
        split
        · rfl
        · split
          · split
            · rfl
            · exact (deliverTouch_show ..).surf
          · split
            · rfl
            · exact (deliverRelease_show ..).surf
      · rw [if_neg enough]
        exact same _ (by unfold qualified; rw [if_neg on, if_neg agrees, if_neg enough]) rfl

/-- A strip after one report, by whether its module calibrates and by the count of qualification (R121 to R124). -/
def reported (calibrating : Bool) (qualify : Nat) (r : StripReport) (t : Strip) : Strip :=
  if calibrating = false ∧ t.cal.state ≠ .failed then qualified qualify r.touch (recordReport r t) else recordReport r t

theorem takeStrip_surf (i : StripId) (r : StripReport) (a : State × List PairId) : (takeStrip i r a).1.surf =
    (updStrip i (reported (isCalibrating a.1 (moduleOf i)) a.1.surf.qualify r) a.1).surf := by
  have key (b : State × List PairId) : (takeKey i r.key b).1.surf = b.1.surf := by
    unfold takeKey
    split
    · rfl
    · split
      · split
        · rfl
        · exact (setOwnMute_show ..).surf
      · rfl
  have report (s : State) : (reportPosition i s).surf = s.surf := by
    unfold reportPosition
    split
    · rfl
    · split
      · exact (deliverPosition_show ..).surf
      · rfl
  have heeded : heeds (updStrip i (recordReport r) a.1) i = true ↔
      isCalibrating a.1 (moduleOf i) = false ∧ a.1.surf.strips[i].cal.state ≠ .failed := by
    have strip : (updStrip i (recordReport r) a.1).surf.strips[i] = recordReport r a.1.surf.strips[i] := by
      rw [getStrip_updStrip, if_pos rfl]
    unfold heeds
    rw [strip, Bool.and_eq_true, Bool.not_eq_true', bne_iff_ne]
    rfl
  unfold takeStrip
  dsimp only
  rw [key]
  dsimp only
  by_cases heed : heeds (updStrip i (recordReport r) a.1) i = true
  · have both : reported (isCalibrating a.1 (moduleOf i)) a.1.surf.qualify r a.1.surf.strips[i] =
        qualified a.1.surf.qualify r.touch (recordReport r a.1.surf.strips[i]) := if_pos (heeded.mp heed)
    rw [if_pos heed, report, qualifyTouch_surf]
    unfold updStrip updSurf
    dsimp only
    rw [both]
    generalize recordReport r a.1.surf.strips[i] = t
    simp
  · have both : reported (isCalibrating a.1 (moduleOf i)) a.1.surf.qualify r a.1.surf.strips[i] =
        recordReport r a.1.surf.strips[i] := if_neg fun h => heed (heeded.mpr h)
    rw [if_neg heed]
    unfold updStrip updSurf
    dsimp only
    rw [both]

/-! ## Strips that are written with what stands beside them in a list -/

/-- From u to u' each strip of a list was written once with what stands beside it, and nothing else of the surface. -/
structure Writes {α : Type} (l : List (StripId × α)) (f : StripId → α → Strip → Strip) (u u' : Surface) : Prop
    extends SameButStrips u u' where
  written : ∀ x ∈ l, u'.strips[x.1] = f x.1 x.2 u.strips[x.1]
  others : ∀ j : StripId, j ∉ l.map (·.1) → u'.strips[j] = u.strips[j]

theorem getStrip_set (i j : StripId) (t : Strip) (u : Surface) :
    ({ u with strips := u.strips.set i t } : Surface).strips[j] = if i = j then t else u.strips[j] := by
  simp only [Fin.getElem_fin, Vector.getElem_set, Fin.ext_iff]

theorem Writes.of_foldl {σ α : Type} {surf : σ → Surface} {step : σ → StripId × α → σ} {f : StripId → α → Strip → Strip} :
    ∀ {l : List (StripId × α)} (_ : (l.map (·.1)).Nodup) {s : σ} (_ : ∀ (t : σ) (x : StripId × α), SameButStrips (surf s) (surf t) →
      surf (step t x) = { surf t with strips := (surf t).strips.set x.1 (f x.1 x.2 (surf t).strips[x.1]) }),
    Writes l f (surf s) (surf (l.foldl step s))
  | [], _, s, _ => ⟨⟨rfl⟩, fun _ mem => absurd mem List.not_mem_nil, fun _ _ => rfl⟩
  | x :: l, nodup, s, h => by
    obtain ⟨fresh, nodup⟩ := List.nodup_cons.mp nodup
    have first := h s x ⟨rfl⟩
    have settings : SameButStrips (surf s) (surf (step s x)) := ⟨by rw [first]⟩
    have later := Writes.of_foldl nodup (s := step s x) fun t y same => h t y (settings.trans same)
    refine ⟨settings.trans later.toSameButStrips, fun y mem => ?_, fun j away => ?_⟩
    · rcases List.mem_cons.mp mem with rfl | mem
      · rw [List.foldl_cons, later.others _ fresh, first, getStrip_set, if_pos rfl]
      · have other : x.1 ≠ y.1 := fun e => fresh (List.mem_map.mpr ⟨y, mem, e.symm⟩)
        rw [List.foldl_cons, later.written y mem, first, getStrip_set, if_neg other]
    · rw [List.map_cons, List.mem_cons, not_or] at away
      rw [List.foldl_cons, later.others j away.2, first, getStrip_set, if_neg (Ne.symm away.1)]

theorem map_fst_zip_sublist {α β : Type} : ∀ (l : List α) (as : List β), ((l.zip as).map (·.1)).Sublist l
  | [], _ => List.Sublist.slnil
  | _ :: _, [] => List.nil_sublist _
  | _ :: l, _ :: as => (map_fst_zip_sublist l as).cons_cons _

section

variable {α : Type} (m : ModuleId) (as : List α)

theorem zip_nodup : (((stripsOf m).zip as).map (·.1)).Nodup := (stripsOf_nodup m).sublist (map_fst_zip_sublist _ as)

theorem module_of_zip {x : StripId × α} (mem : x ∈ (stripsOf m).zip as) : moduleOf x.1 = m :=
  (mem_stripsOf m x.1).mp (List.of_mem_zip mem).1

theorem not_mem_zip {j : StripId} (other : moduleOf j ≠ m) : j ∉ ((stripsOf m).zip as).map (·.1) := fun mem => by
  obtain ⟨x, listed, rfl⟩ := List.mem_map.mp mem
  exact other (module_of_zip m as listed)

theorem mem_zip {as} {j : Fin 8} {a : α} (read : as[j.val]? = some a) : (stripAt m j, a) ∈ (stripsOf m).zip as := by
  refine List.mem_of_getElem? (i := j.val) (List.getElem?_zip_eq_some.mpr ⟨?_, read⟩)
  unfold stripsOf allFin
  simp

end

theorem isCalibrating_congr {s t : State} (same : SameButStrips s.surf t.surf) (m : ModuleId) : isCalibrating t m = isCalibrating s m := by
  have modules : t.surf.modules = s.surf.modules := (congrArg Surface.modules same.rest :)
  unfold isCalibrating
  rw [modules]

/-- The strips of a reply, each by its report. -/
theorem takeEach_writes (m : ModuleId) (rs : List StripReport) (s : State) :
    Writes ((stripsOf m).zip rs) (fun i r t => reported (isCalibrating s (moduleOf i)) s.surf.qualify r t) s.surf
      (takeEach m rs s).1.surf :=
  Writes.of_foldl (surf := fun a : State × List PairId => a.1.surf) (step := fun acc x => takeStrip x.1 x.2 acc) (zip_nodup m rs)
    (s := (s, [])) fun a x same => by
      have qualify : a.1.surf.qualify = s.surf.qualify := (congrArg Surface.qualify same.rest :)
      rw [takeStrip_surf, isCalibrating_congr same, qualify]
      rfl

/-! ## Samples (R157, R158, R160) -/

theorem evaluated_eq (lo hi : Nat) : evaluated lo hi = (judgeStrip lo hi, judgedEntry lo hi) := by
  have judged : judgeStrip lo hi = true ↔ lo ≤ 100 ∧ 900 ≤ hi ∧ lo + 800 ≤ hi := by
    unfold judgeStrip
    simp [and_assoc]
  unfold evaluated judgedEntry
  by_cases passes : lo ≤ 100 ∧ 900 ≤ hi ∧ lo + 800 ≤ hi
  · rw [if_pos passes, if_pos (judged.mpr passes), judged.mpr passes]
  · have fails : ¬ judgeStrip lo hi = true := fun h => passes (judged.mp h)
    have no : judgeStrip lo hi = false := by simpa using fails
    rw [if_neg passes, if_neg fails, no]

/-- The entries that an evaluation writes. -/
theorem evaluate_writes (m : ModuleId) (s : State) :
    Writes ((stripsOf m).zip (((s.surf.modules[m].candMin).getD []).zip ((s.surf.modules[m].candMax).getD [])))
      (fun _ c t => writeEntry (judgedEntry c.1 c.2) t) s.surf
      (((stripsOf m).zip (((s.surf.modules[m].candMin).getD []).zip ((s.surf.modules[m].candMax).getD []))).foldl
        (fun s x => updStrip x.1 (writeEntry (judgedEntry x.2.1 x.2.2)) s) s).surf :=
  Writes.of_foldl (surf := State.surf) (step := fun s (x : StripId × Nat × Nat) => updStrip x.1 (writeEntry (judgedEntry x.2.1 x.2.2)) s)
    (zip_nodup m _) fun _ _ _ => rfl

theorem with_surf {s t : State} (only : OnlySurf s t) (u : Surface) (l : Link) :
    ({ t with surf := u, link := l } : State) = { s with surf := u, link := l } :=
  congrArg (fun v : State => { v with surf := u, link := l }) only.rest

theorem evaluate_surf (m : ModuleId) (s : State) : ∃ t : Surface,
    Writes ((stripsOf m).zip (((s.surf.modules[m].candMin).getD []).zip ((s.surf.modules[m].candMax).getD [])))
      (fun _ c t => writeEntry (judgedEntry c.1 c.2) t) s.surf t ∧
    evaluate m s = { s with
      surf := { t with modules := s.surf.modules.set m (s.surf.modules[m].endCalibration) }
      link := s.link.queue (.calibrated m ((((s.surf.modules[m].candMin).getD []).zip ((s.surf.modules[m].candMax).getD [])).map fun x =>
        (judgeStrip x.1 x.2, (judgedEntry x.1 x.2).min, (judgedEntry x.1 x.2).max))) } := by
  have writes := evaluate_writes m s
  have only := OnlySurf.foldl (step := fun s (x : StripId × Nat × Nat) => updStrip x.1 (writeEntry (judgedEntry x.2.1 x.2.2)) s)
    (fun s x => .updSurf _ s) ((stripsOf m).zip (((s.surf.modules[m].candMin).getD []).zip ((s.surf.modules[m].candMax).getD []))) s
  unfold evaluate
  dsimp only
  generalize ((stripsOf m).zip (((s.surf.modules[m].candMin).getD []).zip ((s.surf.modules[m].candMax).getD []))).foldl
    (fun s x => updStrip x.1 (writeEntry (judgedEntry x.2.1 x.2.2)) s) s = t at *
  have modules : t.surf.modules = s.surf.modules := (congrArg Surface.modules writes.rest :)
  have link : t.link = s.link := (congrArg State.link only.rest :)
  refine ⟨t.surf, writes, ?_⟩
  unfold queueNotice updModule updSurf
  dsimp only
  rw [modules, link]
  exact with_surf only _ _

/-- The sampling reply of the high phase evaluates the module's candidates. -/
theorem evaluate_evaluates {m : ModuleId} {lows raws : List Nat} {s : State} (cands : s.surf.modules[m].candMin = some lows)
    (eight : lows.length = 8) (eight' : raws.length = 8) :
    Evaluates m lows raws s (evaluate m (updModule m (fun r => { r with candMax := some raws }) s)) := by
  obtain ⟨t, writes, eq⟩ := evaluate_surf m (updModule m (fun r => { r with candMax := some raws }) s)
  have here : (updModule m (fun r => { r with candMax := some raws }) s).surf.modules[m] = { s.surf.modules[m] with candMax := some raws } := by
    rw [getModule_updModule, if_pos rfl]
  have modules : (updModule m (fun r => { r with candMax := some raws }) s).surf.modules =
      s.surf.modules.set m { s.surf.modules[m] with candMax := some raws } := rfl
  rw [here, modules] at eq
  rw [here] at writes
  simp only [cands, Option.getD_some] at writes eq
  rw [eq]
  refine ⟨fun j => ?_, fun i other => writes.others i (not_mem_zip m _ other), ?_, ?_, rfl⟩
  · have lo : lows[j.val]? = some (lows.getD j.val 0) := by
      rw [List.getD_eq_getElem?_getD, List.getElem?_eq_getElem (by omega)]
      rfl
    have hi : raws[j.val]? = some (raws.getD j.val 0) := by
      rw [List.getD_eq_getElem?_getD, List.getElem?_eq_getElem (by omega)]
      rfl
    refine (writes.written (stripAt m j, (lows.getD j.val 0, raws.getD j.val 0)) (mem_zip m (List.getElem?_zip_eq_some.mpr ⟨lo, hi⟩))).trans ?_
    rw [evaluated_eq]
    rfl
  · have twice (a b : SurfaceModule) : (s.surf.modules.set m a).set m b = s.surf.modules.set m b := by simp
    rw [twice]
    exact (congrArg (fun u : Surface => { u with
      modules := s.surf.modules.set m { s.surf.modules[m] with phase := .none, driveTimer := none, candMin := none, candMax := none } })
      writes.rest :)
  · simp only [evaluated_eq]
    rfl

theorem takeSample_samples (m : ModuleId) (startedIn : CalPhase) (raws : List Nat) (s : State) :
    TakesSample m startedIn raws s (takeSample m startedIn raws s) where
  low phase began := by
    unfold takeSample
    rw [phase]
    exact if_pos began
  high lows phase began cands eight eight' := by
    unfold takeSample
    rw [phase]
    dsimp only
    rw [if_pos began]
    exact evaluate_evaluates cands eight eight'
  other away := by
    unfold takeSample
    cases phase : s.surf.modules[m].phase with
    | none => rfl
    | driveLow => rfl
    | driveHigh => rfl
    | sampleLow => exact if_neg fun began => away (.inl phase) (began.trans phase.symm)
    | sampleHigh => exact if_neg fun began => away (.inr phase) (began.trans phase.symm)

/-- What a sample leaves: the module stays as it is on the bus, a strip of it may take an entry, with its last position. -/
structure Sampled (m : ModuleId) (s w : State) : Prop where
  exchange : w.surf.exchange = s.surf.exchange
  module : w.surf.modules[m].online = s.surf.modules[m].online ∧ w.surf.modules[m].misses = s.surf.modules[m].misses ∧
    w.surf.modules[m].totalMisses = s.surf.modules[m].totalMisses
  modules : ∀ n : ModuleId, n ≠ m → w.surf.modules[n] = s.surf.modules[n]
  strips : ∀ i : StripId, w.surf.strips[i] = s.surf.strips[i] ∨ (moduleOf i = m ∧ ∃ e, w.surf.strips[i] = writeEntry e s.surf.strips[i])

theorem Sampled.refl (m : ModuleId) (s : State) : Sampled m s s := ⟨rfl, ⟨rfl, rfl, rfl⟩, fun _ _ => rfl, fun _ => .inl rfl⟩

theorem Sampled.trans {m : ModuleId} {a b c : State} (h : Sampled m a b) (h' : Sampled m b c) : Sampled m a c where
  exchange := h'.exchange.trans h.exchange
  module := ⟨h'.module.1.trans h.module.1, h'.module.2.1.trans h.module.2.1, h'.module.2.2.trans h.module.2.2⟩
  modules n other := (h'.modules n other).trans (h.modules n other)
  strips i := by
    rcases h'.strips i with same | ⟨own, e, wrote⟩
    · rw [same]
      exact h.strips i
    · rcases h.strips i with same' | ⟨-, e', wrote'⟩
      · exact .inr ⟨own, e, by rw [wrote, same']⟩
      · exact .inr ⟨own, e, by rw [wrote, wrote']; rfl⟩

theorem updModule_sampled {m : ModuleId} {f : SurfaceModule → SurfaceModule}
    (keeps : ∀ r, (f r).online = r.online ∧ (f r).misses = r.misses ∧ (f r).totalMisses = r.totalMisses) (s : State) :
    Sampled m s (updModule m f s) := by
  refine ⟨rfl, ?_, fun n other => ?_, fun _ => .inl rfl⟩
  · rw [getModule_updModule, if_pos rfl]
    exact keeps _
  · rw [getModule_updModule, if_neg (Ne.symm other)]

theorem evaluate_sampled (m : ModuleId) (s : State) : Sampled m s (evaluate m s) := by
  obtain ⟨t, writes, eq⟩ := evaluate_surf m s
  have module (n : ModuleId) : (evaluate m s).surf.modules[n] =
      if m = n then s.surf.modules[m].endCalibration else s.surf.modules[n] := by
    rw [eq]
    exact getModule_updModule m n SurfaceModule.endCalibration s
  have strips (i : StripId) : (evaluate m s).surf.strips[i] = t.strips[i] := by rw [eq]
  refine ⟨by rw [eq]; exact (congrArg Surface.exchange writes.rest :), ?_, fun n other => ?_, fun i => ?_⟩
  · rw [module, if_pos rfl]
    exact ⟨rfl, rfl, rfl⟩
  · rw [module, if_neg (Ne.symm other)]
  · rw [strips]
    by_cases listed : i ∈ ((stripsOf m).zip (((s.surf.modules[m].candMin).getD []).zip ((s.surf.modules[m].candMax).getD []))).map (·.1)
    · obtain ⟨x, mem, rfl⟩ := List.mem_map.mp listed
      exact .inr ⟨module_of_zip m _ mem, _, writes.written x mem⟩
    · exact .inl (writes.others i listed)

theorem takeSample_sampled (m : ModuleId) (startedIn : CalPhase) (raws : List Nat) (s : State) :
    Sampled m s (takeSample m startedIn raws s) := by
  unfold takeSample
  split
  · split
    · exact updModule_sampled (by intro _; exact ⟨rfl, rfl, rfl⟩) s
    · exact .refl m s
  · split
    · exact (updModule_sampled (by intro _; exact ⟨rfl, rfl, rfl⟩) s).trans (evaluate_sampled m _)
    · exact .refl m s
  · exact .refl m s
  · exact .refl m s
  · exact .refl m s

/-! ## A good reply -/

/-- The state in which the strips of a reply to the exchange x are taken. -/
def answeredBy (x : Exchange) (s : State) : State := { s with
  surf := { s.surf with
    exchange := none
    modules := s.surf.modules.set x.module { s.surf.modules[x.module] with online := true, misses := 0 } }
  link := if s.surf.modules[x.module].online then s.link
    else s.link.queue (.module x.module true .reply s.surf.modules[x.module].totalMisses) }

theorem answerModule_eq (x : Exchange) (s : State) : answerModule x.module (endExchange s) = answeredBy x s := by
  have here : (updModule x.module (fun r => { r with online := true, misses := 0 }) (endExchange s)).surf.modules[x.module] =
      { s.surf.modules[x.module] with online := true, misses := 0 } := by
    rw [getModule_updModule, if_pos rfl]
    rfl
  unfold answerModule answeredBy
  show (if s.surf.modules[x.module].online = true then _ else _) = _
  by_cases online : s.surf.modules[x.module].online = true
  · rw [if_pos online, if_pos online]
    rfl
  · rw [if_neg online, if_neg online]
    unfold moduleNotice
    rw [here]
    rfl

theorem answeredBy_instant (x : Exchange) (s : State) : (answeredBy x s).link.instant = s.link.instant := by
  show (if _ then s.link else s.link.queue _).instant = _
  split
  · rfl
  · rw [Link.queue_of_other _ rfl, Link.post_instant]

/-- The strips of the reply, before their instant ends. -/
def replied (x : Exchange) (rs : List StripReport) (s : State) : State × List PairId := takeEach x.module rs (opened (answeredBy x s))

theorem takeGoodReply_eq (x : Exchange) (rs : List StripReport) (s : State) : takeGoodReply x rs (endExchange s) =
    takeSample x.module x.phase (rs.map (·.raw))
      { (replied x rs s).1 with link := closed s.link.instant.isSome (replied x rs s).1.link } := by
  unfold takeGoodReply takeStrips
  rw [answerModule_eq, BackUndo.inOneInstant_eq, answeredBy_instant]
  rfl

theorem replied_queues (x : Exchange) (rs : List StripReport) {s : State} (quiet : s.link.instant = none) :
    ∃ (others : List Notice) (gone : List Retirement), QueuesInstant others gone (answeredBy x s).link (closed false (replied x rs s).1.link) := by
  have still : (answeredBy x s).link.instant = none := (answeredBy_instant x s).trans quiet
  obtain ⟨ns, said⟩ := (takeStrips_says ((stripsOf x.module).zip rs) (opened (answeredBy x s), [])).link
  have opens : (opened (answeredBy x s)).link = { (answeredBy x s).link with instant := some [] } := by
    show { (answeredBy x s).link with instant := some ((answeredBy x s).link.instant.getD []) } = _
    rw [still]
    rfl
  obtain ⟨others, inHand⟩ := InHand.sayAll ns (InHand.start (answeredBy x s).link)
  obtain ⟨gone, queues, -⟩ := inHand.closed still
  refine ⟨others, gone, ?_⟩
  have link : (replied x rs s).1.link = queueAll ns { (answeredBy x s).link with instant := some [] } := by
    rw [← opens]
    exact said
  rw [link]
  exact queues

theorem recordReport_reported (calibrating : Bool) (qualify : Nat) (r : StripReport) (t : Strip) :
    (reported calibrating qualify r t).lastRaw = r.raw ∧ (reported calibrating qualify r t).reported = r.touch ∧
    (reported calibrating qualify r t).lastPos = rawToPosition t.cal r.raw ∧ (reported calibrating qualify r t).binding = t.binding ∧
    (reported calibrating qualify r t).cal = t.cal := by
  have qualifies (t : Strip) : ∃ touch counter armed, qualified qualify r.touch t = { t with touch := touch, counter := counter, armed := armed } := by
    unfold qualified
    split
    · split
      · exact ⟨_, _, _, rfl⟩
      · exact ⟨_, _, _, rfl⟩
    · split
      · exact ⟨_, _, _, rfl⟩
      · split
        · exact ⟨_, _, _, rfl⟩
        · exact ⟨_, _, _, rfl⟩
  unfold reported
  split
  · obtain ⟨touch, counter, armed, eq⟩ := qualifies (recordReport r t)
    rw [eq]
    exact ⟨rfl, rfl, rfl, rfl, rfl⟩
  · exact ⟨rfl, rfl, rfl, rfl, rfl⟩

/-- A disarmed strip of a module that does not calibrate is armed by a report without touch (R123). -/
theorem reported_arms {qualify : Nat} {r : StripReport} {t : Strip} (off : t.armed = false) (passed : t.cal.state ≠ .failed) :
    (reported false qualify r t).armed = !r.touch ∧ (reported false qualify r t).touch = t.touch := by
  have heeded : reported false qualify r t = qualified qualify r.touch (recordReport r t) := if_pos ⟨rfl, passed⟩
  have arms : qualified qualify r.touch (recordReport r t) = if r.touch then recordReport r t else { recordReport r t with armed := true } :=
    if_pos off
  rw [heeded, arms]
  cases r.touch
  · exact ⟨rfl, rfl⟩
  · exact ⟨off, rfl⟩

/-- Settles O43: the module's answer, its strips within one instant, and the sample. -/
theorem goodReply : Obligations.GoodReply := by
  refine ⟨fun e span => positionRule span, replyRule, fun s bytes idle => ?_, fun s x rs listens polling length bound => ?_,
    fun s c => ⟨unitTouched_iff s c, supplyingStrip_isSome s c, fun i supplies => supplyingStrip_lowest supplies⟩⟩
  · refine congrArg (fun u => Host.Outcome.next (choose u)) (?_ : takeReply bytes s = s)
    unfold takeReply
    split
    · rfl
    · rename_i listens
      rcases idle with none | held
      · rw [none]
      · exact absurd held listens
  · intro r begun
    have taken : takeReply (replyFrame x.module rs) s = settle (takeGoodReply x rs (endExchange s)) := by
      unfold takeReply
      rw [if_neg (by rw [listens]; exact Bool.false_ne_true), polling]
      dsimp only
      rw [parseReply_frame x.module length bound]
    have eq := takeGoodReply_eq x rs s
    have sampled := takeSample_sampled x.module x.phase (rs.map (·.raw))
      { (replied x rs s).1 with link := closed s.link.instant.isSome (replied x rs s).1.link }
    have samples := takeSample_samples x.module x.phase (rs.map (·.raw))
      { (replied x rs s).1 with link := closed s.link.instant.isSome (replied x rs s).1.link }
    have clock := (endExchange_keepsClock s).trans (takeGoodReply_keepsClock x rs (endExchange s))
    rw [← eq] at sampled samples
    have writes := takeEach_writes x.module rs (opened (answeredBy x s))
    have modules : (replied x rs s).1.surf.modules = (answeredBy x s).surf.modules := (congrArg Surface.modules writes.rest :)
    have answers (n : ModuleId) : (replied x rs s).1.surf.modules[n] =
        if x.module = n then { s.surf.modules[x.module] with online := true, misses := 0 } else s.surf.modules[n] := by
      rw [modules]
      exact getModule_updModule x.module n (fun r => { r with online := true, misses := 0 }) s
    obtain ⟨online, misses, totalMisses⟩ := sampled.module
    have own : (replied x rs s).1.surf.modules[x.module] = { s.surf.modules[x.module] with online := true, misses := 0 } := by
      rw [answers, if_pos rfl]
    refine ⟨takeGoodReply x rs (endExchange s), (replied x rs s).1, (replied x rs s).2,
      congrArg (fun u => Host.Outcome.next (choose u)) taken, takeStrips_taken .., samples, fun quiet => replied_queues x rs quiet,
      ?_, ?_, ?_, ?_, fun m other => ?_, fun i other => ?_, fun j r read => ?_, clock⟩
    · exact sampled.exchange.trans (congrArg Surface.exchange writes.rest :)
    · exact online.trans (congrArg SurfaceModule.online own :)
    · exact misses.trans (congrArg SurfaceModule.misses own :)
    · exact totalMisses.trans (congrArg SurfaceModule.totalMisses own :)
    · refine (sampled.modules m other).trans ?_
      exact (answers m).trans (if_neg (Ne.symm other))
    · refine ((sampled.strips i).resolve_right fun h => other h.1).trans ?_
      exact writes.others i (not_mem_zip _ _ other)
    · intro i
      have wrote : (replied x rs s).1.surf.strips[i] = _ := writes.written (i, r) (mem_zip x.module read)
      obtain ⟨raw, reportedTouch, pos, binding, cal⟩ :=
        recordReport_reported (isCalibrating (opened (answeredBy x s)) (moduleOf i)) s.surf.qualify r s.surf.strips[i]
      have settled : ∃ e, (takeGoodReply x rs (endExchange s)).surf.strips[i] = writeEntry e (replied x rs s).1.surf.strips[i] ∨
          (takeGoodReply x rs (endExchange s)).surf.strips[i] = (replied x rs s).1.surf.strips[i] := by
        rcases sampled.strips i with same | ⟨-, e, entry⟩
        · exact ⟨s.surf.strips[i].cal, .inr same⟩
        · exact ⟨e, .inl entry⟩
      refine ⟨?_, ?_, ?_, ?_, fun quiet => ?_⟩
      · obtain ⟨e, entry | same⟩ := settled
        · rw [entry, wrote]; exact raw
        · rw [same, wrote]; exact raw
      · obtain ⟨e, entry | same⟩ := settled
        · rw [entry, wrote]; exact reportedTouch
        · rw [same, wrote]; exact reportedTouch
      · obtain ⟨e, entry | same⟩ := settled
        · rw [entry, wrote]; exact congrArg (rawToPosition e) raw
        · rw [same, wrote]; exact pos.trans (congrArg (fun e => rawToPosition e r.raw) cal.symm)
      · obtain ⟨e, entry | same⟩ := settled
        · rw [entry, wrote]; exact binding
        · rw [same, wrote]; exact binding
      · have phase : (replied x rs s).1.surf.modules[x.module].phase = .none := (congrArg SurfaceModule.phase own :).trans quiet
        have still : takeGoodReply x rs (endExchange s) =
            { (replied x rs s).1 with link := closed s.link.instant.isSome (replied x rs s).1.link } :=
          samples.other fun phased => by
            have here : ({ (replied x rs s).1 with link := closed s.link.instant.isSome (replied x rs s).1.link } : State).surf.modules[x.module].phase
              = .none := phase
            rw [here] at phased
            rcases phased with h | h <;> cases h
        have same : (takeGoodReply x rs (endExchange s)).surf.strips[i] = (replied x rs s).1.surf.strips[i] := by rw [still]
        have idle : isCalibrating (opened (answeredBy x s)) (moduleOf i) = false := by
          have module : moduleOf i = x.module := (mem_stripsOf x.module i).mp (List.mem_map_of_mem (List.mem_finRange j))
          have here : (opened (answeredBy x s)).surf.modules[x.module].phase = .none := by
            rw [← phase, modules]
            rfl
          unfold isCalibrating
          rw [module, here]
          rfl
        refine ⟨by rw [same, wrote]; exact cal, fun off passed => ?_⟩
        rw [same, wrote, idle]
        exact reported_arms (t := s.surf.strips[i]) off passed

end Sys2Proof.ModuleReply
end

section
/-! SURFACE CONFIG (R133): O37. A module goes OFFLINE, the exchange with it is discarded, and then the bindings are
recomputed; the releases that follow read no exchange, so they can be told from the state before it is discarded. -/

namespace Sys2Proof.SurfaceConfig

open Sys2Proof Sys2Proof.Machine Sys2Proof.Codec Sys2Proof.SurfaceLayer Sys2Proof.SurfaceRequests

/-! ## Steps that do not read the surface -/

/-- The state with another surface. -/
def withSurf (u : Surface) (s : State) : State := { s with surf := u }

section
variable (u : Surface) (s : State)

@[simp] theorem withSurf_surf : (withSurf u s).surf = u := rfl
@[simp] theorem withSurf_chans : (withSurf u s).chans = s.chans := rfl
@[simp] theorem withSurf_groups : (withSurf u s).groups = s.groups := rfl
@[simp] theorem withSurf_moves : (withSurf u s).moves = s.moves := rfl
@[simp] theorem withSurf_play : (withSurf u s).play = s.play := rfl

end

/-- A step that neither reads nor writes the surface: it commutes with an exchange of the surface. -/
def Blind (f : State → State) : Prop := ∀ (u : Surface) (s : State), f (withSurf u s) = withSurf u (f s)

theorem Blind.comp {f g : State → State} (hg : Blind g) (hf : Blind f) : Blind fun s => g (f s) :=
  fun u s => (congrArg g (hf u s)).trans (hg u (f s))

theorem Blind.foldl {α : Type} {step : State → α → State} (h : ∀ a, Blind fun s => step s a) :
    ∀ l : List α, Blind fun s => l.foldl step s
  | [], _, _ => rfl
  | a :: l, u, s => (congrArg (l.foldl step) (h a u s)).trans (Blind.foldl h l u (step s a))

theorem reportRetirement_blind (firing r : Nat) : Blind (reportRetirement firing r) := by
  intro u s
  unfold reportRetirement
  rw [withSurf_play]
  cases s.play.endWatch with
  | none => rfl
  | some w =>
    dsimp only
    split
    · unfold expireEndWatch
      dsimp only [updPlay]
      split <;> rfl
    · rfl

theorem retire_blind (k : Slot) (reason : Reason) (r : Nat) : Blind (retire k reason r) := by
  intro u s
  unfold retire
  rw [withSurf_moves]
  cases s.moves[k] with
  | none => rfl
  | some mv =>
    dsimp only
    cases mv.origin with
    | cue firing n =>
      dsimp only
      split
      · exact reportRetirement_blind firing r u (setSlot k none (queueNotice (.moveRetired k mv.kind (.cue firing n) reason) s))
      · rfl
    | _ => rfl

theorem updMove_blind (k : Slot) (f : Move → Move) : Blind (updMove k f) := by
  intro u s
  unfold updMove
  rw [withSurf_moves]
  cases s.moves[k] <;> rfl

theorem unclaimChan_blind (c : Chan) : Blind (unclaimChan c) := by
  intro u s
  unfold unclaimChan
  rw [withSurf_chans]
  cases s.chans[c].claim with
  | none => rfl
  | some cl => exact updMove_blind cl.slot _ u (updChan c (fun ch => { ch with base := liveLevel s c, claim := none }) s)

theorem unclaimGroup_blind (g : Grp) : Blind (unclaimGroup g) := by
  intro u s
  unfold unclaimGroup
  rw [withSurf_groups]
  cases s.groups[g].claim with
  | none => rfl
  | some cl => exact updMove_blind cl.slot _ u (updGroup g (fun gr => { gr with offset := liveOffset s g, claim := none }) s)

theorem mapChans_blind (f : Chan → Channel → Channel) : Blind (mapChans f) := by
  intro u s
  unfold mapChans
  rfl

theorem mapGroups_blind (f : Grp → Group → Group) : Blind (mapGroups f) := by
  intro u s
  unfold mapGroups
  rfl

theorem completeClaims_blind (k : Slot) : Blind (completeClaims k) := (mapGroups_blind _).comp (mapChans_blind _)

theorem completeMove_blind (k : Slot) : Blind (completeMove k) := by
  intro u s
  unfold completeMove
  rw [withSurf_moves]
  cases s.moves[k] with
  | none => rfl
  | some mv =>
    have instant : endInstant mv (withSurf u s) = endInstant mv s := by
      unfold endInstant
      cases mv.timeBase <;> rfl
    dsimp only
    rw [instant]
    exact (retire_blind k .completed (endInstant mv s)).comp (completeClaims_blind k) u s

theorem finishStart_blind (k : Slot) : Blind (finishStart k) := by
  intro u s
  unfold finishStart
  rw [withSurf_moves]
  cases s.moves[k] with
  | none => rfl
  | some mv =>
    dsimp only
    split
    · exact retire_blind k .empty s.clock.showTime u s
    · split
      · exact completeMove_blind k u s
      · rfl

theorem updChan_blind (c : Chan) (f : Channel → Channel) : Blind (updChan c f) := fun _ _ => rfl

theorem updGroup_blind (g : Grp) (f : Group → Group) : Blind (updGroup g f) := fun _ _ => rfl

theorem takeClaim_blind (k : Slot) (c : Chan) (start target : Int) : Blind (takeClaim k c start target) :=
  (updMove_blind k _).comp (updChan_blind c _)

theorem startLane_blind (k : Slot) (mv : Move) (c : Chan) (recorded : Option Int) : Blind (startLane k mv c recorded) := by
  intro u s
  unfold startLane
  rw [withSurf_chans]
  split
  · rfl
  · dsimp only
    split
    · rfl
    · exact (takeClaim_blind k c (liveLevel s c) (laneTarget mv recorded (liveLevel s c))).comp (unclaimChan_blind c) u s

theorem startGroup_blind (k : Slot) (mv : Move) (g : Grp) (recorded : Option Int) : Blind (startGroup k mv g recorded) := by
  intro u s
  unfold startGroup
  exact ((updMove_blind k _).comp (updGroup_blind g _)).comp (unclaimGroup_blind g) u s

theorem startPending_blind (k : Slot) (mv : Move) : Blind (startPending k mv) := by
  unfold startPending
  cases mv.pending with
  | chans cs => exact .foldl (fun c => startLane_blind k mv c none) cs
  | lanes ls => exact .foldl (fun l => startLane_blind k mv l.1 (some l.2)) ls
  | group g => exact startGroup_blind k mv g none
  | groupTo g t => exact startGroup_blind k mv g (some t)

theorem sweepStart_blind (k : Slot) (stolen : List Slot) : Blind (sweepStart k stolen) := by
  refine .foldl (fun j u s => ?_) (allFin 48)
  have emptied : isEmptied j (withSurf u s) = isEmptied j s := rfl
  dsimp only
  rw [emptied]
  split
  · exact finishStart_blind k u s
  · split
    · exact retire_blind j .superseded s.clock.showTime u s
    · rfl

theorem startFading_blind (k : Slot) (start : Nat) : Blind (startFading k start) := by
  intro u s
  have same (p : Pending) (v : State) : pendingClaimants (withSurf u v) p = pendingClaimants v p := by cases p <;> rfl
  unfold startFading
  rw [withSurf_moves]
  cases s.moves[k] with
  | none => rfl
  | some mv =>
    dsimp only
    show sweepStart k (pendingClaimants (withSurf u (setSlot k _ s)) mv.pending) (startPending k mv (withSurf u (setSlot k _ s))) = _
    rw [same, startPending_blind]
    exact sweepStart_blind k _ u _

theorem createRecorded_blind (mv : Move) (u : Surface) (s : State) :
    createRecorded mv (withSurf u s) = (withSurf u (createRecorded mv s).1, (createRecorded mv s).2) := by
  have free : freeSlot (withSurf u s) = freeSlot s := rfl
  unfold createRecorded
  rw [free]
  cases freeSlot s with
  | none => rfl
  | some k =>
    have started := startFading_blind k (nowIn mv.timeBase s) u (placeMove k mv (nowIn mv.timeBase s) s)
    dsimp only
    show (startFading k (nowIn mv.timeBase s) (withSurf u (placeMove k mv (nowIn mv.timeBase s) s)),
      placedOutcome k (startFading k (nowIn mv.timeBase s) (withSurf u (placeMove k mv (nowIn mv.timeBase s) s)))) = _
    rw [started]
    rfl

/-! ## The hand-back, which reads the glide time alone -/

theorem askGlide_blind (c : Chan) {u : Surface} {s : State} (glide : u.glide = s.surf.glide) :
    (askGlide c (withSurf u s)).1 = withSurf u (askGlide c s).1 := by
  have lanes : glideLanes (withSurf u s) c = glideLanes s c := rfl
  have move : glideMove (withSurf u s) c = glideMove s c :=
    congrArg (fun d => ({ glideMove s c with duration := d } : Move)) glide
  unfold askGlide
  rw [lanes, move, createRecorded_blind, withSurf_surf, glide]
  split
  · rfl
  · cases created : createRecorded (glideMove s c) s with
    | mk w outcome => cases outcome <;> rfl

theorem takeoverNotice_blind (u : Surface) (s : State) (c : Chan) (after : Ownership) (side : Option Side) (cause : TakeoverCause)
    (b : Int) : takeoverNotice (withSurf u s) c after side cause b = takeoverNotice s c after side cause b := rfl

theorem queueNotice_blind (n : Notice) : Blind (queueNotice n) := fun _ _ => rfl

theorem setOwnership_blind (c : Chan) (o : Ownership) : Blind (setOwnership c o) := by
  intro u s
  unfold setOwnership updChans
  exact Blind.foldl (fun d => updChan_blind d _) (unitChans s c) u s

theorem handBack_blind (c : Chan) (cause : TakeoverCause) {u : Surface} {s : State} (glide : u.glide = s.surf.glide) :
    handBack c cause (withSurf u s) = withSurf u (handBack c cause s) := by
  unfold handBack handBackGlide
  rw [withSurf_chans, takeoverNotice_blind, setOwnership_blind]
  cases s.chans[c].policy with
  | hold => rfl
  | glide =>
    exact askGlide_blind c (s := queueNotice (takeoverNotice s c .auto none cause s.chans[unitLower s c].base) (setOwnership c .auto s))
      (glide.trans (congrArg Surface.glide (setOwnership_show c .auto s).surf.symm))

theorem deliverRelease_blind (c : Chan) {u : Surface} {s : State} (glide : u.glide = s.surf.glide) :
    deliverRelease c (withSurf u s) = withSurf u (deliverRelease c s) := by
  unfold deliverRelease
  rw [withSurf_chans]
  cases s.chans[c].ownership with
  | auto => rfl
  | latched => rfl
  | pickup => exact (queueNotice_blind _).comp (setOwnership_blind c .auto) u s
  | touched =>
    dsimp only
    cases s.chans[c].mode with
    | latch => exact (queueNotice_blind _).comp (setOwnership_blind c .latched) u s
    | touch => exact handBack_blind c .release glide
    | pickup => exact handBack_blind c .release glide

/-! ## The exchange in progress, which a rebinding does not read (R127) -/

/-- The state with another exchange in progress. -/
def withExchange (e : Option Exchange) (s : State) : State := withSurf { s.surf with exchange := e } s

theorem dropTouch_exchange (e : Option Exchange) (i : StripId) (s : State) :
    dropTouch i (withExchange e s) = withExchange e (dropTouch i s) := by
  have drops (t : State) (touched : t.surf.strips[i].touch = true) : dropTouch i t = (match t.surf.strips[i].binding with
      | some c => if unitTouched (updStrip i untouched t) c then updStrip i untouched t else deliverRelease c (updStrip i untouched t)
      | none => updStrip i untouched t) := if_pos touched
  cases touched : s.surf.strips[i].touch with
  | false =>
    rw [dropTouch_idle touched, dropTouch_idle (s := withExchange e s) touched]
    rfl
  | true =>
    rw [drops s touched, drops (withExchange e s) touched, show (withExchange e s).surf.strips = s.surf.strips from rfl]
    cases s.surf.strips[i].binding with
    | none => rfl
    | some c =>
      have held : unitTouched (updStrip i untouched (withExchange e s)) c = unitTouched (updStrip i untouched s) c := rfl
      dsimp only
      rw [held]
      split
      · rfl
      · refine (deliverRelease_blind c (u := { s.surf with
          strips := s.surf.strips.set i (untouched s.surf.strips[i]), exchange := e }) (s := updStrip i untouched s) rfl).trans ?_
        unfold withExchange
        rw [(deliverRelease_show c _).surf]
        rfl

theorem foldl_exchange {α : Type} {step : State → α → State} (e : Option Exchange)
    (h : ∀ s a, step (withExchange e s) a = withExchange e (step s a)) : ∀ (l : List α) (s : State),
    l.foldl step (withExchange e s) = withExchange e (l.foldl step s)
  | [], _ => rfl
  | a :: l, s => (congrArg (l.foldl step) (h s a)).trans (foldl_exchange e h l (step s a))

theorem rebind_exchange (e : Option Exchange) (s : State) : rebind (withExchange e s) = withExchange e (rebind s) := by
  have drops := foldl_exchange e (step := fun t i => dropTouch i t) (fun t i => dropTouch_exchange e i t) (changedStrips s) s
  exact (congrArg ((changedStrips s).foldl rebindStrip) drops).trans
    (foldl_exchange e (step := rebindStrip) (fun _ _ => rfl) (changedStrips s) _)

/-- The exchange in progress, unless its module is expected no longer (R118). -/
def keptExchange (u : Surface) : Option Exchange :=
  match u.exchange with
  | some x => if u.expected ≤ x.module.val then none else some x
  | none => none

theorem discardExchange_eq (s : State) : discardExchange s = withExchange (keptExchange s.surf) s := by
  have kept : s = withExchange s.surf.exchange s := rfl
  unfold discardExchange keptExchange
  cases polling : s.surf.exchange with
  | none => exact kept.trans (by rw [polling])
  | some x =>
    dsimp only
    split
    · rfl
    · exact kept.trans (by rw [polling])

/-! ## The modules that M no longer covers (R133) -/

/-- From s to u the modules of a list went OFFLINE: their records and strips, and nothing else of the surface. -/
structure WentOffline (l : List ModuleId) (s u : Surface) : Prop where
  modules : ∀ j : ModuleId, u.modules[j] = if j ∈ l then offlineRecord s.modules[j] else s.modules[j]
  strips : ∀ i : StripId, u.strips[i] = if moduleOf i ∈ l then disarmed s.strips[i] else s.strips[i]
  rest : { u with modules := s.modules, strips := s.strips } = s

theorem wentOffline (cause : ModuleCause) : ∀ {l : List ModuleId} (_ : l.Nodup) (s : State),
    WentOffline l s.surf (l.foldl (fun s m => goOffline m cause s) s).surf
  | [], _, _ => ⟨fun _ => rfl, fun _ => rfl, rfl⟩
  | m :: l, nodup, s => by
    obtain ⟨fresh, nodup⟩ := List.nodup_cons.mp nodup
    have first := goOffline_goesOffline m cause s
    have modules (j : ModuleId) : (goOffline m cause s).surf.modules[j] =
        if m = j then offlineRecord s.surf.modules[j] else s.surf.modules[j] := by
      rw [first.modules, Fin.getElem_fin, Vector.getElem_set]
      by_cases same : m = j
      · rw [if_pos same, if_pos (congrArg Fin.val same), same]
      · rw [if_neg same, if_neg (fun e => same (Fin.ext e))]
        rfl
    obtain ⟨modules', strips', rest'⟩ := wentOffline cause nodup (goOffline m cause s)
    rw [List.foldl_cons]
    refine ⟨fun j => ?_, fun i => ?_, ?_⟩
    · rw [modules', modules]
      by_cases same : m = j
      · rw [if_neg (same ▸ fresh), if_pos same, if_pos (same ▸ List.mem_cons_self)]
      · rw [if_neg same]
        exact if_congr (by simp [Ne.symm same]) rfl rfl
    · rw [strips', first.strips]
      by_cases same : moduleOf i = m
      · rw [if_neg (same ▸ fresh), if_pos same, if_pos (same ▸ List.mem_cons_self)]
      · rw [if_neg same]
        exact if_congr (by simp [same]) rfl rfl
    · exact (congrArg (fun u : Surface => { u with modules := s.surf.modules, strips := s.surf.strips }) rest').trans first.surf

theorem mem_removedModules (s : State) (j : ModuleId) :
    j ∈ removedModules s ↔ s.surf.modules[j].online = true ∧ s.surf.expected ≤ j.val := by
  unfold removedModules allFin
  simp only [List.mem_filter, List.mem_finRange, true_and, Bool.and_eq_true, decide_eq_true_eq]

/-- The modules removed by a change of M, the bindings not yet recomputed. -/
def modulesRemoved (s : State) : State := (removedModules s).foldl (fun s m => goOffline m .removed s) s

theorem modulesRemoved_offline (s : State) : WentOffline (removedModules s) s.surf (modulesRemoved s).surf :=
  wentOffline .removed ((List.nodup_finRange 4).filter _) s

/-- A change of M: the modules removed, the bindings recomputed, the exchange kept or discarded, the rotation restarted. -/
theorem changeExpected_eq (s : State) : changeExpected s =
    updSurf (fun u => { u with nextPoll := 0 })
      (withExchange (keptExchange (modulesRemoved s).surf) (rebind (modulesRemoved s))) :=
  congrArg (updSurf fun u => { u with nextPoll := 0 })
    ((congrArg rebind (discardExchange_eq (modulesRemoved s))).trans (rebind_exchange _ _))

/-- A strip after its module went OFFLINE or not, and a rebinding after that. -/
theorem strip_configured {t : Strip} {b : Option Chan} {gone : Prop} [Decidable gone] :
    (if b = (if gone then disarmed t else t).binding then (if gone then disarmed t else t)
      else reboundTo b (if gone then disarmed t else t)) =
    if b ≠ t.binding ∨ gone then { t with binding := b, touch := false, counter := 0, armed := false } else t := by
  by_cases gone' : gone
  · simp only [gone', if_true, or_true]
    split
    · rename_i same
      rw [same]
      rfl
    · rfl
  · simp only [gone', if_false, or_false, ne_eq, ite_not]
    rfl

/-- What a change of M leaves of a surface, and what besides the surface it changes. -/
structure Reconfigured (s w : State) : Prop where
  modules : ∀ j : ModuleId, w.surf.modules[j] =
    if j ∈ removedModules s then offlineRecord s.surf.modules[j] else s.surf.modules[j]
  strips : ∀ i : StripId, w.surf.strips[i] =
    if w.surf.strips[i].binding ≠ s.surf.strips[i].binding ∨ moduleOf i ∈ removedModules s then
      { s.surf.strips[i] with binding := w.surf.strips[i].binding, touch := false, counter := 0, armed := false }
    else s.surf.strips[i]
  bindings : ∀ i : StripId, w.surf.strips[i].binding = bindingOf w.surf i
  rest : { w.surf with modules := s.surf.modules, strips := s.surf.strips } =
    { s.surf with nextPoll := 0, exchange := keptExchange s.surf }
  releases : ReleasesTouches ((allFin 32).filter fun i => w.surf.strips[i].binding != s.surf.strips[i].binding)
    (modulesRemoved s) w

theorem changeExpected_reconfigured (s : State) : Reconfigured s (changeExpected s) := by
  obtain ⟨modules, strips, rest⟩ := modulesRemoved_offline s
  have releases := rebind_releases (modulesRemoved s)
  have bound := rebind_binding (modulesRemoved s)
  have rebound := rebind_strip (modulesRemoved s)
  have settings := (rebind_strips (modulesRemoved s)).rest
  have same (i : StripId) : (modulesRemoved s).surf.strips[i].binding = s.surf.strips[i].binding := by
    rw [strips]
    split <;> rfl
  have changed : ((allFin 32).filter fun i => (rebind (modulesRemoved s)).surf.strips[i].binding != s.surf.strips[i].binding) =
      changedStrips (modulesRemoved s) :=
    (List.filter_congr fun i _ => by rw [same]).trans (changedStrips_rebind (modulesRemoved s))
  rw [changeExpected_eq]
  rw [← changed] at releases
  generalize rebind (modulesRemoved s) = v at *
  refine ⟨fun j => ?_, fun i => ?_, bound, ?_, ReleasesTouches.then releases ⟨rfl⟩⟩
  · exact ((congrArg (fun x : Surface => x.modules[j]) settings.symm :).symm.trans (modules j) :)
  · have strip := rebound i
    rw [strips] at strip
    exact strip.trans strip_configured
  · have whole : { v.surf with modules := s.surf.modules, strips := s.surf.strips } = s.surf :=
      (congrArg (fun x : Surface => { x with modules := s.surf.modules, strips := s.surf.strips }) settings).trans rest
    have kept : keptExchange (modulesRemoved s).surf = keptExchange s.surf := (congrArg keptExchange rest :)
    exact (congrArg (fun e => { v.surf with
      modules := s.surf.modules, strips := s.surf.strips, nextPoll := 0, exchange := e }) kept).trans
      (congrArg (fun x : Surface => { x with nextPoll := 0, exchange := keptExchange s.surf }) whole)

/-! ## The settled claims -/

/-- The settings of a request, brought into range (R133). -/
def settings (m n db g : Nat) : SurfaceSettings := ⟨m, n, min db 32, min g 10000⟩

theorem reqSurfaceConfig_eq {m n db g : Nat} (hm : m < 256) (hn : n < 256) (hdb : db < 256) (hg : g < 65536) (u : State) :
    reqSurfaceConfig (u8 m ++ u8 n ++ u8 db ++ u16 g) u = if 4 < m ∨ n = 0 ∨ 4 < n then refuse .badValue u else
      accept (flag (decide (32 < db) || decide (10000 < g)) ++ settingsField (configSurface (settings m n db g) u).surf)
        (settle (configSurface (settings m n db g) u)) := by
  show reqSurfaceConfig [BitVec.ofNat 8 m, BitVec.ofNat 8 n, BitVec.ofNat 8 db, BitVec.ofNat 8 g, BitVec.ofNat 8 (g / 256)] u = _
  unfold reqSurfaceConfig
  simp only [toNat_ofNat hm, toNat_ofNat hn, toNat_ofNat hdb, le16_ofNat hg]
  rfl

/-- Settles O37: the refusal, the settings alone, and a change of M. -/
theorem surfaceConfig : Obligations.SurfaceConfig := by
  intro tag s m n db g idle hm hn hdb hg
  have served := reqSurfaceConfig_eq hm hn hdb hg (received s)
  have flags : (decide (32 < db) || decide (10000 < g)) = decide (32 < db ∨ 10000 < g) := (Bool.decide_or _ _).symm
  have fits : (u8 m ++ u8 n ++ u8 db ++ u16 g).length ≤ 1024 := by simp [u8, u16]
  rw [flags] at served
  refine ⟨fun wrong => exec_idle rfl idle fits (served.trans (if_pos wrong)), fun same lowM posN lowN => ?_,
    fun differs lowM posN lowN => ?_⟩
  · have served := served.trans (if_neg (by omega))
    have alone : configSurface (settings m n db g) (received s) = { received s with
        surf := { s.surf with qualify := n, deadBand := min db 32, glide := min g 10000 } } := by
      refine (if_pos same).trans ?_
      subst same
      rfl
    refine exec_idle rfl idle fits (served.trans ?_)
    rw [alone, same]
    rfl
  · have served := served.trans (if_neg (by omega))
    have keeps := configSurface_keepsClock (settings m n db g) (received s)
    have changes : configSurface (settings m n db g) (received s) =
        changeExpected (updSurf (Surface.withSettings (settings m n db g)) (received s)) := if_neg differs
    rw [changes] at served keeps
    obtain ⟨modules, strips, bindings, rest, releases⟩ :=
      changeExpected_reconfigured (updSurf (Surface.withSettings (settings m n db g)) (received s))
    have removed (j : ModuleId) := mem_removedModules (updSurf (Surface.withSettings (settings m n db g)) (received s)) j
    have gone : GoOffline .removed ((allFin 4).filter fun j => s.surf.modules[j].online && decide (m ≤ j.val))
        (updSurf (Surface.withSettings (settings m n db g)) (received s))
        (modulesRemoved (updSurf (Surface.withSettings (settings m n db g)) (received s))) :=
      goOffline_fold .removed _ _
    generalize changeExpected _ = w at *
    have expected : w.surf.expected = m := (congrArg Surface.expected rest :)
    have qualify : w.surf.qualify = n := (congrArg Surface.qualify rest :)
    have deadBand : w.surf.deadBand = min db 32 := (congrArg Surface.deadBand rest :)
    have glide : w.surf.glide = min g 10000 := (congrArg Surface.glide rest :)
    have fields : settingsField w.surf = u8 m ++ u8 n ++ u8 (min db 32) ++ u16 (min g 10000) := by
      unfold settingsField
      rw [expected, qualify, deadBand, glide]
    have online (j : ModuleId) (above : m ≤ j.val) : w.surf.modules[j] =
        if s.surf.modules[j].online then offlineRecord s.surf.modules[j] else s.surf.modules[j] :=
      (modules j).trans (if_congr ((removed j).trans (and_iff_left above)) rfl rfl)
    have strip (i : StripId) := (strips i).trans
      (if_congr (or_congr_right ((removed (moduleOf i)).trans and_comm)) rfl rfl)
    refine ⟨w, ?_, expected, qualify, deadBand, glide, (congrArg Surface.nextPoll rest :), (congrArg Surface.offsetA rest :),
      (congrArg Surface.offsetB rest :), (congrArg Surface.split rest :), fun j above => ?_, online, fun j below => ?_, bindings,
      fun i => ?_, strip, (congrArg Surface.exchange rest :), (congrArg Surface.begun rest :), ⟨_, gone, releases⟩, keeps⟩
    · refine exec_idle rfl idle fits (served.trans ?_)
      rw [fields]
      rfl
    · rw [online j above]
      cases here : s.surf.modules[j].online with
      | true => rfl
      | false => exact here
    · exact (modules j).trans (if_neg fun mem => absurd ((removed j).mp mem).2 (not_le.mpr below))
    · rw [strips i]
      split <;> rfl

end Sys2Proof.SurfaceConfig
end
